-- ==== Sys2Proof/Word.lean ====
section
/-! DEFINITION. The words of the two serial lines: a character's data is a byte, a record's sequence
number is a 16-bit word (R109, R175, R167). -/

namespace Sys2Proof

/-- The eight data bits of a character (R109, R175), and one byte of a frame or record (R194). -/
abbrev Byte := BitVec 8

/-- The 16-bit sequence number of a record (R159, R167). -/
abbrev SeqNumber := BitVec 16

end Sys2Proof
end

