-- ==== Sys2Proof/Config.lean ====
section
/-! DEFINITION. The constants the manual fixes for the part, and the free values: what the manual leaves
without a value stands here as a constant with no body (log 11, log 31). -/

namespace Sys2Proof.Config

/-- Segments that may be appended to one plan queue (R6, R7). -/
def appendCapacity : Nat := 48
/-- Entries of one lookahead queue (R111, R114). -/
def lookaheadCapacity : Nat := 128
/-- Common slots of the record pool (R165). -/
def commonSlots : Nat := 960
/-- Reserved slots of one present head (R165). -/
def reservedSlots : Nat := 32
/-- Invalid conversions a TORQUE or TEMP channel may hold before SENSOR is raised (R133). -/
def graceLimit : Nat := 250
/-- Readings of one calibration (R154, R155). -/
def calibrationSamples : Nat := 256
/-- Payload bytes the frame buffer stores (R177, R179). -/
def payloadCapacity : Nat := 240
/-- Characters of a track report (R109). -/
def reportLength : Nat := 12
/-- The sync value of a track report (R197). -/
def reportSync : Byte := 0xA5
/-- The broadcast address (R176). -/
def broadcastAddress : Byte := 0x0F
/-- The greatest value of a counter (R172). -/
def counterMax : Nat := 4294967295
/-- The greatest value of a 16-bit count (R61, R163). -/
def count16Max : Nat := 65535

/-- DESIGN CHOICE, free (log 11): the spindle speed a head in SPINUP, PLUNGE, DWELL, WELD or PAUSE takes
when it has no segment in force; R29 gives none. The argument is State's free-value counter. -/
opaque freeSpindle : Nat → Nat
/-- DESIGN CHOICE, free (log 11): the "segment id in force" of a record when no segment is in force
(R22, R160); the manual gives none. The argument is State's free-value counter. -/
opaque freeSegmentId : Nat → Nat
/-- DESIGN CHOICE, free (log 31): the segment id field of a READ STATUS reply whose presence bit says that
no segment is in force (R59, R195). -/
opaque freeStatusId : Nat → Nat

end Sys2Proof.Config
end

