-- ==== Sys2Proof/Syntax.lean ====
section
/-! DEFINITION. The commands of the part: one constructor of Instr for each row of spec/opcode_table.json, and the
data a command carries. Code fields of a request are the numbers received (R194); WellFormed.lean says which fit. -/

namespace Sys2Proof

/-- The two weld heads (R194: 0 A, 1 B). -/
inductive Head where
  | a
  | b
  deriving DecidableEq, Repr

/-- The second head of the same part (Ch. 2, opening). -/
def Head.other : Head → Head
  | .a => .b
  | .b => .a

/-- A segment record as APPEND SEGMENT carries it, before any check (R2, R196). The four code fields are the
code bytes received. -/
structure SegmentRecord where
  id : Nat
  start : Nat
  length : Nat
  zone : Nat
  force : Nat
  spindle : Nat
  cap : Nat
  windowMin : Nat
  windowMax : Nat
  tracking : Nat
  gapAction : Nat
  endAction : Nat
  deriving DecidableEq, Repr

/-- The LIMITS set (R143). -/
structure LimitsSet where
  forceMax : Nat
  torqueMax : Nat
  torqueSoft : Nat
  tempMax : Nat
  spindleMax : Nat
  gapLimit : Nat
  mismatchLimit : Nat
  deriving DecidableEq, Repr

/-- The TOOL set (R144). -/
structure ToolSet where
  seamOrigin : Nat
  pinLength : Nat
  depthHardMax : Nat
  clearance : Nat
  plungeDepth : Nat
  plungeRate : Nat
  plungeForceLimit : Nat
  plungeTimeout : Nat
  dwell : Nat
  retractRate : Nat
  trackPitch : Nat
  deriving DecidableEq, Repr

/-- The REGULATOR set (R145). -/
structure RegulatorSet where
  kp : Nat
  ki : Nat
  slew : Nat
  softTemp : Nat
  thermalSlope : Nat
  pauseFactor : Nat
  excursionBand : Nat
  excursionLength : Nat
  lateralSlew : Nat
  deriving DecidableEq, Repr

/-- The TRAVEL set (R146). -/
structure TravelSet where
  acceleration : Nat
  approachSpeed : Nat
  minWeldSpeed : Nat
  pauseAllowance : Nat
  starvationAllowance : Nat
  trackHold : Nat
  spinupTimeout : Nat
  bedEnd : Nat
  calibrationBudget : Nat
  deriving DecidableEq, Repr

/-- What LOAD PROFILE carries: the fields of the set its set code names, or a code that names no set (R147). -/
inductive ProfileLoad where
  | limits (p : LimitsSet)
  | tool (p : ToolSet)
  | regulator (p : RegulatorSet)
  | travel (p : TravelSet)
  | unknown (code : Nat)
  deriving DecidableEq, Repr

/-- Whom a STOP SEAM is sent to: a head of this device by its code (R49), or every head of every device (R50).
`first` is the head that takes the broadcast first (log 3). -/
inductive StopTarget where
  | head (code : Nat)
  | broadcast (first : Head)
  deriving DecidableEq, Repr

/-- The five straps sampled at the negation of RESET (R190). -/
structure Straps where
  address : BitVec 3
  /-- The baud strap: true is 460,800 baud (R175). -/
  fast : Bool
  /-- The head-B-present strap. -/
  headB : Bool
  deriving DecidableEq, Repr

/-- One reading of an analog channel with its connection sense (R127, R128). -/
structure AnalogReading where
  reading : Int
  connected : Bool
  deriving DecidableEq, Repr

/-- One reading of an encoder: the count, whether both quadrature inputs changed together, and the connection
sense (R127, R128). -/
structure EncoderReading where
  count : Int
  jumped : Bool
  connected : Bool
  deriving DecidableEq, Repr

/-- What one head sample reads from outside: four conversions and the drive status inputs (R127, R136). -/
structure SampleInput where
  force : AnalogReading
  torque : AnalogReading
  temp : AnalogReading
  depth : EncoderReading
  spindleReady : Bool
  atSpeed : Bool
  plungeReady : Bool
  lateralReady : Bool
  travelReady : Bool
  deriving DecidableEq, Repr

/-- What one governor update reads from outside: the gantry conversion and the travel drive's ready input
(R127, R136). -/
structure UpdateInput where
  gantry : EncoderReading
  travelReady : Bool
  deriving DecidableEq, Repr

/-- A head's own channels (R127). -/
inductive HeadChannel where
  | force
  | torque
  | temp
  | depth
  deriving DecidableEq, Repr

/-- The five continuous checks of R46; the drive and sensor ones are also those of R39. -/
inductive FaultCheck where
  | torque
  | temp
  | drive
  | travelDrive
  | sensor
  deriving DecidableEq, Repr

/-- The pieces of work done at one head sample once its conversions are taken (R62, R10, R115, R162, R46, R27). -/
inductive SampleAct where
  | regulator
  | forceRun
  | station
  | track
  | log
  | grace
  | check (c : FaultCheck)
  | sequence
  deriving DecidableEq, Repr

/-- How one head sample resolves what the manual leaves open (log 1, log 4): the order of its conversions and of
its pieces of work (those not listed follow in a default order), whether the head sequencer takes a GAP condition
before the mismatch check (R193), and whether the findings that are rows of their own are left to those rows. -/
structure SampleOrder where
  conversions : List HeadChannel
  acts : List SampleAct
  gapFirst : Bool
  split : Bool
  deriving DecidableEq, Repr

/-- The conditions one governor update raises at a head (R94, R99, R102 to R104). -/
inductive UpdateAct where
  | pause (h : Head)
  | bedEnd (h : Head)
  | arrival (h : Head)
  deriving DecidableEq, Repr

/-- How one governor update resolves what the manual leaves open (log 2, log 4): the head whose GANTRY fault
record is created first, the order of the conditions, and whether arrivals and pause limits are left to their
own rows. -/
structure UpdateOrder where
  first : Head
  acts : List UpdateAct
  split : Bool
  deriving DecidableEq, Repr

/-- The commands: one constructor for each row of spec/opcode_table.json. -/
inductive Instr where
  | identify
  | readStatus (head : Nat)
  | startSeam (head : Nat)
  | stopSeam (target : StopTarget)
  | restartSeam (head overlap : Nat)
  | abandonSeam (head : Nat)
  | resetHead (head : Nat)
  | appendSegment (head : Nat) (seg : SegmentRecord)
  | clearPlan (head : Nat)
  | readPlan (head : Nat)
  | loadProfile (head : Nat) (load : ProfileLoad)
  | readProfile (head profile : Nat)
  | calibrate (head : Nat)
  | setChannel (head channel setting enable : Nat) (value : Int)
  | readChannels (head : Nat)
  | setLog (pitch thresholdA thresholdB : Nat)
  | readRecords (head count : Nat)
  | readCounters (scope clear : Nat)
  | resetDevice (broadcast : Bool)
  | resetTakesPlace
  | resetInputAsserted
  | resetInputNegated (straps : Straps)
  | haltInputAsserted (first : Head)
  | haltInputNegated
  | lineBreak (first : Head)
  | breakDetectorRearm
  | addressCharacter (data : Byte)
  | controlFramingError
  | frameSilenceTimeout
  | frameComplete (check : Byte) (first : Head)
  | replyStart
  | replyEnd
  | trackReportArrival (rest : List Byte)
  | trackFramingError
  | trackSilenceTimeout
  | headSample (h : Head) (inp : SampleInput) (order : SampleOrder)
  | atSpeed (h : Head)
  | spinupTimeout (h : Head)
  | plungeDone (h : Head)
  | plungeTimeout (h : Head)
  | dwellElapsed (h : Head)
  | exitRetractComplete (h : Head)
  | interruptingRetractComplete (h : Head)
  | forceLimit (h : Head)
  | excursion (h : Head)
  | graceExhausted (h : Head)
  | calibrationJudged (h : Head)
  | governorUpdate (inp : UpdateInput) (order : UpdateOrder)
  | arrival (h : Head)
  | pauseLimit (h : Head)
  | dataCharacter (data : Byte) (first : Head)
  | trackerCharacter (data : Byte)
  deriving DecidableEq, Repr

end Sys2Proof
end

