-- ==== Sys2Proof/WellFormed.lean ====
section
/-! DEFINITION. Which commands can be sent at all: every field fits the type that carries it on the line (R194 to R197),
every reading lies on its channel's raw scale (R127), and an order names each piece of work at most once. -/

namespace Sys2Proof

/-- The value fits an unsigned field of `bytes` bytes (R194). -/
def fits (bytes n : Nat) : Bool := n < 256 ^ bytes

/-- The value fits the two's complement field of two bytes (R194). -/
def fitsSigned16 (v : Int) : Bool := -32768 ≤ v && v ≤ 32767

/-- The value lies on a scale, ends included (R127). -/
def onScale (lo hi v : Int) : Bool := lo ≤ v && v ≤ hi

/-- Every field of a segment record fits its bytes (R196). -/
def SegmentRecord.wellFormed (g : SegmentRecord) : Bool :=
  fits 2 g.id && fits 3 g.start && fits 3 g.length && fits 1 g.zone && fits 2 g.force && fits 2 g.spindle &&
  fits 2 g.cap && fits 2 g.windowMin && fits 2 g.windowMax && fits 1 g.tracking && fits 1 g.gapAction &&
  fits 1 g.endAction

/-- Every field of a LIMITS set fits its bytes (R196). -/
def LimitsSet.wellFormed (p : LimitsSet) : Bool :=
  fits 2 p.forceMax && fits 2 p.torqueMax && fits 2 p.torqueSoft && fits 2 p.tempMax && fits 2 p.spindleMax &&
  fits 1 p.gapLimit && fits 1 p.mismatchLimit

/-- Every field of a TOOL set fits its bytes (R196). -/
def ToolSet.wellFormed (p : ToolSet) : Bool :=
  fits 3 p.seamOrigin && fits 2 p.pinLength && fits 2 p.depthHardMax && fits 2 p.clearance && fits 2 p.plungeDepth &&
  fits 2 p.plungeRate && fits 2 p.plungeForceLimit && fits 2 p.plungeTimeout && fits 2 p.dwell &&
  fits 2 p.retractRate && fits 1 p.trackPitch

/-- Every field of a REGULATOR set fits its bytes (R196). -/
def RegulatorSet.wellFormed (p : RegulatorSet) : Bool :=
  fits 2 p.kp && fits 2 p.ki && fits 1 p.slew && fits 2 p.softTemp && fits 1 p.thermalSlope && fits 2 p.pauseFactor &&
  fits 2 p.excursionBand && fits 2 p.excursionLength && fits 1 p.lateralSlew

/-- Every field of a TRAVEL set fits its bytes (R196). -/
def TravelSet.wellFormed (p : TravelSet) : Bool :=
  fits 1 p.acceleration && fits 2 p.approachSpeed && fits 2 p.minWeldSpeed && fits 1 p.pauseAllowance &&
  fits 2 p.starvationAllowance && fits 2 p.trackHold && fits 2 p.spinupTimeout && fits 3 p.bedEnd &&
  fits 1 p.calibrationBudget

/-- The fields fit the set named; a code that names no set is a byte above 3 (R194). -/
def ProfileLoad.wellFormed : ProfileLoad → Bool
  | .limits p => p.wellFormed
  | .tool p => p.wellFormed
  | .regulator p => p.wellFormed
  | .travel p => p.wellFormed
  | .unknown code => fits 1 code && 4 ≤ code

/-- Every reading of a head sample lies on its raw scale (R127). -/
def SampleInput.wellFormed (i : SampleInput) : Bool :=
  onScale (-2000) 8000 i.force.reading && onScale (-500) 6500 i.torque.reading &&
  onScale (-50) 850 i.temp.reading && onScale (-50000) 20000 i.depth.count

/-- Each conversion and each piece of work is named at most once (log 1). -/
def SampleOrder.wellFormed (o : SampleOrder) : Bool := o.conversions.Nodup && o.acts.Nodup

/-- The commands that can be sent. -/
def Instr.wellFormed : Instr → Bool
  | .identify => true
  | .readStatus head => fits 1 head
  | .startSeam head => fits 1 head
  | .stopSeam (.head code) => fits 1 code
  | .stopSeam (.broadcast _) => true
  | .restartSeam head overlap => fits 1 head && fits 2 overlap
  | .abandonSeam head => fits 1 head
  | .resetHead head => fits 1 head
  | .appendSegment head seg => fits 1 head && seg.wellFormed
  | .clearPlan head => fits 1 head
  | .readPlan head => fits 1 head
  | .loadProfile head load => fits 1 head && load.wellFormed
  | .readProfile head profile => fits 1 head && fits 1 profile
  | .calibrate head => fits 1 head
  | .setChannel head channel setting enable value =>
    fits 1 head && fits 1 channel && fits 1 setting && fits 1 enable && fitsSigned16 value
  | .readChannels head => fits 1 head
  | .setLog pitch thresholdA thresholdB => fits 2 pitch && fits 2 thresholdA && fits 2 thresholdB
  | .readRecords head count => fits 1 head && fits 1 count
  | .readCounters scope clear => fits 1 scope && fits 1 clear
  | .resetDevice _ => true
  | .resetTakesPlace => true
  | .resetInputAsserted => true
  | .resetInputNegated _ => true
  | .haltInputAsserted _ => true
  | .haltInputNegated => true
  | .lineBreak _ => true
  | .breakDetectorRearm => true
  | .addressCharacter _ => true
  | .controlFramingError => true
  | .frameSilenceTimeout => true
  | .frameComplete _ _ => true
  | .replyStart => true
  | .replyEnd => true
  | .trackReportArrival rest => 1 ≤ rest.length && rest.length ≤ Config.reportLength
  | .trackFramingError => true
  | .trackSilenceTimeout => true
  | .headSample _ inp order => inp.wellFormed && order.wellFormed
  | .atSpeed _ => true
  | .spinupTimeout _ => true
  | .plungeDone _ => true
  | .plungeTimeout _ => true
  | .dwellElapsed _ => true
  | .exitRetractComplete _ => true
  | .interruptingRetractComplete _ => true
  | .forceLimit _ => true
  | .excursion _ => true
  | .graceExhausted _ => true
  | .calibrationJudged _ => true
  | .governorUpdate inp order => onScale 0 400000 inp.gantry.count && order.acts.Nodup
  | .arrival _ => true
  | .pauseLimit _ => true
  | .dataCharacter _ _ => true
  | .trackerCharacter _ => true

end Sys2Proof
end

