-- ==== Sys2Proof/Decode.lean ====
section
/-! DEFINITION. Bytes and commands. No row of spec/opcode_table.json has bits, so no word spells a command. What the
part does decode is the payload of a request frame (R194 to R196): `decodeRequest`, with `encodeRequest` after it. -/

namespace Sys2Proof

/-- The command a table word spells: none, since no row of the table gives bits. -/
def decodeTableWord (_nbits _w : Nat) : Option Instr := none

/-- An integer as `n` bytes, least significant first, two's complement (R194; 00_scope.md, "Byte order"). -/
def leBytes : Nat → Int → List Byte
  | 0, _ => []
  | n + 1, v => BitVec.ofInt 8 v :: leBytes n (v / 256)

/-- The byte at an offset of a payload; a byte beyond its end reads 0. -/
def byteAt (l : List Byte) (i : Nat) : Nat := (l.getD i 0).toNat

/-- A u16 field at an offset (R194). -/
def u16At (l : List Byte) (i : Nat) : Nat := byteAt l i + 256 * byteAt l (i + 1)

/-- A u24 field at an offset (R194). -/
def u24At (l : List Byte) (i : Nat) : Nat := u16At l i + 65536 * byteAt l (i + 2)

/-- An s16 field at an offset (R194). -/
def s16At (l : List Byte) (i : Nat) : Int :=
  if u16At l i < 32768 then (u16At l i : Int) else (u16At l i : Int) - 65536

/-- An s24 field at an offset (R194). -/
def s24At (l : List Byte) (i : Nat) : Int :=
  if u24At l i < 8388608 then (u24At l i : Int) else (u24At l i : Int) - 16777216

/-- The segment record at bytes 1 to 23 of an APPEND SEGMENT payload (R195, R196); byte 13 of the record is ignored. -/
def segmentAt (p : List Byte) : SegmentRecord :=
  { id := u16At p 1, start := u24At p 3, length := u24At p 6, zone := byteAt p 9, force := u16At p 10,
    spindle := u16At p 12, cap := u16At p 15, windowMin := u16At p 17, windowMax := u16At p 19,
    tracking := byteAt p 21, gapAction := byteAt p 22, endAction := byteAt p 23 }

/-- The fields of a LIMITS set from byte 2 of a LOAD PROFILE payload (R196). -/
def limitsAt (p : List Byte) : LimitsSet :=
  { forceMax := u16At p 2, torqueMax := u16At p 4, torqueSoft := u16At p 6, tempMax := u16At p 8,
    spindleMax := u16At p 10, gapLimit := byteAt p 12, mismatchLimit := byteAt p 13 }

/-- The fields of a TOOL set from byte 2 of a LOAD PROFILE payload (R196). -/
def toolAt (p : List Byte) : ToolSet :=
  { seamOrigin := u24At p 2, pinLength := u16At p 5, depthHardMax := u16At p 7, clearance := u16At p 9,
    plungeDepth := u16At p 11, plungeRate := u16At p 13, plungeForceLimit := u16At p 15, plungeTimeout := u16At p 17,
    dwell := u16At p 19, retractRate := u16At p 21, trackPitch := byteAt p 23 }

/-- The fields of a REGULATOR set from byte 2 of a LOAD PROFILE payload (R196). -/
def regulatorAt (p : List Byte) : RegulatorSet :=
  { kp := u16At p 2, ki := u16At p 4, slew := byteAt p 6, softTemp := u16At p 7, thermalSlope := byteAt p 9,
    pauseFactor := u16At p 10, excursionBand := u16At p 12, excursionLength := u16At p 14, lateralSlew := byteAt p 16 }

/-- The fields of a TRAVEL set from byte 2 of a LOAD PROFILE payload (R196). -/
def travelAt (p : List Byte) : TravelSet :=
  { acceleration := byteAt p 2, approachSpeed := u16At p 3, minWeldSpeed := u16At p 5, pauseAllowance := byteAt p 7,
    starvationAllowance := u16At p 8, trackHold := u16At p 10, spinupTimeout := u16At p 12, bedEnd := u24At p 14,
    calibrationBudget := byteAt p 17 }

/-- The fields of the set that the set code names (R194, R196). -/
def profileAt (p : List Byte) : ProfileLoad :=
  match byteAt p 1 with
  | 0 => .limits (limitsAt p)
  | 1 => .tool (toolAt p)
  | 2 => .regulator (regulatorAt p)
  | 3 => .travel (travelAt p)
  | code => .unknown code

/-- The kind names one of the nineteen requests (R183 check 1, R195). -/
def knownKind (kind : Byte) : Bool := 1 ≤ kind.toNat && kind.toNat ≤ 19

/-- The length check of R183: the length L is the length that the kind requires (R195, R196). For LOAD PROFILE it is
the length of the set its set code names, and any length when the code names none; a LOAD PROFILE too short to hold
a set code is refused (log 30). -/
def lengthGood (kind : Byte) (len : Nat) (payload : List Byte) : Bool :=
  match kind.toNat with
  | 0x01 => len == 0
  | 0x05 => len == 3
  | 0x08 => len == 24
  | 0x0B => 2 ≤ len &&
    (match byteAt payload 1 with
      | 0 => len == 14
      | 1 => len == 24
      | 2 => len == 17
      | 3 => len == 18
      | _ => true)
  | 0x0C => len == 2
  | 0x0E => len == 6
  | 0x10 => len == 6
  | 0x11 => len == 2
  | 0x12 => len == 2
  | 0x13 => len == 0
  | _ => len == 1

/-- The request that a kind and a payload of good length stand for (R195). -/
def decodeRequest (kind : Byte) (p : List Byte) : Option Instr :=
  match kind.toNat with
  | 0x01 => some .identify
  | 0x02 => some (.readStatus (byteAt p 0))
  | 0x03 => some (.startSeam (byteAt p 0))
  | 0x04 => some (.stopSeam (.head (byteAt p 0)))
  | 0x05 => some (.restartSeam (byteAt p 0) (u16At p 1))
  | 0x06 => some (.abandonSeam (byteAt p 0))
  | 0x07 => some (.resetHead (byteAt p 0))
  | 0x08 => some (.appendSegment (byteAt p 0) (segmentAt p))
  | 0x09 => some (.clearPlan (byteAt p 0))
  | 0x0A => some (.readPlan (byteAt p 0))
  | 0x0B => some (.loadProfile (byteAt p 0) (profileAt p))
  | 0x0C => some (.readProfile (byteAt p 0) (byteAt p 1))
  | 0x0D => some (.calibrate (byteAt p 0))
  | 0x0E => some (.setChannel (byteAt p 0) (byteAt p 1) (byteAt p 2) (byteAt p 3) (s16At p 4))
  | 0x0F => some (.readChannels (byteAt p 0))
  | 0x10 => some (.setLog (u16At p 0) (u16At p 2) (u16At p 4))
  | 0x11 => some (.readRecords (byteAt p 0) (byteAt p 1))
  | 0x12 => some (.readCounters (byteAt p 0) (byteAt p 1))
  | 0x13 => some (.resetDevice false)
  | _ => none

/-- The bytes of a LIMITS set (R196). -/
def LimitsSet.bytes (p : LimitsSet) : List Byte :=
  leBytes 2 p.forceMax ++ leBytes 2 p.torqueMax ++ leBytes 2 p.torqueSoft ++ leBytes 2 p.tempMax ++
  leBytes 2 p.spindleMax ++ leBytes 1 p.gapLimit ++ leBytes 1 p.mismatchLimit

/-- The bytes of a TOOL set (R196). -/
def ToolSet.bytes (p : ToolSet) : List Byte :=
  leBytes 3 p.seamOrigin ++ leBytes 2 p.pinLength ++ leBytes 2 p.depthHardMax ++ leBytes 2 p.clearance ++
  leBytes 2 p.plungeDepth ++ leBytes 2 p.plungeRate ++ leBytes 2 p.plungeForceLimit ++ leBytes 2 p.plungeTimeout ++
  leBytes 2 p.dwell ++ leBytes 2 p.retractRate ++ leBytes 1 p.trackPitch

/-- The bytes of a REGULATOR set (R196). -/
def RegulatorSet.bytes (p : RegulatorSet) : List Byte :=
  leBytes 2 p.kp ++ leBytes 2 p.ki ++ leBytes 1 p.slew ++ leBytes 2 p.softTemp ++ leBytes 1 p.thermalSlope ++
  leBytes 2 p.pauseFactor ++ leBytes 2 p.excursionBand ++ leBytes 2 p.excursionLength ++ leBytes 1 p.lateralSlew

/-- The bytes of a TRAVEL set (R196). -/
def TravelSet.bytes (p : TravelSet) : List Byte :=
  leBytes 1 p.acceleration ++ leBytes 2 p.approachSpeed ++ leBytes 2 p.minWeldSpeed ++ leBytes 1 p.pauseAllowance ++
  leBytes 2 p.starvationAllowance ++ leBytes 2 p.trackHold ++ leBytes 2 p.spinupTimeout ++ leBytes 3 p.bedEnd ++
  leBytes 1 p.calibrationBudget

/-- The bytes of a segment record; byte 13 is sent as 0 (R196). -/
def SegmentRecord.bytes (g : SegmentRecord) : List Byte :=
  leBytes 2 g.id ++ leBytes 3 g.start ++ leBytes 3 g.length ++ leBytes 1 g.zone ++ leBytes 2 g.force ++
  leBytes 2 g.spindle ++ leBytes 1 0 ++ leBytes 2 g.cap ++ leBytes 2 g.windowMin ++ leBytes 2 g.windowMax ++
  leBytes 1 g.tracking ++ leBytes 1 g.gapAction ++ leBytes 1 g.endAction

/-- Set code and fields (R194, R196). -/
def ProfileLoad.bytes : ProfileLoad → List Byte
  | .limits p => leBytes 1 0 ++ p.bytes
  | .tool p => leBytes 1 1 ++ p.bytes
  | .regulator p => leBytes 1 2 ++ p.bytes
  | .travel p => leBytes 1 3 ++ p.bytes
  | .unknown code => leBytes 1 code

/-- The kind and payload by which a request is sent to this device (R195); none for what is not sent so. -/
def encodeRequest : Instr → Option (Byte × List Byte)
  | .identify => some (0x01, [])
  | .readStatus h => some (0x02, leBytes 1 h)
  | .startSeam h => some (0x03, leBytes 1 h)
  | .stopSeam (.head h) => some (0x04, leBytes 1 h)
  | .restartSeam h overlap => some (0x05, leBytes 1 h ++ leBytes 2 overlap)
  | .abandonSeam h => some (0x06, leBytes 1 h)
  | .resetHead h => some (0x07, leBytes 1 h)
  | .appendSegment h g => some (0x08, leBytes 1 h ++ g.bytes)
  | .clearPlan h => some (0x09, leBytes 1 h)
  | .readPlan h => some (0x0A, leBytes 1 h)
  | .loadProfile h load => some (0x0B, leBytes 1 h ++ load.bytes)
  | .readProfile h code => some (0x0C, leBytes 1 h ++ leBytes 1 code)
  | .calibrate h => some (0x0D, leBytes 1 h)
  | .setChannel h c t e v => some (0x0E, leBytes 1 h ++ leBytes 1 c ++ leBytes 1 t ++ leBytes 1 e ++ leBytes 2 v)
  | .readChannels h => some (0x0F, leBytes 1 h)
  | .setLog pitch ta tb => some (0x10, leBytes 2 pitch ++ leBytes 2 ta ++ leBytes 2 tb)
  | .readRecords h n => some (0x11, leBytes 1 h ++ leBytes 1 n)
  | .readCounters scope clear => some (0x12, leBytes 1 scope ++ leBytes 1 clear)
  | .resetDevice false => some (0x13, [])
  | .stopSeam (.broadcast _) | .resetDevice true | .resetTakesPlace | .resetInputAsserted | .resetInputNegated _
  | .haltInputAsserted _ | .haltInputNegated | .lineBreak _ | .breakDetectorRearm | .addressCharacter _
  | .controlFramingError | .frameSilenceTimeout | .frameComplete _ _ | .replyStart | .replyEnd | .trackReportArrival _
  | .trackFramingError | .trackSilenceTimeout | .headSample _ _ _ | .atSpeed _ | .spinupTimeout _ | .plungeDone _
  | .plungeTimeout _ | .dwellElapsed _ | .exitRetractComplete _ | .interruptingRetractComplete _ | .forceLimit _
  | .excursion _ | .graceExhausted _ | .calibrationJudged _ | .governorUpdate _ _ | .arrival _ | .pauseLimit _
  | .dataCharacter _ _ | .trackerCharacter _ => none

end Sys2Proof
end

