-- ==== Sys2Proof/Machine/State.lean ====
section
/-! DEFINITION. Every piece of state the manual gives the part, as plain data; the state after reset; and the
accessors through which the blocks of one head are read and written. INVENTORY.md lists each item with its rule. -/

namespace Sys2Proof.Machine

/-- Why the part would stop with a fault. No command of this part does: the manual gives every command an effect. -/
inductive Fault where
  /-- Raised by no meaning (safe: a machine that stopped here would only do less). -/
  | undefinedByManual
  deriving DecidableEq, Repr

/-- Why a command would have no meaning. -/
inductive Refusal where
  /-- Raised by no arm of exec: every row has its meaning (safe: a refusal proves nothing false). -/
  | notModelled (mnemonic : String)
  deriving DecidableEq, Repr

/-- The fourteen head states (00_scope.md "Head states and engagement", R27, codes R194). -/
inductive HeadState where
  | uncommissioned
  | commissioning
  | calDue
  | calibrating
  | ready
  | approach
  | spinup
  | plunge
  | dwell
  | weld
  | pause
  | exit
  | interrupting
  | interrupted
  deriving DecidableEq, Repr

/-- FRESH or REENTRY (R27). -/
inductive SeamKind where
  | fresh
  | reentry
  deriving DecidableEq, Repr

/-- FORWARD or REVERSE (R27, R84). -/
inductive Direction where
  | forward
  | reverse
  deriving DecidableEq, Repr

/-- The travel demand of a head (R28). -/
inductive Demand where
  | idle
  | hold
  | advance
  | approach
  deriving DecidableEq, Repr

/-- The fourteen interrupt causes (R45, codes R194). -/
inductive Cause where
  | hostStop
  | halt
  | forceLimit
  | torqueLimit
  | tempLimit
  | sensor
  | drive
  | travelDrive
  | plungeTimeout
  | pauseLimit
  | planStarved
  | gap
  | trackLoss
  | bedEnd
  deriving DecidableEq, Repr

/-- The class of a segment (R2). -/
inductive Zone where
  | runOn
  | body
  | clampGap
  | runOff
  deriving DecidableEq, Repr

/-- What an over-limit gap does (R2). -/
inductive GapAction where
  | slow
  | stop
  deriving DecidableEq, Repr

/-- Whether the seam goes on after a segment: CONTINUE is `carryOn` (R2). -/
inductive EndAction where
  | carryOn
  | exit
  deriving DecidableEq, Repr

/-- A segment record as the plan store holds it (R2). -/
structure Segment where
  id : Nat
  start : Nat
  length : Nat
  zone : Zone
  force : Nat
  spindle : Nat
  cap : Nat
  windowMin : Nat
  windowMax : Nat
  tracking : Bool
  gapAction : GapAction
  endAction : EndAction
  deriving DecidableEq, Repr

/-- The end station: start plus length (R2). -/
def Segment.endStation (g : Segment) : Nat := g.start + g.length

/-- The starvation of a starved head: nominal end and distance used (R15, R16). -/
structure Starvation where
  nominalEnd : Int
  used : Int
  deriving DecidableEq, Repr

/-- The plan store of a head (R6, R13, R15). -/
structure PlanStore where
  queue : List Segment
  retained : Option Segment
  /-- Present exactly while the head is starved. -/
  starved : Option Starvation
  deriving DecidableEq, Repr

/-- The calibration accumulator (R154). -/
structure CalAccumulator where
  origin : Option HeadState
  count : Nat
  sum : Int
  least : Int
  greatest : Int
  deriving DecidableEq, Repr

/-- The head sequencer (R27). The travel demand is a view of `state` (R28, log 26); the pause timer is the
governor's (R84). -/
structure Sequencer where
  state : HeadState
  kind : SeamKind
  target : Int
  direction : Direction
  plungeStation : Int
  weldEntry : Int
  cause : Option Cause
  interruptStation : Int
  reentryStation : Int
  budget : Nat
  ceiling : Nat
  spinupTimer : Int
  plungeTimer : Int
  dwellTimer : Int
  rampAcc : Nat
  /-- A raise of R31 is in progress (log 20). -/
  raising : Bool
  spindle : Nat
  depth : Int
  /-- The TOOL seam origin as taken at the head's latest sample (R112, R151, log 10). -/
  originTaken : Int
  cal : CalAccumulator
  deriving DecidableEq, Repr

/-- The segment a record names: its id (R160) and its zone, which R14 has carried into every record that names the
segment. Where a record is to name the segment in force and none is in force, the id is a free value and there is no zone
(log 11). -/
structure SegmentRef where
  id : Nat
  zone : Option Zone
  deriving DecidableEq, Repr

/-- An excursion as the regulator sample that found it reports it (R77). -/
structure Excursion where
  segment : SegmentRef
  state : HeadState
  peak : Nat
  run : Nat
  negative : Bool
  tool : Int
  deriving DecidableEq, Repr

/-- The force regulator of a head (R61). `excursionsHeld` is the model's own: the excursions that samples with split on
have found and left to their rows, oldest first (log 4). -/
structure Regulator where
  ePrev : Int
  firstSample : Bool
  target : Nat
  saturated : Bool
  slewLimited : Bool
  saturationCount : Nat
  excursionRun : Nat
  excursionPeak : Nat
  excursionLatch : Bool
  forceRun : Nat
  excursionsHeld : List Excursion
  deriving DecidableEq, Repr

/-- A track entry (R111). -/
structure TrackEntry where
  station : Int
  offset : Int
  gap : Nat
  mismatch : Int
  quality : Nat
  deriving DecidableEq, Repr

/-- The seam tracking state of a head (R113). -/
structure Tracking where
  queue : List TrackEntry
  /-- Whether the first entry of the queue is the active entry; clear when there is none. -/
  activeFirst : Bool
  toolStation : Int
  lateralTarget : Int
  lateralCommand : Int
  gapSlow : Bool
  mismatchLatch : Bool
  lossDistance : Int
  deriving DecidableEq, Repr

/-- A sensor channel (R129). -/
structure Channel where
  raw : Int
  valid : Bool
  offset : Int
  overrideOn : Bool
  overrideOffset : Int
  substituteOn : Bool
  substitute : Int
  effective : Int
  lastValid : Int
  fault : Bool
  grace : Nat
  deriving DecidableEq, Repr

/-- The four channels of a head (R127). -/
structure FrontEnd where
  force : Channel
  torque : Channel
  temp : Channel
  depth : Channel
  deriving DecidableEq, Repr

/-- The drive status inputs as the head sequencer last read them (R136). -/
structure DriveInputs where
  spindleReady : Bool
  atSpeed : Bool
  plungeReady : Bool
  lateralReady : Bool
  travelReady : Bool
  deriving DecidableEq, Repr

/-- The commands as presented to the head's drives (R137). -/
structure Applied where
  spindle : Nat
  depth : Int
  lateral : Int
  deriving DecidableEq, Repr

/-- The profile store of a head (R142). -/
structure ProfileStore where
  limits : Option LimitsSet
  tool : Option ToolSet
  regulator : Option RegulatorSet
  travel : Option TravelSet
  progress : Nat
  deriving DecidableEq, Repr

/-- The governor's items of one head (R84). -/
structure HeadTravel where
  permitted : Nat
  pauseTimer : Nat
  pauseElapsed : Nat
  deriving DecidableEq, Repr

/-- START_FAILED reasons (R39, codes R194). -/
inductive StartFailure where
  | spinupTimeout
  | sensor
  | drive
  | travelDrive
  | hostStop
  deriving DecidableEq, Repr

/-- CAL_FAILED reasons (R155, R156, codes R194). -/
inductive CalFailure where
  | offsetRange
  | spread
  | sensor
  | halt
  deriving DecidableEq, Repr

/-- The source of a halt event (R182, R191, codes R194). -/
inductive HaltSource where
  | haltInput
  | lineBreak
  deriving DecidableEq, Repr

/-- The five channel names (R194). -/
inductive ChannelName where
  | force
  | torque
  | temp
  | depth
  | gantry
  deriving DecidableEq, Repr

/-- The kinds of channel fault (R128, codes R194); OPEN is `disconnected`. -/
inductive FaultKind where
  | rail
  | disconnected
  | quadrature
  deriving DecidableEq, Repr

/-- OVERRIDE or SUBSTITUTE (R138). -/
inductive Setting where
  | override
  | substitute
  deriving DecidableEq, Repr

/-- The five ORed flags of the sample accumulator (R162). -/
structure SampleFlags where
  saturated : Bool
  slewLimited : Bool
  substitution : Bool
  gapSlow : Bool
  starved : Bool
  deriving DecidableEq, Repr

/-- The content of a record of each kind (R160, R163), the zone of the segment it names with it (R14). -/
inductive RecordBody where
  | sample (mark : Int) (count : Nat) (forceMean forceLeast forceGreatest depthMean torqueMean tempGreatest : Int)
      (flags : SampleFlags) (speed : Nat) (lateral : Int)
  | seamStart (segment : SegmentRef) (plungeStation tool : Int)
  | startFailed (reason : StartFailure) (kind : SeamKind) (left : HeadState) (tool : Int)
  | plungeDone (segment : SegmentRef) (kind : SeamKind) (plungeStation depth : Int) (time : Nat)
  | pauseBegin (segment : SegmentRef) (tool : Int) (otherState : HeadState)
  | pauseEnd (segment : SegmentRef) (tool : Int) (duration : Nat)
  | segmentEnd (id : Nat) (zone : Zone) (action : EndAction) (endStation tool : Int) (saturations : Nat)
      (untracked : Bool)
  | seamEnd (segment : SegmentRef) (kind : SeamKind) (tool : Int)
  | interrupt (cause : Cause) (station : Int) (segment : SegmentRef) (kind : SeamKind) (left : HeadState) (depth : Int)
  | reentry (interruptStation : Int) (cause : Option Cause) (reentryStation overlap : Int) (segment : SegmentRef)
  | abandoned (removed : Nat) (interruptStation : Int) (cause : Option Cause)
  | excursion (segment : SegmentRef) (state : HeadState) (peak run : Nat) (negative : Bool) (tool : Int)
  | gap (segment : SegmentRef) (tool entry : Int) (gap : Nat) (action : GapAction)
  | mismatch (segment : SegmentRef) (tool entry mismatch : Int)
  | trackLoss (segment : SegmentRef) (tool reference distance : Int)
  | sensorFault (channel : ChannelName) (kind : FaultKind) (raw : Int) (masked : Bool) (state : HeadState)
  | substitution (channel : ChannelName) (setting : Setting) (enable : Bool) (value : Int) (state : HeadState)
  | calDone (mean spread offset : Int) (budget : Nat)
  | calFailed (reason : CalFailure) (count : Nat) (mean spread : Int)
  | halt (source : HaltSource) (left entered : HeadState)
  | starved (nominalEnd : Int) (segment : SegmentRef)
  | planResumed (segment : SegmentRef) (used : Int)
  deriving DecidableEq, Repr

/-- A record as the log holds it (R159), with the class of the slot it occupies (R165). -/
structure LogRecord where
  body : RecordBody
  seq : SeqNumber
  lossBefore : Bool
  coalesced : Bool
  reserved : Bool
  deriving DecidableEq, Repr

/-- The sample accumulator (R162). -/
structure SampleAccumulator where
  count : Nat
  forceSum : Int
  depthSum : Int
  torqueSum : Int
  forceLeast : Int
  forceGreatest : Int
  tempGreatest : Int
  flags : SampleFlags
  deriving DecidableEq, Repr

/-- The next pitch mark and its coalesced indication (R162). -/
structure PitchMark where
  station : Int
  coalesced : Bool
  deriving DecidableEq, Repr

/-- The sixteen counters of a head, in the order of R172's table. -/
structure HeadCounters where
  seamsCompleted : Nat
  seamsInterrupted : Nat
  reentries : Nat
  segmentsCompleted : Nat
  saturatedSamples : Nat
  excursions : Nat
  pauses : Nat
  pauseLimitInterrupts : Nat
  trackAccepted : Nat
  trackStale : Nat
  trackOutOfOrder : Nat
  trackFull : Nat
  trackLowQuality : Nat
  trackLosses : Nat
  recordsLost : Nat
  sensorFaults : Nat
  deriving DecidableEq, Repr

/-- The six line counters, in the order of R172's table. -/
structure LineCounters where
  framesTaken : Nat
  badCheck : Nat
  framingErrors : Nat
  truncatedFrames : Nat
  breaks : Nat
  badTrackReports : Nat
  deriving DecidableEq, Repr

/-- The log's items of one head (R162, R165, R167, R172). -/
structure HeadLog where
  queue : List LogRecord
  seq : SeqNumber
  lossPending : Bool
  acc : SampleAccumulator
  nextMark : Option PitchMark
  counters : HeadCounters
  deriving DecidableEq, Repr

/-- Everything the blocks hold for one head. -/
structure HeadUnit where
  seq : Sequencer
  plan : PlanStore
  reg : Regulator
  track : Tracking
  front : FrontEnd
  drives : DriveInputs
  applied : Applied
  profiles : ProfileStore
  travel : HeadTravel
  log : HeadLog
  deriving DecidableEq, Repr

/-- The travel governor's device items (R84) and the travel drive's ready input as it last read it (R136). -/
structure Governor where
  owned : Bool
  speed : Nat
  direction : Direction
  bedEnd : Option Nat
  travelReady : Bool
  deriving DecidableEq, Repr

/-- The receiver state of the control line port (R177). -/
inductive PortState where
  | waitAddress
  | receiving
  | replying
  deriving DecidableEq, Repr

/-- The frame buffer, with the character count (R177). -/
structure FrameBuffer where
  address : Byte
  kind : Byte
  length : Byte
  payload : List Byte
  check : Byte
  count : Nat
  deriving DecidableEq, Repr

/-- A character of the control line as the port sends it: its mark bit and its data (R175, R187). -/
structure Character where
  mark : Bool
  data : Byte
  deriving DecidableEq, Repr

/-- The control line port (R177). -/
structure Port where
  rx : PortState
  frame : FrameBuffer
  /-- Bit times since the end of the last character, as the commands tell it (log 14). -/
  silence : Nat
  /-- The characters of the reply that waits for its start (R185). -/
  pendingReply : Option (List Character)
  /-- The characters of the reply being sent (R186, R187). -/
  transmit : Option (List Character)
  /-- The break detector: true is ARMED, false SPENT (R182). -/
  armed : Bool
  /-- A device reset waits for its reply to end or be discarded (R189). -/
  resetDeferred : Bool
  deriving DecidableEq, Repr

/-- The tracker line's receiver (R109). -/
inductive TrackReceiver where
  | hunt
  | collecting (kept : List Byte)
  deriving DecidableEq, Repr

/-- The log settings (R171). -/
structure LogSettings where
  pitch : Nat
  thresholdA : Nat
  thresholdB : Nat
  deriving DecidableEq, Repr

/-- The RESET and HALT inputs, and whether the control line is held at 0 (R182, R190, R191). -/
structure Pins where
  reset : Bool
  halt : Bool
  lineLow : Bool
  deriving DecidableEq, Repr

/-- The state of the part. -/
structure State where
  unitA : HeadUnit
  unitB : HeadUnit
  gov : Governor
  gantry : Channel
  settings : LogSettings
  lines : LineCounters
  port : Port
  tracker : TrackReceiver
  pins : Pins
  straps : Straps
  /-- The model's own counter of free values drawn (log 11). -/
  free : Nat
  /-- The commands that wait, first in, first out. -/
  pending : List Instr
  deriving DecidableEq, Repr

/-! ### The state after reset -/

/-- No flag set (R162). -/
def SampleFlags.clear : SampleFlags := ⟨false, false, false, false, false⟩

/-- The accumulator with a count of 0, its sums, extremes and flags at 0 and clear (R162). -/
def SampleAccumulator.clear : SampleAccumulator := ⟨0, 0, 0, 0, 0, 0, 0, SampleFlags.clear⟩

/-- All sixteen counters at 0 (R173, R174). -/
def HeadCounters.zero : HeadCounters := ⟨0, 0, 0, 0, 0, 0, 0, 0, 0, 0, 0, 0, 0, 0, 0, 0⟩

/-- All six line counters at 0 (R173, R174). -/
def LineCounters.zero : LineCounters := ⟨0, 0, 0, 0, 0, 0⟩

/-- The accumulator of no calibration (R158). R158 gives count, sum and origin state; that least and greatest stand at
0 is the model's choice (DESIGN CHOICE, log 37). -/
def CalAccumulator.clear : CalAccumulator := ⟨none, 0, 0, 0, 0⟩

/-- The head sequencer at power-on (R60; `raising`, `originTaken`: log 10, log 20). -/
def Sequencer.powerOn : Sequencer :=
  { state := .uncommissioned, kind := .fresh, target := 0, direction := .forward, plungeStation := 0, weldEntry := 0,
    cause := none, interruptStation := 0, reentryStation := 0, budget := 0, ceiling := 0, spinupTimer := 0,
    plungeTimer := 0, dwellTimer := 0, rampAcc := 499, raising := false, spindle := 0, depth := 0, originTaken := 0,
    cal := CalAccumulator.clear }

/-- The plan store after every kind of reset (R26). -/
def PlanStore.empty : PlanStore := ⟨[], none, none⟩

/-- The regulator after every kind of reset (R83). -/
def Regulator.clear : Regulator := ⟨0, false, 0, false, false, 0, 0, 0, false, 0, []⟩

/-- The tracking state at power-on (R126; the tool station: log 10). -/
def Tracking.powerOn : Tracking := ⟨[], false, 0, 0, 0, false, false, 0⟩

/-- A channel at power-on (R141; raw value and valid indication: log 9). -/
def Channel.powerOn : Channel := ⟨0, false, 0, false, 0, false, 0, 0, 0, false, 0⟩

/-- A head's unit at power-on: the reset table of each chapter (R26, R60, R83, R108, R126, R141, R158, R174). -/
def HeadUnit.powerOn : HeadUnit :=
  { seq := Sequencer.powerOn
    plan := PlanStore.empty
    reg := Regulator.clear
    track := Tracking.powerOn
    front := ⟨Channel.powerOn, Channel.powerOn, Channel.powerOn, Channel.powerOn⟩
    drives := ⟨false, false, false, false, false⟩
    applied := ⟨0, 0, 0⟩
    profiles := ⟨none, none, none, none, 0⟩
    travel := ⟨0, 0, 0⟩
    log := ⟨[], 0, false, SampleAccumulator.clear, none, HeadCounters.zero⟩ }

/-- The governor at power-on (R108; the ready input: log 9). -/
def Governor.powerOn : Governor := ⟨false, 0, .forward, none, false⟩

/-- An empty frame buffer with character count 0 (R192). -/
def FrameBuffer.empty : FrameBuffer := ⟨0, 0, 0, [], 0, 0⟩

/-- The port after power-on or RESET DEVICE (R192): the break detector is ARMED once the line is at 1. -/
def Port.powerOn (lineLow : Bool) : Port := ⟨.waitAddress, FrameBuffer.empty, 0, none, none, !lineLow, false⟩

/-- Every block in its power-on state (R189, R190), with the pins as they stand, the straps sampled, the model's
free-value counter and the waiting commands. -/
def State.powerOn (pins : Pins) (straps : Straps) (free : Nat) (pending : List Instr) : State :=
  { unitA := HeadUnit.powerOn
    unitB := HeadUnit.powerOn
    gov := Governor.powerOn
    gantry := Channel.powerOn
    settings := ⟨100, 480, 480⟩
    lines := LineCounters.zero
    port := Port.powerOn pins.lineLow
    tracker := .hunt
    pins := pins
    straps := straps
    free := free
    pending := pending }

/-- The part right after power-on: RESET negated, HALT negated and the line at 1 (log 8), strap address 0,
115,200 baud, head B present (log 7), no command waiting. -/
def State.reset : State := State.powerOn ⟨false, false, false⟩ ⟨0, false, true⟩ 0 []

/-! ### Reading and writing one head's blocks -/

/-- One head's unit. -/
def State.head (s : State) : Head → HeadUnit
  | .a => s.unitA
  | .b => s.unitB

/-- Change one head's unit. -/
def State.onHead (h : Head) (f : HeadUnit → HeadUnit) (s : State) : State :=
  match h with
  | .a => { s with unitA := f s.unitA }
  | .b => { s with unitB := f s.unitB }

/-- Change one head's sequencer. -/
def State.onSeq (h : Head) (f : Sequencer → Sequencer) (s : State) : State :=
  s.onHead h fun u => { u with seq := f u.seq }

/-- Change one head's plan store. -/
def State.onPlan (h : Head) (f : PlanStore → PlanStore) (s : State) : State :=
  s.onHead h fun u => { u with plan := f u.plan }

/-- Change one head's regulator. -/
def State.onReg (h : Head) (f : Regulator → Regulator) (s : State) : State :=
  s.onHead h fun u => { u with reg := f u.reg }

/-- Change one head's tracking state. -/
def State.onTrack (h : Head) (f : Tracking → Tracking) (s : State) : State :=
  s.onHead h fun u => { u with track := f u.track }

/-- Change one head's channels. -/
def State.onFront (h : Head) (f : FrontEnd → FrontEnd) (s : State) : State :=
  s.onHead h fun u => { u with front := f u.front }

/-- Change one head's profile store. -/
def State.onProfiles (h : Head) (f : ProfileStore → ProfileStore) (s : State) : State :=
  s.onHead h fun u => { u with profiles := f u.profiles }

/-- Change the governor's items of one head. -/
def State.onTravel (h : Head) (f : HeadTravel → HeadTravel) (s : State) : State :=
  s.onHead h fun u => { u with travel := f u.travel }

/-- Change the log's items of one head. -/
def State.onLog (h : Head) (f : HeadLog → HeadLog) (s : State) : State :=
  s.onHead h fun u => { u with log := f u.log }

/-- Change the governor. -/
def State.onGov (f : Governor → Governor) (s : State) : State := { s with gov := f s.gov }

/-- Change the control line port. -/
def State.onPort (f : Port → Port) (s : State) : State := { s with port := f s.port }

/-- Change the line counters. -/
def State.onLines (f : LineCounters → LineCounters) (s : State) : State := { s with lines := f s.lines }

/-- The head state (R27). -/
def State.headState (s : State) (h : Head) : HeadState := (s.head h).seq.state

/-- Whether a head is present: head A always, head B by its strap (R190). -/
def State.present (s : State) : Head → Bool
  | .a => true
  | .b => s.straps.headB

end Sys2Proof.Machine
end

