-- ==== Sys2Proof/Machine/Operands.lean ====
section
/-! DEFINITION. The arithmetic, the code values and the views of the state that the meanings share: integer
conventions (00_scope.md), code bytes (R194), engagement and demands (R28), the segment in force (R9), the tool
station (R112), the slots of the record pool (R165). -/

namespace Sys2Proof.Machine

/-! ### Integer conventions (00_scope.md, "Units and number conventions") -/

/-- Replace a value below `lo` with `lo` and one above `hi` with `hi` ("Clamping"). -/
def clampInt (lo hi v : Int) : Int := max lo (min hi v)

/-- n / d rounded half away from zero, for a positive d ("Integer arithmetic", R67). -/
def roundHalfAway (n d : Int) : Int := if 0 ≤ n then (2 * n + d) / (2 * d) else -((2 * -n + d) / (2 * d))

/-- The greatest integer whose square does not exceed n, found bit by bit from bit `bits - 1` down. -/
def isqrtBits : Nat → Nat → Nat → Nat
  | 0, _, acc => acc
  | bits + 1, n, acc =>
    let c := acc + 2 ^ bits
    isqrtBits bits n (if c * c ≤ n then c else acc)

/-- isqrt(n) ("Integer arithmetic"). -/
def isqrt (n : Nat) : Nat := isqrtBits (n.log2 / 2 + 1) n 0

/-- One more, stopping at the counter's greatest value (R172). -/
def bump (n : Nat) : Nat := min (n + 1) Config.counterMax

/-- One more, stopping at 65,535 (R61). -/
def bump16 (n : Nat) : Nat := min (n + 1) Config.count16Max

/-- 1 for true, 0 for false: a flag in a field (R194). -/
def bit (b : Bool) : Nat := if b then 1 else 0

/-- The XOR of a run of characters (R109, R179). -/
def xorAll (l : List Byte) : Byte := l.foldl (· ^^^ ·) 0

/-- The entries of a list that are new to those before them: each kept at its first occurrence. -/
def firstOccurrences {α : Type} [DecidableEq α] (seen : List α) : List α → List α
  | [] => []
  | x :: rest =>
    if x ∈ seen then firstOccurrences seen rest else x :: firstOccurrences (seen ++ [x]) rest

/-! ### Code values (R194) -/

/-- Code of a head state. -/
def HeadState.code : HeadState → Nat
  | .uncommissioned => 0
  | .commissioning => 1
  | .calDue => 2
  | .calibrating => 3
  | .ready => 4
  | .approach => 5
  | .spinup => 6
  | .plunge => 7
  | .dwell => 8
  | .weld => 9
  | .pause => 10
  | .exit => 11
  | .interrupting => 12
  | .interrupted => 13

/-- Code of an interrupt cause. -/
def Cause.code : Cause → Nat
  | .hostStop => 1
  | .halt => 2
  | .forceLimit => 3
  | .torqueLimit => 4
  | .tempLimit => 5
  | .sensor => 6
  | .drive => 7
  | .travelDrive => 8
  | .plungeTimeout => 9
  | .pauseLimit => 10
  | .planStarved => 11
  | .gap => 12
  | .trackLoss => 13
  | .bedEnd => 14

/-- Code of the last interrupt cause; 0 is NONE. -/
def causeCode : Option Cause → Nat
  | none => 0
  | some c => c.code

/-- Code of a seam kind. -/
def SeamKind.code : SeamKind → Nat
  | .fresh => 0
  | .reentry => 1

/-- Code of a direction. -/
def Direction.code : Direction → Nat
  | .forward => 0
  | .reverse => 1

/-- Code of a travel demand. -/
def Demand.code : Demand → Nat
  | .idle => 0
  | .hold => 1
  | .advance => 2
  | .approach => 3

/-- Code of a zone. -/
def Zone.code : Zone → Nat
  | .runOn => 0
  | .body => 1
  | .clampGap => 2
  | .runOff => 3

/-- Code of a gap action. -/
def GapAction.code : GapAction → Nat
  | .slow => 0
  | .stop => 1

/-- Code of an end action. -/
def EndAction.code : EndAction → Nat
  | .carryOn => 0
  | .exit => 1

/-- Code of a channel. -/
def ChannelName.code : ChannelName → Nat
  | .force => 0
  | .torque => 1
  | .temp => 2
  | .depth => 3
  | .gantry => 4

/-- Code of a setting. -/
def Setting.code : Setting → Nat
  | .override => 0
  | .substitute => 1

/-- Code of a channel fault kind. -/
def FaultKind.code : FaultKind → Nat
  | .rail => 0
  | .disconnected => 1
  | .quadrature => 2

/-- Code of a START_FAILED reason. -/
def StartFailure.code : StartFailure → Nat
  | .spinupTimeout => 0
  | .sensor => 1
  | .drive => 2
  | .travelDrive => 3
  | .hostStop => 4

/-- Code of a CAL_FAILED reason. -/
def CalFailure.code : CalFailure → Nat
  | .offsetRange => 0
  | .spread => 1
  | .sensor => 2
  | .halt => 3

/-- Code of a halt source. -/
def HaltSource.code : HaltSource → Nat
  | .haltInput => 0
  | .lineBreak => 1

/-- The zone a code names. -/
def zoneOf : Nat → Option Zone
  | 0 => some .runOn
  | 1 => some .body
  | 2 => some .clampGap
  | 3 => some .runOff
  | _ => none

/-- OFF or ON, off or on. -/
def switchOf : Nat → Option Bool
  | 0 => some false
  | 1 => some true
  | _ => none

/-- The gap action a code names. -/
def gapActionOf : Nat → Option GapAction
  | 0 => some .slow
  | 1 => some .stop
  | _ => none

/-- The end action a code names. -/
def endActionOf : Nat → Option EndAction
  | 0 => some .carryOn
  | 1 => some .exit
  | _ => none

/-- The channel a code names. -/
def channelOf : Nat → Option ChannelName
  | 0 => some .force
  | 1 => some .torque
  | 2 => some .temp
  | 3 => some .depth
  | 4 => some .gantry
  | _ => none

/-- The setting a code names. -/
def settingOf : Nat → Option Setting
  | 0 => some .override
  | 1 => some .substitute
  | _ => none

/-- The head a head field names, if it names one (R183 check 3, without the presence of head B). -/
def headOf : Nat → Option Head
  | 0 => some .a
  | 1 => some .b
  | _ => none

/-! ### Head states -/

/-- The engaged states (00_scope.md "Head states and engagement", R85). -/
def HeadState.engaged : HeadState → Bool
  | .approach | .spinup | .plunge | .dwell | .weld | .pause | .exit | .interrupting => true
  | .uncommissioned | .commissioning | .calDue | .calibrating | .ready | .interrupted => false

/-- The in-material states (00_scope.md "Head states and engagement"). -/
def HeadState.inMaterial : HeadState → Bool
  | .plunge | .dwell | .weld | .pause => true
  | .uncommissioned | .commissioning | .calDue | .calibrating | .ready | .approach | .spinup | .exit | .interrupting
  | .interrupted => false

/-- WELD or PAUSE, the states of regulation (R62). -/
def HeadState.welding : HeadState → Bool
  | .weld | .pause => true
  | .uncommissioned | .commissioning | .calDue | .calibrating | .ready | .approach | .spinup | .plunge | .dwell | .exit
  | .interrupting | .interrupted => false

/-- APPROACH or SPINUP, the states of a start (R39). -/
def HeadState.starting : HeadState → Bool
  | .approach | .spinup => true
  | .uncommissioned | .commissioning | .calDue | .calibrating | .ready | .plunge | .dwell | .weld | .pause | .exit
  | .interrupting | .interrupted => false

/-- The states in which the raise of R31 runs. -/
def HeadState.raises : HeadState → Bool
  | .uncommissioned | .commissioning | .calDue | .ready | .interrupted => true
  | .calibrating | .approach | .spinup | .plunge | .dwell | .weld | .pause | .exit | .interrupting => false

/-- The travel demand of a head state (R28). -/
def HeadState.demand : HeadState → Demand
  | .approach => .approach
  | .spinup | .plunge | .dwell | .exit | .interrupting => .hold
  | .weld | .pause => .advance
  | .uncommissioned | .commissioning | .calDue | .calibrating | .ready | .interrupted => .idle

/-- The states in which a cause acts (R45). -/
def Cause.actsIn : Cause → HeadState → Bool
  | .plungeTimeout, st => st == .plunge
  | .pauseLimit, st => st == .pause
  | .planStarved, st => st.welding
  | .gap, st => st.welding
  | .trackLoss, st => st.welding
  | .bedEnd, st => st.welding
  | .hostStop, st => st.inMaterial
  | .halt, st => st.inMaterial
  | .forceLimit, st => st.inMaterial
  | .torqueLimit, st => st.inMaterial
  | .tempLimit, st => st.inMaterial
  | .sensor, st => st.inMaterial
  | .drive, st => st.inMaterial
  | .travelDrive, st => st.inMaterial

/-- A head's travel demand (R28). -/
def State.demand (s : State) (h : Head) : Demand := (s.headState h).demand

/-- At least one head is engaged (R85). -/
def State.anyEngaged (s : State) : Bool := (s.headState .a).engaged || (s.headState .b).engaged

/-- At least one head's travel demand is HOLD (R86). -/
def State.anyHold (s : State) : Bool := s.demand .a == .hold || s.demand .b == .hold

/-- The present heads, the given one first where it is present (log 3). -/
def State.presentHeads (s : State) (first : Head) : List Head :=
  if s.straps.headB then [first, first.other] else [.a]

/-! ### Profile sets in use. A head that has left the commissioning states has all four sets (R142); for a state no
run reaches, in which a set is missing, its fields read 0 (log 25). -/

/-- The LIMITS set in use. -/
def HeadUnit.limits (u : HeadUnit) : LimitsSet := u.profiles.limits.getD ⟨0, 0, 0, 0, 0, 0, 0⟩

/-- The TOOL set in use. -/
def HeadUnit.tool (u : HeadUnit) : ToolSet := u.profiles.tool.getD ⟨0, 0, 0, 0, 0, 0, 0, 0, 0, 0, 0⟩

/-- The REGULATOR set in use. -/
def HeadUnit.regulator (u : HeadUnit) : RegulatorSet := u.profiles.regulator.getD ⟨0, 0, 0, 0, 0, 0, 0, 0, 0⟩

/-- The TRAVEL set in use. -/
def HeadUnit.travelSet (u : HeadUnit) : TravelSet := u.profiles.travel.getD ⟨0, 0, 0, 0, 0, 0, 0, 0, 0⟩

/-- The clearance height, −clearance (00_scope.md "Units and number conventions"). -/
def HeadUnit.clearanceHeight (u : HeadUnit) : Int := -(u.tool.clearance : Int)

/-! ### The plan and the track -/

/-- The current segment: the one at the head of the queue (R6). -/
def PlanStore.current (p : PlanStore) : Option Segment := p.queue.head?

/-- The segment in force: the retained segment of a starved head, else the current segment (R9). -/
def PlanStore.inForce (p : PlanStore) : Option Segment := if p.starved.isSome then p.retained else p.current

/-- The retained segment while its end action is CONTINUE (R13). -/
def PlanStore.openRetained (p : PlanStore) : Option Segment :=
  p.retained.filter fun g => g.endAction == .carryOn

/-- The contiguity reference, none where any start station is accepted (R8). -/
def PlanStore.contiguityReference (p : PlanStore) : Option Nat :=
  match p.queue.getLast? with
  | some g => some g.endStation
  | none => p.openRetained.map Segment.endStation

/-- The distance used: 0 when the head is not starved (R15). -/
def PlanStore.distanceUsed (p : PlanStore) : Int := (p.starved.map Starvation.used).getD 0

/-- The active entry (R113). -/
def Tracking.active (t : Tracking) : Option TrackEntry := if t.activeFirst then t.queue.head? else none

/-- The station of a head: the gantry position minus its seam origin (00_scope.md "Stations and the gantry"). The
origin is the one taken at the head's latest sample (R112, R151, log 10). -/
def State.toolStation (s : State) (h : Head) : Int := s.gantry.effective - (s.head h).seq.originTaken

/-! ### The record pool (R165) -/

/-- A head's level: the records in its queue. -/
def State.level (s : State) (h : Head) : Nat := (s.head h).log.queue.length

/-- A head's common slots used. -/
def HeadLog.commonUsed (l : HeadLog) : Nat := l.queue.countP fun r => !r.reserved

/-- A head's reserved slots used. -/
def HeadLog.reservedUsed (l : HeadLog) : Nat := l.queue.countP fun r => r.reserved

/-- The common slots in use by either head. -/
def State.commonUsed (s : State) : Nat := s.unitA.log.commonUsed + s.unitB.log.commonUsed

/-- A head's decimation threshold (R171). -/
def State.threshold (s : State) : Head → Nat
  | .a => s.settings.thresholdA
  | .b => s.settings.thresholdB

/-- The sample-class body (R159, R165). -/
def RecordBody.isSample : RecordBody → Bool
  | .sample .. => true
  | _ => false

/-- The segment as a record names it: id and zone (R14, R160). -/
def Segment.ref (g : Segment) : SegmentRef := ⟨g.id, some g.zone⟩

/-- The kind code and the body's bytes, before the unassigned bytes that fill it to 20 (R198). Every record that names a
segment holds its zone (R14); the table of R198 has a byte for it in SEGMENT_END alone and sets unassigned bytes to 0, so
the 24 bytes of the others do not show it (DESIGN CHOICE, log 43). The distance used of PLAN_RESUMED, to which R198 gives no type, is
sent in two's complement where it is below 0 (DESIGN CHOICE, log 36). -/
def RecordBody.encode : RecordBody → Nat × List Byte
  | .sample mark count fm fl fg dm tm tg _ speed lat =>
    (0x00, leBytes 3 mark ++ leBytes 2 count ++ leBytes 2 fm ++ leBytes 2 fl ++ leBytes 2 fg ++ leBytes 2 dm ++
      leBytes 3 (tm + tg * 8192) ++ leBytes 2 speed ++ leBytes 2 lat)
  | .seamStart seg p t => (0x01, leBytes 2 seg.id ++ leBytes 3 p ++ leBytes 3 t)
  | .startFailed r k st t => (0x02, leBytes 1 r.code ++ leBytes 1 k.code ++ leBytes 1 st.code ++ leBytes 3 t)
  | .plungeDone seg k p d ms => (0x03, leBytes 2 seg.id ++ leBytes 1 k.code ++ leBytes 3 p ++ leBytes 3 d ++ leBytes 2 ms)
  | .pauseBegin seg t o => (0x04, leBytes 2 seg.id ++ leBytes 3 t ++ leBytes 1 o.code)
  | .pauseEnd seg t ms => (0x05, leBytes 2 seg.id ++ leBytes 3 t ++ leBytes 2 ms)
  | .segmentEnd id z act e t n un =>
    (0x06, leBytes 2 id ++ leBytes 1 z.code ++ leBytes 1 act.code ++ leBytes 3 e ++ leBytes 3 t ++ leBytes 2 n ++
      leBytes 1 (bit un))
  | .seamEnd seg k t => (0x07, leBytes 2 seg.id ++ leBytes 1 k.code ++ leBytes 3 t)
  | .interrupt c st seg k left d =>
    (0x08, leBytes 1 c.code ++ leBytes 3 st ++ leBytes 2 seg.id ++ leBytes 1 k.code ++ leBytes 1 left.code ++ leBytes 3 d)
  | .reentry st c re ov seg =>
    (0x09, leBytes 3 st ++ leBytes 1 (causeCode c) ++ leBytes 3 re ++ leBytes 2 ov ++ leBytes 2 seg.id)
  | .abandoned n st c => (0x0A, leBytes 1 n ++ leBytes 3 st ++ leBytes 1 (causeCode c))
  | .excursion seg st peak run neg t =>
    (0x0B, leBytes 2 seg.id ++ leBytes 1 st.code ++ leBytes 2 peak ++ leBytes 2 run ++ leBytes 1 (bit neg) ++ leBytes 3 t)
  | .gap seg t e g act => (0x0C, leBytes 2 seg.id ++ leBytes 3 t ++ leBytes 3 e ++ leBytes 1 g ++ leBytes 1 act.code)
  | .mismatch seg t e m => (0x0D, leBytes 2 seg.id ++ leBytes 3 t ++ leBytes 3 e ++ leBytes 2 m)
  | .trackLoss seg t r d => (0x0E, leBytes 2 seg.id ++ leBytes 3 t ++ leBytes 3 r ++ leBytes 3 d)
  | .sensorFault c k raw m st =>
    (0x0F, leBytes 1 c.code ++ leBytes 1 k.code ++ leBytes 3 raw ++ leBytes 1 (bit m) ++ leBytes 1 st.code)
  | .substitution c se en v st =>
    (0x10, leBytes 1 c.code ++ leBytes 1 se.code ++ leBytes 1 (bit en) ++ leBytes 2 v ++ leBytes 1 st.code)
  | .calDone m sp off b => (0x11, leBytes 2 m ++ leBytes 2 sp ++ leBytes 2 off ++ leBytes 1 b)
  | .calFailed r n m sp => (0x12, leBytes 1 r.code ++ leBytes 2 n ++ leBytes 2 m ++ leBytes 2 sp)
  | .halt src left entered => (0x13, leBytes 1 src.code ++ leBytes 1 left.code ++ leBytes 1 entered.code)
  | .starved e seg => (0x14, leBytes 3 e ++ leBytes 2 seg.id)
  | .planResumed seg d => (0x15, leBytes 2 seg.id ++ leBytes 3 d)

end Sys2Proof.Machine
end

