-- ==== Sys2Proof/Machine/Flags.lean ====
section
/-! DEFINITION. Status codes (R194), the flags byte of every reply (R185, R170), the flags byte of a record (R198) and
the bytes of a record. -/

namespace Sys2Proof.Machine

/-- The status of a reply (R194). -/
inductive Status where
  | ok
  | okClamped
  | badCheck
  | badLength
  | unknownKind
  | noHead
  | badField
  | wrongState
  | sequence
  | planFull
  | planEmpty
  | notContiguous
  | calDue
  | sensorFault
  | driveNotReady
  | otherHeadBusy
  | position
  | notAllowed
  | halted
  deriving DecidableEq, Repr

/-- The status code (R194). -/
def Status.code : Status → Byte
  | .ok => 0x00
  | .okClamped => 0x01
  | .badCheck => 0x02
  | .badLength => 0x03
  | .unknownKind => 0x04
  | .noHead => 0x05
  | .badField => 0x06
  | .wrongState => 0x07
  | .sequence => 0x08
  | .planFull => 0x09
  | .planEmpty => 0x0A
  | .notContiguous => 0x0B
  | .calDue => 0x0C
  | .sensorFault => 0x0D
  | .driveNotReady => 0x0E
  | .otherHeadBusy => 0x0F
  | .position => 0x10
  | .notAllowed => 0x11
  | .halted => 0x12

/-- OK_CLAMPED when a clamp acted, else OK. -/
def okOr (clamped : Bool) : Status := if clamped then .okClamped else .ok

/-- Log pressure of a head: its level is at or above its threshold (R170); clear for an absent head B. -/
def State.pressure (s : State) (h : Head) : Bool := s.present h && decide (s.threshold h ≤ s.level h)

/-- The flags byte at composition (R185, R195). -/
def State.flagsByte (s : State) : Byte :=
  BitVec.ofNat 8 (bit (s.pressure .a) + 2 * bit (s.pressure .b) + 4 * bit s.pins.halt + 8 * bit s.straps.headB)

/-- The five ORed flags of a SAMPLE record in bits 2 to 6; 0 in an event record (R198). -/
def RecordBody.flagBits : RecordBody → Nat
  | .sample _ _ _ _ _ _ _ _ f _ _ =>
    4 * bit f.saturated + 8 * bit f.slewLimited + 16 * bit f.substitution + 32 * bit f.gapSlow + 64 * bit f.starved
  | _ => 0

/-- The flags byte of a record (R198, R159). -/
def LogRecord.flags (r : LogRecord) : Nat := bit r.lossBefore + 2 * bit r.coalesced + r.body.flagBits

/-- The 24 bytes of a record (R198, R199). -/
def LogRecord.bytes (r : LogRecord) : List Byte :=
  (leBytes 1 r.body.encode.1 ++ leBytes 1 r.flags ++ leBytes 2 r.seq.toNat ++ r.body.encode.2 ++
    List.replicate 20 0).take 24

/-- The data of a reply frame's characters: address, kind, length, status, flags, data, check (R185, R195). -/
def State.replyBytes (s : State) (kind : Byte) (st : Status) (data : List Byte) : List Byte :=
  let head : List Byte :=
    [BitVec.ofNat 8 (0x80 + s.straps.address.toNat), kind, BitVec.ofNat 8 (2 + data.length), st.code, s.flagsByte] ++ data
  head ++ [xorAll head]

/-- The characters that carry a frame: the mark bit is 1 in the first, the address character, and 0 in the others
(R185, R187). -/
def frameCharacters : List Byte → List Character
  | [] => []
  | address :: rest => ⟨true, address⟩ :: rest.map (Character.mk false)

/-- A reply frame (R185). -/
def State.replyFrame (s : State) (kind : Byte) (st : Status) (data : List Byte) : List Character :=
  frameCharacters (s.replyBytes kind st data)

/-- The owning block composes the reply and places it in the port's pending reply (R185). -/
def answer (kind : Byte) (st : Status) (data : List Byte) (s : State) : State :=
  s.onPort fun p => { p with pendingReply := some (s.replyFrame kind st data) }

/-- A request that names a head: NO_HEAD unless the field is 0, or 1 with head B present (R183 check 3). -/
def forHead (kind : Byte) (code : Nat) (take : Head → State → State) (s : State) : State :=
  match headOf code with
  | some h => if s.present h then take h s else answer kind .noHead [] s
  | none => answer kind .noHead [] s

end Sys2Proof.Machine
end

