-- ==== Sys2Proof/Machine/Ops.lean ====
section
/-! DEFINITION. The operations the blocks share: creating a record (R165 to R167), counting (R172), changing a head's
state with what the governor does at once (R28, R85, R86, R102, R105), entering INTERRUPTING, EXIT, INTERRUPTED and
READY (R44, R45, R48, R116), ending a start (R38, R39), and the depth ramp (R30). -/

namespace Sys2Proof.Machine

/-- Draw a free value: advance the model's counter (log 11). -/
def State.tick (s : State) : State := { s with free := s.free + 1 }

/-! ### Records and counters -/

/-- Increment a counter of a present head (R172: those of an absent head B stand at 0). -/
def countHead (h : Head) (f : HeadCounters → HeadCounters) (s : State) : State :=
  if s.present h then s.onLog h fun l => { l with counters := f l.counters } else s

/-- The slot a record takes at its creation, told by its class: false common, true reserved, none dropped (R165). -/
def slotFor (h : Head) (b : RecordBody) (s : State) : Option Bool :=
  if s.commonUsed < Config.commonSlots then some false
  else if b.isSample then none
  else if (s.head h).log.reservedUsed < Config.reservedSlots then some true
  else none

/-- Create a record of a present head: it takes the head's sequence number and is stored at the tail of its queue with
LOSS_BEFORE as loss-pending stands, or is dropped and counted lost (R159, R165, R166, R167). -/
def createRecord (h : Head) (b : RecordBody) (coalesced : Bool) (s : State) : State :=
  if s.present h then
    match slotFor h b s with
    | some reserved => s.onLog h fun l =>
        { l with queue := l.queue ++ [⟨b, l.seq, l.lossPending, coalesced, reserved⟩], seq := l.seq + 1,
                 lossPending := false }
    | none => s.onLog h fun l =>
        { l with seq := l.seq + 1, lossPending := true,
                 counters := { l.counters with recordsLost := bump l.counters.recordsLost } }
  else s

/-- Create an event record that names the segment in force, its zone with it (R14, R160). Where none is in force the id is
a free value and there is no zone (log 11). -/
def reportInForce (h : Head) (body : SegmentRef → RecordBody) (s : State) : State :=
  match (s.head h).plan.inForce with
  | some g => createRecord h (body g.ref) false s
  | none => createRecord h (body ⟨Config.freeSegmentId s.free % 65536, none⟩) false s.tick

/-! ### Changes of a head's state -/

/-- The pause-begin condition at a head: in WELD it goes to PAUSE, its pause timer is set to the allowance and its
pause elapsed to 0, a PAUSE_BEGIN record is written and counted; in any other state it is ignored (R102). -/
def pauseBegin (h : Head) (s : State) : State :=
  if s.headState h = .weld then
    let s1 := s.onSeq h fun q => { q with state := .pause }
    let s2 := s1.onTravel h fun t =>
      { t with pauseTimer := (s.head h).travelSet.pauseAllowance * 100, pauseElapsed := 0 }
    let s3 := countHead h (fun c => { c with pauses := bump c.pauses }) s2
    reportInForce h (fun g => .pauseBegin g (s.toolStation h) (s.headState h.other)) s3
  else s

/-- The governor takes a head's change to HOLD at once: the commanded speed is 0, and pause-begin is raised at a head in
WELD, which can only be the other one (R86, R102). -/
def takeHold (h : Head) (s : State) : State :=
  pauseBegin h.other (s.onGov fun g => { g with speed := 0 })

/-- The governor takes a change of engagement at once: ownership with speed 0 and direction FORWARD when the first head
becomes engaged, release with speed 0 when the last one leaves (R85). -/
def takeEngagement (s : State) : State :=
  if s.anyEngaged then
    if s.gov.owned then s else s.onGov fun g => { g with owned := true, speed := 0, direction := .forward }
  else
    if s.gov.owned then s.onGov fun g => { g with owned := false, speed := 0 } else s

/-- What the governor keeps of a head that enters a state: no permitted speed outside WELD and PAUSE (R91), no pause
timer and no pause elapsed outside PAUSE (R105). -/
def HeadTravel.entering (t : HeadTravel) (st : HeadState) : HeadTravel :=
  { permitted := if st.welding then t.permitted else 0
    pauseTimer := if st = .pause then t.pauseTimer else 0
    pauseElapsed := if st = .pause then t.pauseElapsed else 0 }

/-- A head changes state; its travel demand changes at once with it (R28), and the governor takes a change of
engagement (R85) and a change to HOLD (R86) at once. -/
def setHeadState (h : Head) (st : HeadState) (s : State) : State :=
  let s1 := s.onSeq h fun q => { q with state := st, raising := q.raising && st.raises }
  let s2 := takeEngagement (s1.onTravel h fun t => t.entering st)
  if st.demand = .hold ∧ s.demand h ≠ .hold then takeHold h s2 else s2

/-- The tracking unit empties the lookahead queue and clears the active entry, the gap-slow flag and the mismatch latch;
lateral target and command stay (R116). -/
def emptyTrack (h : Head) (s : State) : State :=
  s.onTrack h fun t => { t with queue := [], activeFirst := false, gapSlow := false, mismatchLatch := false }

/-- Starvation ends: the flag is cleared and the distance used is 0 (R20). -/
def endStarvation (h : Head) (s : State) : State := s.onPlan h fun p => { p with starved := none }

/-- A new ramp starts: the accumulator is set to 499 (R30). -/
def startRamp (h : Head) (s : State) : State := s.onSeq h fun q => { q with rampAcc := 499 }

/-- The INTERRUPT record is created and counted, a PAUSE_LIMIT also in its own counter (R45, R172). The record's
values are those at the entry: the segment in force is the one that stood while a starved head was still starved
(log 15). -/
def reportInterrupt (h : Head) (c : Cause) (entry : State) (s : State) : State :=
  let q := (entry.head h).seq
  let body (g : SegmentRef) : RecordBody := .interrupt c (entry.toolStation h) g q.kind q.state q.depth
  let s1 := match (entry.head h).plan.inForce with
    | some g => createRecord h (body g.ref) false s
    | none => createRecord h (body ⟨Config.freeSegmentId s.free % 65536, none⟩) false s.tick
  countHead h (fun n => { n with
    seamsInterrupted := bump n.seamsInterrupted
    pauseLimitInterrupts := if c = .pauseLimit then bump n.pauseLimitInterrupts else n.pauseLimitInterrupts }) s1

/-- A condition or request with a cause of R45 reaches the head. In the states in which the cause acts the head enters
INTERRUPTING: cause and interrupt station are recorded, the demand becomes HOLD, the spindle command is held, a retract
ramp starts, starvation ends and the INTERRUPT record is written. In any other state it is ignored (R32, R45, R20). -/
def interruptHead (h : Head) (c : Cause) (s : State) : State :=
  if c.actsIn (s.headState h) then
    let s1 := s.onSeq h fun q => { q with cause := some c, interruptStation := s.toolStation h, rampAcc := 499 }
    let s2 := endStarvation h (setHeadState h .interrupting s1)
    reportInterrupt h c s s2
  else s

/-- The head enters EXIT at the completion of an EXIT segment: SEAM_END is written and counted, the demand becomes HOLD,
the spindle command is held, a retract ramp starts, starvation ends and the lookahead queue is emptied
(R44, R12, R20, R116). -/
def enterExit (h : Head) (g : Segment) (s : State) : State :=
  let s1 := createRecord h (.seamEnd g.ref (s.head h).seq.kind (s.toolStation h)) false s
  let s2 := countHead h (fun c => { c with seamsCompleted := bump c.seamsCompleted }) s1
  emptyTrack h (endStarvation h (setHeadState h .exit (startRamp h s2)))

/-- The head enters INTERRUPTED, and its lookahead queue is emptied (R48, R116). -/
def enterInterrupted (h : Head) (s : State) : State := emptyTrack h (setHeadState h .interrupted s)

/-- READY, or CAL_DUE when the calibration budget is 0 (R34). -/
def readyOrCalDue (q : Sequencer) : HeadState := if q.budget = 0 then .calDue else .ready

/-- The head leaves APPROACH or SPINUP without plunging: the spindle command becomes 0; a fresh head goes to READY with
its lookahead queue emptied, a re-entering one to INTERRUPTED with its interrupt record kept
(R38, R39, R49, R56, R116). -/
def endStart (h : Head) (s : State) : State :=
  let s1 := s.onSeq h fun q => { q with spindle := 0 }
  match (s.head h).seq.kind with
  | .fresh => emptyTrack h (setHeadState h .ready s1)
  | .reentry => enterInterrupted h s1

/-- A start fails with a reason: START_FAILED is written and the head leaves APPROACH or SPINUP (R38, R39, R49). -/
def failStart (h : Head) (r : StartFailure) (s : State) : State :=
  let q := (s.head h).seq
  endStart h (createRecord h (.startFailed r q.kind q.state (s.toolStation h)) false s)

/-- The condition of R39: in APPROACH and SPINUP the start fails; in any other state it is ignored (R32). -/
def startFault (h : Head) (r : StartFailure) (s : State) : State :=
  if (s.headState h).starting then failStart h r s else s

/-! ### The depth ramp (R30) -/

/-- One head sample of a ramp toward a target at a rate: floor(sum / 500) µm toward it, stopping at it, and the
remainder kept. -/
def Sequencer.rampStep (q : Sequencer) (target : Int) (rate : Nat) : Sequencer :=
  let sum := q.rampAcc + rate
  let move : Int := ((sum / 500 : Nat) : Int)
  { q with
    rampAcc := sum % 500
    depth := if q.depth ≤ target then min target (q.depth + move) else max target (q.depth - move) }

/-- The spindle command follows the spindle speed of the segment in force; where none is in force the speed is a free
value within the command's range (R29, log 11). -/
def followSpindle (h : Head) (s : State) : State :=
  match (s.head h).plan.inForce with
  | some g => s.onSeq h fun q => { q with spindle := g.spindle }
  | none => (s.onSeq h fun q => { q with spindle := Config.freeSpindle s.free % 4001 }).tick

/-- While the RESET input is asserted nothing reaches the blocks (R190, log 12). -/
def running (f : State → State) (s : State) : Host.Outcome State Fault Refusal :=
  if s.pins.reset then .next s else .next (f s)

end Sys2Proof.Machine
end

