-- ==== Sys2Proof/Machine/FrontEnd.lean ====
section
/-! DEFINITION. The sensor front end: conversions (R127 to R134), the setting and the reading of the channels
(R138 to R140). -/

namespace Sys2Proof.Machine

/-- The scales of a channel: raw and effective range, and whether it is an encoder, whose fault latches (R127, R132). -/
structure ChannelScale where
  rawLo : Int
  rawHi : Int
  effLo : Int
  effHi : Int
  encoder : Bool
  deriving DecidableEq, Repr

/-- The scales of a head's channels (R127). -/
def scaleOf : HeadChannel → ChannelScale
  | .force => ⟨-2000, 8000, -1000, 7000, false⟩
  | .torque => ⟨-500, 6500, 0, 6000, false⟩
  | .temp => ⟨-50, 850, 0, 800, false⟩
  | .depth => ⟨-50000, 20000, -50000, 20000, true⟩

/-- The scale of GANTRY (R127). -/
def gantryScale : ChannelScale := ⟨0, 400000, 0, 400000, true⟩

/-- The name of a head's channel in records and requests. -/
def nameOf : HeadChannel → ChannelName
  | .force => .force
  | .torque => .torque
  | .temp => .temp
  | .depth => .depth

/-- One of a head's channels. -/
def FrontEnd.get (f : FrontEnd) : HeadChannel → Channel
  | .force => f.force
  | .torque => f.torque
  | .temp => f.temp
  | .depth => f.depth

/-- Replace one of a head's channels. -/
def FrontEnd.set (f : FrontEnd) (c : HeadChannel) (v : Channel) : FrontEnd :=
  match c with
  | .force => { f with force := v }
  | .torque => { f with torque := v }
  | .temp => { f with temp := v }
  | .depth => { f with depth := v }

/-! ### Conversions -/

/-- What makes an analog conversion invalid: OPEN before RAIL (R128). -/
def analogFault (k : ChannelScale) (r : AnalogReading) : Option FaultKind :=
  if !r.connected then some .disconnected
  else if r.reading ≤ k.rawLo ∨ k.rawHi ≤ r.reading then some .rail
  else none

/-- What makes an encoder's conversion invalid: OPEN before QUADRATURE (R128). -/
def encoderFault (r : EncoderReading) : Option FaultKind :=
  if !r.connected then some .disconnected
  else if r.jumped then some .quadrature
  else none

/-- The fault kind of a conversion of a head's channel, none for a valid one (R128). -/
def faultOf (i : SampleInput) : HeadChannel → Option FaultKind
  | .force => analogFault (scaleOf .force) i.force
  | .torque => analogFault (scaleOf .torque) i.torque
  | .temp => analogFault (scaleOf .temp) i.temp
  | .depth => encoderFault i.depth

/-- The reading of a head's channel. -/
def readingOf (i : SampleInput) : HeadChannel → Int
  | .force => i.force.reading
  | .torque => i.torque.reading
  | .temp => i.temp.reading
  | .depth => i.depth.count

/-- One conversion: raw value, valid indication, the effective value by the cases of R130, the last valid effective
value and the fault flag by R132. A latched encoder holds its effective value until the latch is cleared (R132). A
reading outside the raw scale is taken at the scale's end (log 19). -/
def convert (k : ChannelScale) (reading : Int) (fault : Option FaultKind) (c : Channel) : Channel :=
  let raw := clampInt k.rawLo k.rawHi reading
  let trouble := fault.isSome || (k.encoder && c.fault)
  let eff :=
    if c.substituteOn then c.substitute
    else if trouble then c.lastValid
    else if c.overrideOn then clampInt k.effLo k.effHi (raw + c.overrideOffset)
    else clampInt k.effLo k.effHi (raw + c.offset)
  { c with
    raw := raw
    valid := fault.isNone
    effective := eff
    lastValid := if c.substituteOn || !trouble then eff else c.lastValid
    fault := trouble }

/-- The grace count of a TORQUE or TEMP channel after a conversion: it counts invalid conversions without a substitute
in the in-material states, up to 250, and is 0 otherwise (R133). DEPTH and FORCE keep none. -/
def graceAfter (c : HeadChannel) (st : HeadState) (fault : Option FaultKind) (ch : Channel) : Nat :=
  match c with
  | .torque | .temp =>
    if st.inMaterial && fault.isSome && !ch.substituteOn then min (ch.grace + 1) Config.graceLimit else 0
  | .force | .depth => 0

/-- A fault onset at a head's queue: a SENSOR_FAULT record and the sensor-faults counter (R132). -/
def reportFault (h : Head) (name : ChannelName) (kind : FaultKind) (ch : Channel) (s : State) : State :=
  countHead h (fun c => { c with sensorFaults := bump c.sensorFaults })
    (createRecord h (.sensorFault name kind ch.raw ch.substituteOn (s.headState h)) false s)

/-- One conversion of one of a head's channels, with its grace count and its fault onset (R130, R132, R133). -/
def convertHead (h : Head) (i : SampleInput) (c : HeadChannel) (s : State) : State :=
  let old := (s.head h).front.get c
  let fault := faultOf i c
  let new := { convert (scaleOf c) (readingOf i c) fault old with grace := graceAfter c (s.headState h) fault old }
  let s1 := s.onFront h fun f => f.set c new
  match fault with
  | some kind => if old.fault then s1 else reportFault h (nameOf c) kind new s1
  | none => s1

/-- The GANTRY conversion; its onset is reported to every present head, the one given first (R127, R132, log 3). -/
def convertGantry (first : Head) (i : EncoderReading) (s : State) : State :=
  let fault := encoderFault i
  let new := convert gantryScale i.count fault s.gantry
  let s1 := { s with gantry := new }
  match fault with
  | some kind =>
    if s.gantry.fault then s1
    else (s.presentHeads first).foldl (fun acc h => reportFault h .gantry kind new acc) s1
  | none => s1

/-- Substitution-active: an override or a substitute is enabled on FORCE, TORQUE or TEMP (R135). -/
def FrontEnd.substitutionActive (f : FrontEnd) : Bool :=
  f.force.overrideOn || f.force.substituteOn || f.torque.overrideOn || f.torque.substituteOn || f.temp.overrideOn ||
  f.temp.substituteOn

/-! ### SET CHANNEL (R138, R139) -/

/-- The channel of a head that a setting is permitted for, with the range of its value (R138). -/
def settingRange : ChannelName → Setting → Option (HeadChannel × Int × Int)
  | .force, .override => some (.force, -2000, 2000)
  | .torque, .override => some (.torque, -1000, 1000)
  | .temp, .override => some (.temp, -100, 100)
  | .torque, .substitute => some (.torque, 0, 6000)
  | .temp, .substitute => some (.temp, 0, 800)
  | .force, .substitute | .depth, _ | .gantry, _ => none

/-- A setting's enable and stored value. -/
def Channel.settingOf (c : Channel) : Setting → Bool × Int
  | .override => (c.overrideOn, c.overrideOffset)
  | .substitute => (c.substituteOn, c.substitute)

/-- Change a setting's enable and stored value. -/
def Channel.withSetting (c : Channel) (t : Setting) (on : Bool) (v : Int) : Channel :=
  match t with
  | .override => { c with overrideOn := on, overrideOffset := v }
  | .substitute => { c with substituteOn := on, substitute := v }

/-- SET CHANNEL once its checks have passed: enabling stores the value, disabling keeps it, and a SUBSTITUTION record
is written when the enable or the stored value changes (R139). -/
def setSetting (h : Head) (c : HeadChannel) (t : Setting) (on : Bool) (value : Int) (s : State) : State :=
  let before := ((s.head h).front.get c).settingOf t
  let stored := if on then value else before.2
  let s1 := s.onFront h fun f => f.set c ((f.get c).withSetting t on stored)
  let s2 := if on = before.1 ∧ stored = before.2 then s1
    else createRecord h (.substitution (nameOf c) t on stored (s.headState h)) false s1
  answer 0x0E .ok (leBytes 1 (bit on) ++ leBytes 2 stored) s2

/-- SET CHANNEL for a head (R138). -/
def takeSetChannel (channel setting enable : Nat) (value : Int) (h : Head) (s : State) : State :=
  match channelOf channel, settingOf setting, switchOf enable with
  | some name, some t, some on =>
    match settingRange name t with
    | none => answer 0x0E .notAllowed [] s
    | some (c, lo, hi) =>
      if on && !(lo ≤ value && value ≤ hi) then answer 0x0E .badField [] s else setSetting h c t on value s
  | _, _, _ => answer 0x0E .badField [] s

/-- SET CHANNEL as received. -/
def requestSetChannel (head channel setting enable : Nat) (value : Int) (s : State) : State :=
  forHead 0x0E head (takeSetChannel channel setting enable value) s

/-! ### READ CHANNELS (R140, R195) -/

/-- The 13-byte block of a channel. -/
def Channel.block (c : Channel) : List Byte :=
  leBytes 3 c.raw ++ leBytes 1 (bit c.valid + 2 * bit c.overrideOn + 4 * bit c.substituteOn + 8 * bit c.fault) ++
  leBytes 2 c.offset ++ leBytes 2 c.overrideOffset ++ leBytes 2 c.substitute ++ leBytes 3 c.effective

/-- Byte 65: the drive inputs as last read, the travel drive's by the governor. -/
def DriveInputs.byte (d : DriveInputs) (travelReady : Bool) : Nat :=
  bit d.spindleReady + 2 * bit d.atSpeed + 4 * bit d.plungeReady + 8 * bit d.lateralReady + 16 * bit travelReady

/-- Bytes 73 to 75: the travel command as presented; 0 while released. -/
def Governor.applied (g : Governor) : List Byte :=
  if g.owned then leBytes 2 g.speed ++ leBytes 1 (1 + 2 * g.direction.code) else leBytes 3 0

/-- The reply data of READ CHANNELS. -/
def State.channelBytes (s : State) (h : Head) : List Byte :=
  let u := s.head h
  u.front.force.block ++ u.front.torque.block ++ u.front.temp.block ++ u.front.depth.block ++ s.gantry.block ++
  leBytes 1 (u.drives.byte s.gov.travelReady) ++ leBytes 2 u.applied.spindle ++ leBytes 3 u.applied.depth ++
  leBytes 2 u.applied.lateral ++ s.gov.applied

/-- READ CHANNELS for a head: it changes nothing but the pending reply. -/
def takeReadChannels (h : Head) (s : State) : State := answer 0x0F .ok (s.channelBytes h) s

/-- READ CHANNELS as received. -/
def requestReadChannels (head : Nat) (s : State) : State := forHead 0x0F head takeReadChannels s

/-! ### Meanings -/

/-- SET_CHANNEL (R138). -/
def execSetChannel (head channel setting enable : Nat) (value : Int) (s : State) : Host.Outcome State Fault Refusal :=
  running (requestSetChannel head channel setting enable value) s

/-- READ_CHANNELS (R140). -/
def execReadChannels (head : Nat) (s : State) : Host.Outcome State Fault Refusal := running (requestReadChannels head) s

end Sys2Proof.Machine
end

