-- ==== Sys2Proof/Machine/Log.lean ====
section
/-! DEFINITION. The weld record log: the sample accumulator and the pitch marks (R162 to R164), SET LOG (R171),
READ RECORDS (R169) and READ COUNTERS (R173). -/

namespace Sys2Proof.Machine

/-! ### The sample accumulator -/

/-- The values of one sample (R162). -/
structure SampleValues where
  force : Int
  depth : Int
  torque : Int
  temp : Int
  flags : SampleFlags
  deriving DecidableEq, Repr

/-- The flags of a stretch with one more sample (R162). -/
def SampleFlags.or (a b : SampleFlags) : SampleFlags :=
  ⟨a.saturated || b.saturated, a.slewLimited || b.slewLimited, a.substitution || b.substitution,
    a.gapSlow || b.gapSlow, a.starved || b.starved⟩

/-- The accumulator with one more sample (R162). -/
def SampleAccumulator.add (a : SampleAccumulator) (v : SampleValues) : SampleAccumulator :=
  { count := a.count + 1
    forceSum := a.forceSum + v.force
    depthSum := a.depthSum + v.depth
    torqueSum := a.torqueSum + v.torque
    forceLeast := if a.count = 0 then v.force else min a.forceLeast v.force
    forceGreatest := if a.count = 0 then v.force else max a.forceGreatest v.force
    tempGreatest := if a.count = 0 then v.temp else max a.tempGreatest v.temp
    flags := a.flags.or v.flags }

/-- The values the blocks of a head hand to the accumulator at a sample, the gap-slow flag of the tracking unit and the
starved flag of the plan store among them (R71, R135, R162). -/
def HeadUnit.sampleValues (u : HeadUnit) (gapSlow starved : Bool) : SampleValues :=
  { force := u.front.force.effective
    depth := u.seq.depth
    torque := u.front.torque.effective
    temp := u.front.temp.effective
    flags := { saturated := u.reg.saturated, slewLimited := u.reg.slewLimited,
               substitution := u.front.substitutionActive, gapSlow := gapSlow, starved := starved } }

/-- The smallest station on the grid of the WELD entry station that is greater than the tool station (R162). -/
def gridMark (weldEntry tool pitch : Int) : Int := weldEntry + pitch * max 1 ((tool - weldEntry) / pitch + 1)

/-- The next pitch mark as computed now: the pitch is doubled when the level stands at or above the threshold (R162). -/
def computeMark (h : Head) (s : State) : PitchMark :=
  let doubled : Bool := s.threshold h ≤ s.level h
  let pitch : Int := if doubled then 2 * (s.settings.pitch : Int) else s.settings.pitch
  ⟨gridMark (s.head h).seq.weldEntry (s.toolStation h) pitch, doubled⟩

/-- The accumulator is cleared and the next pitch mark is computed anew (R162, R163). -/
def restartAccumulator (h : Head) (s : State) : State :=
  s.onLog h fun l => { l with acc := SampleAccumulator.clear, nextMark := some (computeMark h s) }

/-- The SAMPLE record of the accumulator (R163): each mean is the floor of the exact quotient. -/
def sampleBody (a : SampleAccumulator) (mark : Int) (speed : Nat) (lateral : Int) : RecordBody :=
  .sample mark (min a.count Config.count16Max) (a.forceSum / a.count) a.forceLeast a.forceGreatest
    (a.depthSum / a.count) (a.torqueSum / a.count) a.tempGreatest a.flags speed lateral

/-- At a sample in WELD that has reached the next mark, a SAMPLE record is emitted (R163). -/
def emitAtMark (h : Head) (s : State) : State :=
  let u := s.head h
  match u.log.nextMark with
  | some m =>
    if m.station ≤ s.toolStation h then
      restartAccumulator h
        (createRecord h (sampleBody u.log.acc m.station s.gov.speed u.track.lateralCommand) m.coalesced s)
    else s
  | none => s

/-- The log's work at a head sample: the accumulator takes the sample in WELD and PAUSE, and the mark is tested in WELD
(R162 to R164). `found` is the state in which the sample found the head (log 1); `gapSlow` and `starved` are the flags that
tracking unit and plan store hand over at their own work of the sample. A head that has left WELD and PAUSE before this
work gives no sample and no SAMPLE record (R164); the order decides (log 42). -/
def logWork (h : Head) (found : HeadState) (gapSlow starved : Bool) (s : State) : State :=
  if found.welding && (s.headState h).welding then
    let s1 := s.onLog h fun l => { l with acc := l.acc.add ((s.head h).sampleValues gapSlow starved) }
    if found = .weld ∧ s.headState h = .weld then emitAtMark h s1 else s1
  else s

/-! ### SET LOG (R171) -/

/-- SET LOG. -/
def requestSetLog (pitch thresholdA thresholdB : Nat) (s : State) : State :=
  if 20 ≤ pitch ∧ pitch ≤ 500 ∧ 64 ≤ thresholdA ∧ thresholdA ≤ 896 ∧ 64 ≤ thresholdB ∧ thresholdB ≤ 896 then
    answer 0x10 .ok (leBytes 2 pitch ++ leBytes 2 thresholdA ++ leBytes 2 thresholdB)
      { s with settings := ⟨pitch, thresholdA, thresholdB⟩ }
  else answer 0x10 .badField [] s

/-! ### READ RECORDS (R169) -/

/-- The level and the three flags, as they stand before any removal. -/
def State.levelBytes (s : State) (h : Head) : List Byte :=
  leBytes 2 (s.level h) ++
  leBytes 1 (bit (s.threshold h ≤ s.level h) + 2 * bit (Config.commonSlots ≤ s.commonUsed) + 4 * bit (s.level h = 0))

/-- READ RECORDS for a head: the oldest records, up to the clamped count, leave the queue and free their slots, and the
reply is composed after the removal (R165, R169, R170). -/
def takeReadRecords (count : Nat) (h : Head) (s : State) : State :=
  let n := min count 9
  let taken := (s.head h).log.queue.take n
  answer 0x11 (okOr (n ≠ count))
    (s.levelBytes h ++ leBytes 1 taken.length ++ taken.flatMap LogRecord.bytes)
    (s.onLog h fun l => { l with queue := l.queue.drop n })

/-- READ RECORDS as received. -/
def requestReadRecords (head count : Nat) (s : State) : State := forHead 0x11 head (takeReadRecords count) s

/-! ### READ COUNTERS (R173) -/

/-- The sixteen counters, u32 each, in the order of R172 (R195). -/
def HeadCounters.bytes (c : HeadCounters) : List Byte :=
  leBytes 4 c.seamsCompleted ++ leBytes 4 c.seamsInterrupted ++ leBytes 4 c.reentries ++
  leBytes 4 c.segmentsCompleted ++ leBytes 4 c.saturatedSamples ++ leBytes 4 c.excursions ++ leBytes 4 c.pauses ++
  leBytes 4 c.pauseLimitInterrupts ++ leBytes 4 c.trackAccepted ++ leBytes 4 c.trackStale ++
  leBytes 4 c.trackOutOfOrder ++ leBytes 4 c.trackFull ++ leBytes 4 c.trackLowQuality ++ leBytes 4 c.trackLosses ++
  leBytes 4 c.recordsLost ++ leBytes 4 c.sensorFaults

/-- The six line counters, u32 each, in the order of R172 (R195). -/
def LineCounters.bytes (c : LineCounters) : List Byte :=
  leBytes 4 c.framesTaken ++ leBytes 4 c.badCheck ++ leBytes 4 c.framingErrors ++ leBytes 4 c.truncatedFrames ++
  leBytes 4 c.breaks ++ leBytes 4 c.badTrackReports

/-- A read of one head's counters: the reply is composed and then the counters are cleared when asked (R173). -/
def readHeadCounters (h : Head) (clear : Bool) (s : State) : State :=
  let s1 := answer 0x12 .ok (s.head h).log.counters.bytes s
  if clear then s1.onLog h fun l => { l with counters := HeadCounters.zero } else s1

/-- A read of the line counters (R173). -/
def readLineCounters (clear : Bool) (s : State) : State :=
  let s1 := answer 0x12 .ok s.lines.bytes s
  if clear then s1.onLines fun _ => LineCounters.zero else s1

/-- READ COUNTERS: any value but 0 of the clear byte clears (R173, R195). -/
def requestReadCounters (scope clear : Nat) (s : State) : State :=
  match scope with
  | 0 => readHeadCounters .a (clear ≠ 0) s
  | 1 => if s.straps.headB then readHeadCounters .b (clear ≠ 0) s else answer 0x12 .noHead [] s
  | 2 => readLineCounters (clear ≠ 0) s
  | _ => answer 0x12 .badField [] s

/-! ### Meanings -/

/-- SET_LOG (R171). -/
def execSetLog (pitch thresholdA thresholdB : Nat) (s : State) : Host.Outcome State Fault Refusal :=
  running (requestSetLog pitch thresholdA thresholdB) s

/-- READ_RECORDS (R169). -/
def execReadRecords (head count : Nat) (s : State) : Host.Outcome State Fault Refusal :=
  running (requestReadRecords head count) s

/-- READ_COUNTERS (R173). -/
def execReadCounters (scope clear : Nat) (s : State) : Host.Outcome State Fault Refusal :=
  running (requestReadCounters scope clear) s

end Sys2Proof.Machine
end

