-- ==== Sys2Proof/Machine/Plan.lean ====
section
/-! DEFINITION. The seam plan store: APPEND SEGMENT (R2 to R4, R7, R8, R18, R19), the re-clamp (R5), the station check
(R10 to R14), starvation (R16, R17, R22), CLEAR PLAN and READ PLAN (R23, R25), and what ABANDON SEAM removes (R24). -/

namespace Sys2Proof.Machine

/-! ### Segments -/

/-- The encoding check of R3 on the fields as received; a segment that passes it is the stored form of the record. -/
def checkSegment (g : SegmentRecord) : Option Segment :=
  match zoneOf g.zone, switchOf g.tracking, gapActionOf g.gapAction, endActionOf g.endAction with
  | some zone, some tracking, some gapAction, some endAction =>
    if g.id ≤ 65535 ∧ g.start ≤ 400000 ∧ 10 ≤ g.length ∧ g.length ≤ 100000 ∧ g.start + g.length ≤ 400000 ∧
        200 ≤ g.force ∧ g.force ≤ 6000 ∧ 200 ≤ g.spindle ∧ g.spindle ≤ 4000 ∧ 50 ≤ g.cap ∧ g.cap ≤ 3000 ∧
        g.windowMin ≤ 20000 ∧ g.windowMax ≤ 20000 then
      some { id := g.id, start := g.start, length := g.length, zone := zone, force := g.force, spindle := g.spindle,
             cap := g.cap, windowMin := g.windowMin, windowMax := g.windowMax, tracking := tracking,
             gapAction := gapAction, endAction := endAction }
    else none
  | _, _, _, _ => none

/-- Lower a value to a limit of a set; a set not loaded does not act (R4). -/
def lowerTo {α : Type} (limit : α → Nat) (set : Option α) (v : Nat) : Nat :=
  match set with
  | some p => min v (limit p)
  | none => v

/-- Raise a value to a limit of a set; a set not loaded does not act (R4). -/
def raiseTo {α : Type} (limit : α → Nat) (set : Option α) (v : Nat) : Nat :=
  match set with
  | some p => max v (limit p)
  | none => v

/-- The clamps of R4. -/
def clampSegment (p : ProfileStore) (g : Segment) : Segment :=
  { g with
    force := lowerTo LimitsSet.forceMax p.limits g.force
    spindle := lowerTo LimitsSet.spindleMax p.limits g.spindle
    cap := raiseTo TravelSet.minWeldSpeed p.travel g.cap
    windowMin := lowerTo ToolSet.depthHardMax p.tool g.windowMin
    windowMax := lowerTo ToolSet.depthHardMax p.tool g.windowMax }

/-- The clamp mask: which of the five fields the clamps changed (R4, R195). -/
def clampMask (before after : Segment) : Nat :=
  bit (before.force ≠ after.force) + 2 * bit (before.spindle ≠ after.spindle) + 4 * bit (before.cap ≠ after.cap) +
  8 * bit (before.windowMin ≠ after.windowMin) + 16 * bit (before.windowMax ≠ after.windowMax)

/-- The re-clamp of a stored segment: the clamps of R4, and a window that would close has its min one below its max
(R5). -/
def reclampSegment (p : ProfileStore) (g : Segment) : Segment :=
  let c := clampSegment p g
  if c.windowMax ≤ c.windowMin then { c with windowMin := c.windowMax - 1 } else c

/-- Every segment of the queue and the retained segment are clamped again (R5). -/
def reclampPlan (p : ProfileStore) (q : PlanStore) : PlanStore :=
  { q with queue := q.queue.map (reclampSegment p), retained := q.retained.map (reclampSegment p) }

/-! ### APPEND SEGMENT -/

/-- The append itself, past all checks: the clamped segment joins the tail; when the head is starved and the segment's
end lies ahead of the tool station, starvation ends and PLAN_RESUMED is written with the distance used as it stood
(R7, R18, R19, log 17). -/
def appendToPlan (h : Head) (g : Segment) (s : State) : State :=
  let s1 := s.onPlan h fun p => { p with queue := p.queue ++ [g] }
  if (s.head h).plan.starved.isSome ∧ s.toolStation h < (g.endStation : Int) then
    createRecord h (.planResumed g.ref (s.head h).plan.distanceUsed) false (endStarvation h s1)
  else s1

/-- The checks of R7 in their order, on a record whose fields are within range and clamped. -/
def takeClampedSegment (h : Head) (g : Segment) (mask : Nat) (s : State) : State :=
  let plan := (s.head h).plan
  let refusal := leBytes 1 mask ++ leBytes 1 plan.queue.length
  if g.windowMax ≤ g.windowMin then answer 0x08 .badField [] s
  else if Config.appendCapacity ≤ plan.queue.length then answer 0x08 .planFull refusal s
  else if plan.contiguityReference.any (· ≠ g.start) then answer 0x08 .notContiguous refusal s
  else answer 0x08 (okOr (mask ≠ 0)) (leBytes 1 mask ++ leBytes 1 (plan.queue.length + 1 : Nat)) (appendToPlan h g s)

/-- APPEND SEGMENT for a head (R7). -/
def takeAppendSegment (g : SegmentRecord) (h : Head) (s : State) : State :=
  if s.headState h = .calibrating then answer 0x08 .wrongState [] s
  else match checkSegment g with
    | none => answer 0x08 .badField [] s
    | some raw =>
      let c := clampSegment (s.head h).profiles raw
      takeClampedSegment h c (clampMask raw c) s

/-- APPEND SEGMENT as received. -/
def requestAppendSegment (head : Nat) (g : SegmentRecord) (s : State) : State :=
  forHead 0x08 head (takeAppendSegment g) s

/-! ### The station check and starvation -/

/-- A segment completed with zone BODY or CLAMP_GAP and tracking OFF is untracked (R14). -/
def Segment.untracked (g : Segment) : Bool := !g.tracking && (g.zone == .body || g.zone == .clampGap)

/-- A segment is completed: it leaves the head of the queue and becomes the retained segment; SEGMENT_END is written
with the segment saturation count, which is then set to 0, and counted (R11, R14, R72). -/
def completeSegment (h : Head) (g : Segment) (rest : List Segment) (s : State) : State :=
  let body : RecordBody := .segmentEnd g.id g.zone g.endAction (g.endStation : Nat) (s.toolStation h)
    (s.head h).reg.saturationCount g.untracked
  let s1 := s.onPlan h fun p => { p with queue := rest, retained := some g }
  let s2 := countHead h (fun c => { c with segmentsCompleted := bump c.segmentsCompleted })
    (createRecord h body false s1)
  s2.onReg h fun r => { r with saturationCount := 0 }

/-- The head becomes starved behind a completed segment: nominal end, distance used, STARVED record (R16, R22). -/
def starve (h : Head) (g : Segment) (s : State) : State :=
  let e : Int := (g.endStation : Nat)
  createRecord h (.starved e g.ref) false
    (s.onPlan h fun p => { p with starved := some ⟨e, s.toolStation h - e⟩ })

/-- An exhausted allowance interrupts the head with cause PLAN_STARVED (R17). -/
def checkAllowance (h : Head) (s : State) : State :=
  match (s.head h).plan.starved with
  | some v => if ((s.head h).travelSet.starvationAllowance : Int) ≤ v.used then interruptHead h .planStarved s else s
  | none => s

/-- The station check, one segment after another: it ends at an EXIT segment, which ends the seam, at a segment whose
end lies ahead, or at an empty queue, which starves a head that is not yet starved. The first argument bounds the
segments examined; the queue's length suffices (R10, R11, R12, R16, R19). -/
def completeSegments : Nat → Head → State → State
  | 0, _, s => s
  | n + 1, h, s =>
    match (s.head h).plan.queue with
    | [] => s
    | g :: rest =>
      if s.toolStation h < (g.endStation : Int) then s
      else
        let s1 := completeSegment h g rest s
        match g.endAction with
        | .exit => enterExit h g s1
        | .carryOn =>
          if rest.isEmpty then
            if (s.head h).plan.starved.isSome then s1 else checkAllowance h (starve h g s1)
          else completeSegments n h s1

/-- The station check of R10. -/
def stationCheck (h : Head) (s : State) : State := completeSegments (s.head h).plan.queue.length h s

/-- While the head is starved in WELD or PAUSE, the distance used is taken anew and the allowance checked (R17). -/
def measureStarvation (h : Head) (s : State) : State :=
  checkAllowance h (s.onPlan h fun p =>
    { p with starved := p.starved.map fun v => { v with used := s.toolStation h - v.nominalEnd } })

/-- What the plan store does as a head enters WELD from DWELL on a re-entry: with an empty queue the head is starved at
once behind its retained segment, and its allowance is first checked at the next sample; otherwise a station check is
made, whose onset of starvation, where it empties the queue, checks the allowance at the entry itself
(R22, R16, R54; DESIGN CHOICE, log 18). -/
def reentryCheck (h : Head) (s : State) : State :=
  if (s.head h).plan.queue.isEmpty then
    match (s.head h).plan.retained with
    | some g => starve h g s
    | none => s
  else stationCheck h s

/-- The plan store's work at a head sample: the station check in WELD, then the distance used of a starved head in WELD
or PAUSE (R10, R17). `found` is the state in which the sample found the head (log 1). No rule orders the two for a head
that was starved before the sample; the model checks the stations first, so that a late EXIT segment ends the seam also
at a sample that would exhaust the allowance (DESIGN CHOICE, log 45). No head becomes starved in PAUSE: R105 says that it
may, while R10, R16 and R19 let starvation begin at a station check in WELD alone, and the model follows these (DESIGN
CHOICE, log 46). -/
def planWork (h : Head) (found : HeadState) (s : State) : State :=
  let s1 := if found = .weld ∧ s.headState h = .weld then stationCheck h s else s
  if found.welding && (s1.headState h).welding then measureStarvation h s1 else s1

/-! ### CLEAR PLAN, READ PLAN and the segments of an abandoned seam -/

/-- The queue emptied and the retained segment discarded. -/
def PlanStore.cleared (p : PlanStore) : PlanStore := { p with queue := [], retained := none }

/-- An abandonment: the ABANDONED record with the number of segments removed, and the head goes to READY or CAL_DUE
(R23, R55). -/
def abandon (h : Head) (removed : Nat) (s : State) : State :=
  let q := (s.head h).seq
  setHeadState h (readyOrCalDue q) (createRecord h (.abandoned removed q.interruptStation q.cause) false s)

/-- CLEAR PLAN for a head (R23). -/
def takeClearPlan (h : Head) (s : State) : State :=
  let n := (s.head h).plan.queue.length
  let s1 := s.onPlan h PlanStore.cleared
  match s.headState h with
  | .uncommissioned | .commissioning | .calDue | .ready => answer 0x09 .ok (leBytes 1 n) s1
  | .interrupted => answer 0x09 .ok (leBytes 1 n) (abandon h n s1)
  | .calibrating | .approach | .spinup | .plunge | .dwell | .weld | .pause | .exit | .interrupting =>
    answer 0x09 .wrongState [] s

/-- CLEAR PLAN as received. -/
def requestClearPlan (head : Nat) (s : State) : State := forHead 0x09 head takeClearPlan s

/-- The queue behind the first EXIT segment, empty when it holds none (R24). -/
def afterSeam : List Segment → List Segment
  | [] => []
  | g :: rest => if g.endAction = .exit then rest else afterSeam rest

/-- The reply data of READ PLAN (R25, R195). -/
def PlanStore.bytes (p : PlanStore) : List Byte :=
  leBytes 1 p.queue.length ++ leBytes 1 (bit p.current.isSome + 2 * bit p.retained.isSome) ++
  (match p.current with
    | some g => leBytes 2 g.id ++ leBytes 3 g.start ++ leBytes 3 (g.endStation : Nat) ++ leBytes 1 g.endAction.code
    | none => leBytes 9 0) ++
  (match p.retained with
    | some g => leBytes 2 g.id
    | none => leBytes 2 0)

/-- READ PLAN for a head: it changes nothing but the pending reply (R25). -/
def takeReadPlan (h : Head) (s : State) : State := answer 0x0A .ok (s.head h).plan.bytes s

/-- READ PLAN as received. -/
def requestReadPlan (head : Nat) (s : State) : State := forHead 0x0A head takeReadPlan s

/-! ### Meanings -/

/-- APPEND_SEGMENT (R7). -/
def execAppendSegment (head : Nat) (seg : SegmentRecord) (s : State) : Host.Outcome State Fault Refusal :=
  running (requestAppendSegment head seg) s

/-- CLEAR_PLAN (R23). -/
def execClearPlan (head : Nat) (s : State) : Host.Outcome State Fault Refusal := running (requestClearPlan head) s

/-- READ_PLAN (R25). -/
def execReadPlan (head : Nat) (s : State) : Host.Outcome State Fault Refusal := running (requestReadPlan head) s

end Sys2Proof.Machine
end

