-- ==== Sys2Proof/Machine/Regulation.lean ====
section
/-! DEFINITION. The force regulator: the six stages (R64 to R71), the excursion watch (R76, R77), the force-limit run
(R79, R80), and the preparation at WELD entry (R63). -/

namespace Sys2Proof.Machine

/-- Stage 1: the thermal factor in per mille (R64). -/
def thermalFactor (r : RegulatorSet) (t : Int) : Int :=
  if t ≤ r.softTemp then 1000 else max 700 (1000 - r.thermalSlope * (t - r.softTemp))

/-- Stage 2: the target force from the target force of the segment in force (R65). -/
def targetForce (r : RegulatorSet) (paused : Bool) (t : Int) (force : Nat) : Nat :=
  let f := force * (thermalFactor r t).toNat / 1000
  if paused then f * r.pauseFactor / 1000 else f

/-- One regulator sample on the regulator's state and the depth command: stages 1 to 6 and the excursion run. The
inputs are the REGULATOR set, the segment in force, whether the head is in PAUSE, the effective temperature and the
effective force (R64 to R71, R76). -/
def regulate (r : RegulatorSet) (g : Segment) (paused : Bool) (t force : Int) (x : Regulator) (depth : Int) :
    Regulator × Int :=
  let target := targetForce r paused t g.force
  let e : Int := target - clampInt (-1000) 7000 force
  let prev := if x.firstSample then e else x.ePrev
  let increment := roundHalfAway (r.kp * (e - prev) + r.ki * e) 256
  let limited := clampInt (-(r.slew : Int)) r.slew increment
  let entry := if x.firstSample then clampInt g.windowMin g.windowMax depth else depth
  let moved := clampInt g.windowMin g.windowMax (entry + limited)
  let saturated : Bool := entry ≠ depth || moved ≠ entry + limited
  let beyond : Bool := r.excursionBand < e.natAbs
  ({ ePrev := e
     firstSample := false
     target := target
     saturated := saturated
     slewLimited := limited ≠ increment
     saturationCount := if saturated then bump16 x.saturationCount else x.saturationCount
     excursionRun := if beyond then bump16 x.excursionRun else 0
     excursionPeak := if beyond then max x.excursionPeak e.natAbs else 0
     excursionLatch := beyond && x.excursionLatch
     forceRun := x.forceRun
     excursionsHeld := x.excursionsHeld }, moved)

/-- The EXCURSION record of an excursion, and its counter (R77). -/
def recordExcursion (h : Head) (x : Excursion) (s : State) : State :=
  countHead h (fun c => { c with excursions := bump c.excursions })
    (createRecord h (.excursion x.segment x.state x.peak x.run x.negative x.tool) false s)

/-- The condition of R77: the run stands above the excursion length with the latch clear. -/
def HeadUnit.excursionDue (u : HeadUnit) : Bool :=
  u.regulator.excursionLength < u.reg.excursionRun && !u.reg.excursionLatch

/-- The regulator reports an excursion of the segment `g` and sets its latch (R77). With split off the record is written
and counted at once; with split on it is held, as the sample found it, for its own row (log 4). -/
def reportExcursion (h : Head) (g : Segment) (split : Bool) (s : State) : State :=
  let u := s.head h
  let x : Excursion :=
    { segment := g.ref, state := u.seq.state, peak := u.reg.excursionPeak, run := u.reg.excursionRun
      negative := u.reg.ePrev < 0, tool := s.toolStation h }
  let s1 := s.onReg h fun r => { r with excursionLatch := true }
  if split then s1.onReg h fun r => { r with excursionsHeld := r.excursionsHeld ++ [x] } else recordExcursion h x s1

/-- The regulator sample in WELD and PAUSE (R62). `split` leaves the record of an excursion to its own row (log 4). A
head without a segment in force, which no run reaches here, regulates nothing (log 25). -/
def regulatorSample (h : Head) (split : Bool) (s : State) : State :=
  let u := s.head h
  match u.plan.inForce with
  | none => s
  | some g =>
    let res := regulate u.regulator g (u.seq.state == .pause) u.front.temp.effective u.front.force.effective u.reg
      u.seq.depth
    let s1 := (s.onReg h fun _ => res.1).onSeq h fun q => { q with depth := res.2 }
    let s2 := if res.1.saturated then
        countHead h (fun c => { c with saturatedSamples := bump c.saturatedSamples }) s1
      else s1
    if (s2.head h).excursionDue then reportExcursion h g split s2 else s2

/-- The regulator's work at a head sample, for the states of R62. `found` is the state in which the sample found the
head (log 1). -/
def regulatorWork (h : Head) (found : HeadState) (split : Bool) (s : State) : State :=
  if found.welding && (s.headState h).welding then regulatorSample h split s else s

/-- The force-limit run at a head sample: it counts samples above the LIMITS force max in the in-material states, up to
3, and is 0 in every other state (R79). -/
def forceRunAfter (u : HeadUnit) (inMaterial : Bool) : Nat :=
  if inMaterial && (u.limits.forceMax : Int) < u.front.force.effective then min (u.reg.forceRun + 1) 3 else 0

/-- The force-limit run, and FORCE_LIMIT when it reaches 3 (R79, R80). `split` leaves the condition to its own row. -/
def forceRunWork (h : Head) (found : HeadState) (split : Bool) (s : State) : State :=
  let run := forceRunAfter (s.head h) (found.inMaterial && (s.headState h).inMaterial)
  let s1 := s.onReg h fun r => { r with forceRun := run }
  if run = 3 ∧ !split then interruptHead h .forceLimit s1 else s1

/-- The preparation at WELD entry from DWELL; the previous error is kept (R63). -/
def Regulator.prepared (r : Regulator) : Regulator :=
  { r with firstSample := true, target := 0, saturated := false, slewLimited := false, saturationCount := 0,
           excursionRun := 0, excursionPeak := 0, excursionLatch := false }

/-- FORCE_LIMIT as its own row: the run stands at 3 in an in-material state (R80). -/
def findForceLimit (h : Head) (s : State) : State :=
  if s.present h && (s.headState h).inMaterial && (s.head h).reg.forceRun == 3 then interruptHead h .forceLimit s else s

/-- EXCURSION as its own row (R77): the oldest excursion held by a sample with split on is recorded and counted, with the
values of the sample that found it, whatever the head's state has become since (log 4). -/
def findExcursion (h : Head) (s : State) : State :=
  match (s.head h).reg.excursionsHeld with
  | x :: rest =>
    if s.present h then recordExcursion h x (s.onReg h fun r => { r with excursionsHeld := rest }) else s
  | [] => s

/-- FORCE_LIMIT (R80). -/
def execForceLimit (h : Head) (s : State) : Host.Outcome State Fault Refusal := running (findForceLimit h) s

/-- EXCURSION (R77). -/
def execExcursion (h : Head) (s : State) : Host.Outcome State Fault Refusal := running (findExcursion h) s

end Sys2Proof.Machine
end

