-- ==== Sys2Proof/Machine/Sequencer.lean ====
section
/-! DEFINITION. The head sequencer: the seam requests (R35, R36, R49 to R55), RESET HEAD and READ STATUS (R58, R59),
the halt event (R56), calibration (R153 to R156), and the changes of state that a head sample finds (R37 to R44, R47). -/

namespace Sys2Proof.Machine

/-! ### What the requests look at -/

/-- A head's FORCE or DEPTH channel, or GANTRY, is faulted (R35, R39, R46, R51). -/
def State.sensorFaulted (s : State) (h : Head) : Bool :=
  (s.head h).front.force.fault || (s.head h).front.depth.fault || s.gantry.fault

/-- The head's spindle, plunge and lateral drives as last read are ready (R136). -/
def DriveInputs.headReady (d : DriveInputs) : Bool := d.spindleReady && d.plungeReady && d.lateralReady

/-- All four drives as last read are ready (R35, R51). -/
def DriveInputs.allReady (d : DriveInputs) : Bool := d.headReady && d.travelReady

/-- The other head is in APPROACH with direction REVERSE; an absent head B is in no approach (R35). -/
def State.otherReverses (s : State) (h : Head) : Bool :=
  s.present h.other && s.headState h.other == .approach && (s.head h.other).seq.direction == .reverse

/-- The other head is engaged; an absent head B is not (R51). -/
def State.otherEngaged (s : State) (h : Head) : Bool := s.present h.other && (s.headState h.other).engaged

/-! ### START SEAM (R35, R36) -/

/-- The start of a fresh seam at the current segment, past all checks (R36). -/
def beginSeam (h : Head) (g : Segment) (s : State) : State :=
  let s1 := s.onSeq h fun q => { q with kind := .fresh, target := (g.start : Nat), direction := .forward }
  createRecord h (.seamStart g.ref (g.start : Nat) (s.toolStation h)) false (setHeadState h .approach s1)

/-- START SEAM for a head: the checks of R35 in their order. -/
def takeStartSeam (h : Head) (s : State) : State :=
  let refuse (st : Status) : State := answer 0x03 st [] s
  if s.headState h ≠ .ready ∧ s.headState h ≠ .calDue then refuse .wrongState
  else if s.headState h = .calDue then refuse .calDue
  else if s.pins.halt then refuse .halted
  else match (s.head h).plan.current with
    | none => refuse .planEmpty
    | some g =>
      if s.sensorFaulted h then refuse .sensorFault
      else if !(s.head h).drives.allReady then refuse .driveNotReady
      else if (g.start : Int) + 10 < s.toolStation h then refuse .position
      else if s.otherReverses h then refuse .otherHeadBusy
      else answer 0x03 .ok (leBytes 3 (g.start : Nat)) (beginSeam h g s)

/-- START SEAM as received. -/
def requestStartSeam (head : Nat) (s : State) : State := forHead 0x03 head takeStartSeam s

/-! ### STOP SEAM (R49, R50) -/

/-- What STOP SEAM does to a head, without its reply (R49). -/
def stopHead (h : Head) (s : State) : State :=
  if (s.headState h).starting then failStart h .hostStop s else interruptHead h .hostStop s

/-- STOP SEAM for a head (R49). -/
def takeStopSeam (h : Head) (s : State) : State :=
  if (s.headState h).engaged then answer 0x04 .ok [] (stopHead h s) else answer 0x04 .wrongState [] s

/-- A broadcast STOP SEAM: each present head takes it, without a reply (R50, log 3). With both heads in WELD the second
head takes the pause-begin of the first head's HOLD before the stop, which then finds it in PAUSE; R102 allows the other
order too (DESIGN CHOICE, log 38). -/
def broadcastStop (first : Head) (s : State) : State :=
  (s.presentHeads first).foldl (fun acc h => stopHead h acc) s

/-- STOP SEAM as received. -/
def requestStopSeam (target : StopTarget) (s : State) : State :=
  match target with
  | .head code => forHead 0x04 code takeStopSeam s
  | .broadcast first => broadcastStop first s

/-! ### RESTART SEAM (R51 to R53) -/

/-- The lower bound of a re-entry station: the start of the retained segment with end action CONTINUE, else that of the
current segment. An interrupted head has one of the two; without either the bound does not act (R52, log 25). -/
def PlanStore.reentryBound (p : PlanStore) : Option Int :=
  match p.openRetained with
  | some g => some (g.start : Nat)
  | none => p.current.map fun g => (g.start : Nat)

/-- The re-entry station from the interrupt station and the requested overlap (R52). -/
def reentryStation (p : PlanStore) (interrupt : Int) (overlap : Nat) : Int :=
  let first := interrupt - clampInt 200 1000 overlap
  match p.reentryBound with
  | some b => max b first
  | none => first

/-- Whether one of the two clamps of R52 acts. -/
def reentryClamped (p : PlanStore) (interrupt : Int) (overlap : Nat) : Bool :=
  clampInt 200 1000 overlap ≠ (overlap : Int) ||
  reentryStation p interrupt overlap ≠ interrupt - clampInt 200 1000 overlap

/-- The plan with the retained segment put back at the head of the queue, when its end action is CONTINUE and the
re-entry station lies within it (R21). -/
def PlanStore.reinstate (p : PlanStore) (station : Int) : PlanStore :=
  match p.openRetained with
  | some g =>
    if (g.start : Int) ≤ station ∧ station < (g.endStation : Int) then
      { p with queue := g :: p.queue, retained := none }
    else p
  | none => p

/-- The begin of a re-entry at a station, past all checks (R53). -/
def beginReentry (h : Head) (station : Int) (s : State) : State :=
  let q := (s.head h).seq
  let direction : Direction := if station < s.toolStation h then .reverse else .forward
  let s1 := s.onSeq h fun q =>
    { q with kind := .reentry, target := station, reentryStation := station, direction := direction }
  let s2 := emptyTrack h (s1.onPlan h fun p => p.reinstate station)
  let s3 := setHeadState h .approach s2
  let s4 := reportInForce h
    (fun g => .reentry q.interruptStation q.cause station (q.interruptStation - station) g) s3
  countHead h (fun c => { c with reentries := bump c.reentries }) s4

/-- RESTART SEAM for a head: the checks of R51 in their order. -/
def takeRestartSeam (overlap : Nat) (h : Head) (s : State) : State :=
  let u := s.head h
  let refuse (st : Status) : State := answer 0x05 st [] s
  if s.headState h ≠ .interrupted then refuse .wrongState
  else if s.pins.halt then refuse .halted
  else if s.sensorFaulted h then refuse .sensorFault
  else if !u.drives.allReady then refuse .driveNotReady
  else if s.otherEngaged h then refuse .otherHeadBusy
  else
    let station := reentryStation u.plan u.seq.interruptStation overlap
    answer 0x05 (okOr (reentryClamped u.plan u.seq.interruptStation overlap))
      (leBytes 3 station ++ leBytes 2 (u.seq.interruptStation - station)) (beginReentry h station s)

/-- RESTART SEAM as received. -/
def requestRestartSeam (head overlap : Nat) (s : State) : State := forHead 0x05 head (takeRestartSeam overlap) s

/-! ### ABANDON SEAM (R24, R55) -/

/-- ABANDON SEAM for a head. -/
def takeAbandonSeam (h : Head) (s : State) : State :=
  if s.headState h = .interrupted then
    let queue := (s.head h).plan.queue
    let removed := queue.length - (afterSeam queue).length
    answer 0x06 .ok (leBytes 1 removed)
      (abandon h removed (s.onPlan h fun p => { p with queue := afterSeam queue, retained := none }))
  else answer 0x06 .wrongState [] s

/-- ABANDON SEAM as received. -/
def requestAbandonSeam (head : Nat) (s : State) : State := forHead 0x06 head takeAbandonSeam s

/-! ### RESET HEAD (R58 and the RESET HEAD column of each reset table) -/

/-- The state after RESET HEAD (R58). -/
def stateAfterReset (q : Sequencer) : HeadState :=
  match q.state with
  | .uncommissioned => .uncommissioned
  | .commissioning => .commissioning
  | .calDue | .calibrating | .ready | .approach | .spinup | .plunge | .dwell | .weld | .pause | .exit
  | .interrupting | .interrupted => readyOrCalDue q

/-- The sequencer's items after RESET HEAD, the state aside: the budget, its ceiling, the depth command and the ramp
accumulator are kept (R60, R158). -/
def Sequencer.reset (q : Sequencer) : Sequencer :=
  { q with kind := .fresh, target := 0, direction := .forward, plungeStation := 0, weldEntry := 0, cause := none,
           interruptStation := 0, reentryStation := 0, spinupTimer := 0, plungeTimer := 0, dwellTimer := 0,
           spindle := 0, cal := CalAccumulator.clear }

/-- A channel after RESET HEAD: its enables are off, its grace is 0, and DEPTH's latched fault is cleared (R141). -/
def Channel.reset (c : Channel) (latched : Bool) : Channel :=
  { c with overrideOn := false, substituteOn := false, fault := c.fault && !latched, grace := 0 }

/-- The channels after RESET HEAD (R141). -/
def FrontEnd.reset (f : FrontEnd) : FrontEnd :=
  ⟨f.force.reset false, f.torque.reset false, f.temp.reset false, f.depth.reset true⟩

/-- The tracking state after RESET HEAD: tool station, lateral target and lateral command are kept (R126). -/
def Tracking.reset (t : Tracking) : Tracking :=
  { t with queue := [], activeFirst := false, gapSlow := false, mismatchLatch := false, lossDistance := 0 }

/-- The log's items of a head after RESET HEAD: sequence counter, loss-pending and counters are kept (R174). -/
def HeadLog.reset (l : HeadLog) : HeadLog :=
  { l with queue := [], acc := SampleAccumulator.clear, nextMark := none }

/-- Every block's part of RESET HEAD, the head state aside (R26, R60, R83, R108, R126, R141, R158, R174). -/
def HeadUnit.reset (u : HeadUnit) : HeadUnit :=
  { u with seq := u.seq.reset, plan := PlanStore.empty, reg := Regulator.clear, track := u.track.reset,
           front := u.front.reset, travel := ⟨0, 0, 0⟩, log := u.log.reset }

/-- RESET HEAD for a head (R58). -/
def takeResetHead (h : Head) (s : State) : State :=
  if (s.headState h).engaged then answer 0x07 .wrongState [] s
  else answer 0x07 .ok [] (setHeadState h (stateAfterReset (s.head h).seq) (s.onHead h HeadUnit.reset))

/-- RESET HEAD as received. -/
def requestResetHead (head : Nat) (s : State) : State := forHead 0x07 head takeResetHead s

/-! ### READ STATUS (R59, R106, R195) -/

/-- Bytes 39 to 42: the parameter and the direction of the travel demand. -/
def HeadUnit.demandBytes (u : HeadUnit) : List Byte :=
  match u.seq.state.demand with
  | .approach => leBytes 3 u.seq.target ++ leBytes 1 u.seq.direction.code
  | .advance => leBytes 3 u.travel.permitted ++ leBytes 1 0
  | .idle | .hold => leBytes 4 0

/-- The id of the segment in force; a free value when none is (log 31). -/
def State.statusId (s : State) (h : Head) : Nat :=
  match (s.head h).plan.inForce with
  | some g => g.id
  | none => Config.freeStatusId s.free % 65536

/-- The 45 bytes of READ STATUS data. The distance used goes into its u16 field modulo 65,536: for a negative one, which
R15, R22 and R59 allow and say nothing more of, that is the model's choice (DESIGN CHOICE, log 36). -/
def State.statusBytes (s : State) (h : Head) : List Byte :=
  let u := s.head h
  let q := u.seq
  leBytes 1 q.state.code ++ leBytes 1 q.kind.code ++ leBytes 1 (causeCode q.cause) ++ leBytes 3 q.interruptStation ++
  leBytes 3 q.reentryStation ++ leBytes 1 q.budget ++ leBytes 2 u.travel.pauseTimer ++ leBytes 3 (s.toolStation h) ++
  leBytes 3 s.gantry.effective ++ leBytes 2 (s.statusId h) ++ leBytes 2 u.plan.distanceUsed ++
  leBytes 1 u.plan.queue.length ++
  leBytes 1 (bit u.plan.inForce.isSome + 2 * bit u.plan.retained.isSome + 4 * bit u.reg.saturated) ++
  leBytes 3 q.depth ++ leBytes 2 u.front.force.effective ++ leBytes 2 u.reg.target ++
  leBytes 2 u.track.lateralCommand ++ leBytes 2 q.spindle ++ leBytes 2 s.gov.speed ++
  leBytes 1 (bit s.gov.owned + 2 * s.gov.direction.code) ++ leBytes 1 q.state.demand.code ++ u.demandBytes ++
  leBytes 2 (s.level h)

/-- READ STATUS for a head: it changes nothing but the pending reply and the model's free-value counter (R59). -/
def takeReadStatus (h : Head) (s : State) : State :=
  let s1 := answer 0x02 .ok (s.statusBytes h) s
  if (s.head h).plan.inForce.isSome then s1 else s1.tick

/-- READ STATUS as received. -/
def requestReadStatus (head : Nat) (s : State) : State := forHead 0x02 head takeReadStatus s

/-! ### Calibration (R153 to R156) -/

/-- The acceptance of CALIBRATE: the origin state is kept, count and sum start at 0 (R153, R154, R83, R141). That least
and greatest start at 0 too, where R154 gives them no value, is the model's choice (DESIGN CHOICE, log 37); the first
reading replaces both. -/
def beginCalibration (h : Head) (s : State) : State :=
  let origin := s.headState h
  let s1 := s.onSeq h fun q => { q with cal := ⟨some origin, 0, 0, 0, 0⟩ }
  let s2 := s1.onReg h fun r => { r with forceRun := 0 }
  let s3 := s2.onFront h fun f => { f with torque := { f.torque with grace := 0 }, temp := { f.temp with grace := 0 } }
  setHeadState h .calibrating s3

/-- CALIBRATE for a head: the checks of R153 in their order. -/
def takeCalibrate (h : Head) (s : State) : State :=
  let u := s.head h
  let refuse (st : Status) : State := answer 0x0D st [] s
  if s.headState h ≠ .calDue ∧ s.headState h ≠ .ready ∧ s.headState h ≠ .interrupted then refuse .wrongState
  else if s.pins.halt then refuse .halted
  else if !u.front.force.valid then refuse .sensorFault
  else if !(u.drives.spindleReady && u.drives.plungeReady) then refuse .driveNotReady
  else if u.clearanceHeight < u.seq.depth then refuse .wrongState
  else answer 0x0D .ok [] (beginCalibration h s)

/-- CALIBRATE as received. -/
def requestCalibrate (head : Nat) (s : State) : State := forHead 0x0D head takeCalibrate s

/-- The state a calibration came from (R154). -/
def Sequencer.origin (q : Sequencer) : HeadState := q.cal.origin.getD .calDue

/-- The calibration ends and the head goes to a state; the accumulator is cleared (R155, R156, log 23). -/
def endCalibration (h : Head) (st : HeadState) (s : State) : State :=
  setHeadState h st (s.onSeq h fun q => { q with cal := CalAccumulator.clear })

/-- An abort with a reason: CAL_FAILED with the count reached, mean and spread 0, and back to the origin state (R156). -/
def abortCalibration (h : Head) (r : CalFailure) (s : State) : State :=
  let q := (s.head h).seq
  endCalibration h q.origin (createRecord h (.calFailed r q.cal.count 0 0) false s)

/-- The accumulator with one more raw value (R154). -/
def CalAccumulator.add (c : CalAccumulator) (v : Int) : CalAccumulator :=
  { c with
    count := c.count + 1
    sum := c.sum + v
    least := if c.count = 0 then v else min c.least v
    greatest := if c.count = 0 then v else max c.greatest v }

/-- The mean: the quotient with its fraction discarded toward zero (R155). -/
def CalAccumulator.mean (c : CalAccumulator) : Int := c.sum.tdiv 256

/-- The spread (R155). -/
def CalAccumulator.spread (c : CalAccumulator) : Int := c.greatest - c.least

/-- The success of a calibration: FORCE offset, budget and ceiling, CAL_DONE, and READY or INTERRUPTED (R155). -/
def succeedCalibration (h : Head) (s : State) : State :=
  let c := (s.head h).seq.cal
  let budget := (s.head h).travelSet.calibrationBudget
  let s1 := s.onFront h fun f => { f with force := { f.force with offset := -c.mean } }
  let s2 := s1.onSeq h fun q => { q with budget := budget, ceiling := budget }
  let s3 := createRecord h (.calDone c.mean c.spread (-c.mean) budget) false s2
  endCalibration h (if (s.head h).seq.origin = .interrupted then .interrupted else .ready) s3

/-- The failure of a calibration, with its mean and spread (R155). -/
def failCalibration (h : Head) (r : CalFailure) (s : State) : State :=
  let q := (s.head h).seq
  endCalibration h q.origin (createRecord h (.calFailed r q.cal.count q.cal.mean q.cal.spread) false s)

/-- The 256 readings are judged (R155). -/
def judgeCalibration (h : Head) (s : State) : State :=
  let c := (s.head h).seq.cal
  if 1000 < c.mean.natAbs then failCalibration h .offsetRange s
  else if 40 < c.spread then failCalibration h .spread s
  else succeedCalibration h s

/-- One head sample in CALIBRATING: an invalid FORCE conversion aborts, a valid one is added, the 256th is judged
unless that is left to its own row (R154 to R156, log 4). -/
def calibrationSample (h : Head) (split : Bool) (s : State) : State :=
  let u := s.head h
  if !u.front.force.valid then abortCalibration h .sensor s
  else if u.seq.cal.count < Config.calibrationSamples then
    let s1 := s.onSeq h fun q => { q with cal := q.cal.add u.front.force.raw }
    if (s1.head h).seq.cal.count = Config.calibrationSamples ∧ !split then judgeCalibration h s1 else s1
  else s

/-! ### The halt event (R56) -/

/-- The HALT record of a head whose state the halt changed (R56). -/
def reportHalt (h : Head) (src : HaltSource) (left : HeadState) (s : State) : State :=
  createRecord h (.halt src left (s.headState h)) false s

/-- A halt event at one head (R56). -/
def haltHead (h : Head) (src : HaltSource) (s : State) : State :=
  let left := s.headState h
  match left with
  | .plunge | .dwell | .weld | .pause => reportHalt h src left (interruptHead h .halt s)
  | .approach | .spinup => reportHalt h src left (endStart h s)
  | .calibrating => reportHalt h src left (abortCalibration h .halt s)
  | .exit | .interrupting | .uncommissioned | .commissioning | .calDue | .ready | .interrupted => s

/-- A halt event at each present head, the one given first (R191, R182, log 3). With both heads in WELD the second head
takes the pause-begin of the first head's HOLD before the halt, which then finds it in PAUSE; R102 allows the other
order too (DESIGN CHOICE, log 38). -/
def haltEvent (src : HaltSource) (first : Head) (s : State) : State :=
  (s.presentHeads first).foldl (fun acc h => haltHead h src acc) s

/-! ### Changes of state found at a head sample -/

/-- Arrival at a head in APPROACH: the actual plunge station is recorded and the head goes to SPINUP with the segment's
spindle speed and the spin-up timer running (R37, R38, R29). -/
def enterSpinup (h : Head) (s : State) : State :=
  let s1 := s.onSeq h fun q =>
    { q with plungeStation := s.toolStation h, spinupTimer := (s.head h).travelSet.spinupTimeout * 100 }
  setHeadState h .spinup (followSpindle h s1)

/-- At-speed in SPINUP: the budget of a fresh seam is decremented, the plunge timer and the plunge ramp start, and the
head goes to PLUNGE (R34, R38, R40). -/
def enterPlunge (h : Head) (s : State) : State :=
  let s1 := s.onSeq h fun q =>
    { q with
      budget := if q.kind = .fresh then q.budget - 1 else q.budget
      plungeTimer := (s.head h).tool.plungeTimeout * 100
      rampAcc := 499 }
  setHeadState h .plunge s1

/-- The plunge ramp is complete: PLUNGE_DONE with the time spent, and the head goes to DWELL with its timer running
(R41, R42). -/
def enterDwell (h : Head) (s : State) : State :=
  let u := s.head h
  let time : Int := u.tool.plungeTimeout * 100 - u.seq.plungeTimer
  let s1 := reportInForce h (fun g => .plungeDone g u.seq.kind u.seq.plungeStation u.seq.depth time.toNat) s
  setHeadState h .dwell (s1.onSeq h fun q => { q with dwellTimer := u.tool.dwell })

/-- The dwell has elapsed: the head enters WELD from DWELL. The WELD entry station is recorded, the regulator prepared,
the accumulator and the next pitch mark set; a re-entry makes the plan store's check (R42, R43, R63, R162, R22). The mark
is computed before that check, so that its level does not count the SEGMENT_END and STARVED records which the check
writes at the same entry; R162 and R22 fix no order (DESIGN CHOICE, log 41). -/
def enterWeld (h : Head) (s : State) : State :=
  let s1 := s.onSeq h fun q => { q with weldEntry := s.toolStation h }
  let s2 := restartAccumulator h (s1.onReg h Regulator.prepared)
  let s3 := setHeadState h .weld s2
  if (s.head h).seq.kind = .reentry then reentryCheck h s3 else s3

/-- The EXIT retract is complete: spindle 0, and READY or CAL_DUE (R44). -/
def finishExit (h : Head) (s : State) : State :=
  setHeadState h (readyOrCalDue (s.head h).seq) (s.onSeq h fun q => { q with spindle := 0 })

/-- The INTERRUPTING retract is complete: spindle 0, and INTERRUPTED (R47). -/
def finishInterrupting (h : Head) (s : State) : State :=
  enterInterrupted h (s.onSeq h fun q => { q with spindle := 0 })

/-- The depth command stands at the plunge depth (R41). -/
def HeadUnit.plunged (u : HeadUnit) : Bool := u.seq.depth == (u.tool.plungeDepth : Int)

/-- The depth command stands at the clearance height (R44, R47). -/
def HeadUnit.raised (u : HeadUnit) : Bool := u.seq.depth == u.clearanceHeight

/-- AT_SPEED: a head in SPINUP whose at-speed input was found asserted (R38). -/
def findAtSpeed (h : Head) (s : State) : State :=
  if s.present h && s.headState h == .spinup && (s.head h).drives.atSpeed then enterPlunge h s else s

/-- SPINUP_TIMEOUT: a head in SPINUP not at speed whose timer stands at 0 or below (R38). -/
def findSpinupTimeout (h : Head) (s : State) : State :=
  if s.present h && s.headState h == .spinup && !(s.head h).drives.atSpeed && (s.head h).seq.spinupTimer ≤ 0 then
    failStart h .spinupTimeout s
  else s

/-- PLUNGE_DONE: a head in PLUNGE whose ramp is complete (R41). -/
def findPlungeDone (h : Head) (s : State) : State :=
  if s.present h && s.headState h == .plunge && (s.head h).plunged then enterDwell h s else s

/-- PLUNGE_TIMEOUT: a head in PLUNGE whose ramp is not complete and whose timer stands at 0 or below (R41). -/
def findPlungeTimeout (h : Head) (s : State) : State :=
  if s.present h && s.headState h == .plunge && !(s.head h).plunged && (s.head h).seq.plungeTimer ≤ 0 then
    interruptHead h .plungeTimeout s
  else s

/-- DWELL_ELAPSED: a head in DWELL whose timer stands at 0 or below (R42). -/
def findDwellElapsed (h : Head) (s : State) : State :=
  if s.present h && s.headState h == .dwell && (s.head h).seq.dwellTimer ≤ 0 then enterWeld h s else s

/-- EXIT_RETRACT_COMPLETE: a head in EXIT whose tool is raised (R44). -/
def findExitRetract (h : Head) (s : State) : State :=
  if s.present h && s.headState h == .exit && (s.head h).raised then finishExit h s else s

/-- INTERRUPTING_RETRACT_COMPLETE: a head in INTERRUPTING whose tool is raised (R47). -/
def findInterruptingRetract (h : Head) (s : State) : State :=
  if s.present h && s.headState h == .interrupting && (s.head h).raised then finishInterrupting h s else s

/-- A TORQUE or TEMP grace count stands at 250 (R133). -/
def FrontEnd.graceSpent (f : FrontEnd) : Bool :=
  f.torque.grace == Config.graceLimit || f.temp.grace == Config.graceLimit

/-- GRACE_EXHAUSTED: SENSOR is raised at a head in an in-material state (R133). -/
def findGraceExhausted (h : Head) (s : State) : State :=
  if s.present h && (s.headState h).inMaterial && (s.head h).front.graceSpent then interruptHead h .sensor s else s

/-- CALIBRATION_JUDGED: a head in CALIBRATING with its 256 readings taken (R155). -/
def findCalibrationJudged (h : Head) (s : State) : State :=
  if s.present h && s.headState h == .calibrating && (s.head h).seq.cal.count == Config.calibrationSamples then
    judgeCalibration h s
  else s

/-! ### Meanings -/

/-- READ_STATUS (R59). -/
def execReadStatus (head : Nat) (s : State) : Host.Outcome State Fault Refusal := running (requestReadStatus head) s

/-- START_SEAM (R35). -/
def execStartSeam (head : Nat) (s : State) : Host.Outcome State Fault Refusal := running (requestStartSeam head) s

/-- STOP_SEAM (R49, R50). -/
def execStopSeam (target : StopTarget) (s : State) : Host.Outcome State Fault Refusal :=
  running (requestStopSeam target) s

/-- RESTART_SEAM (R51). -/
def execRestartSeam (head overlap : Nat) (s : State) : Host.Outcome State Fault Refusal :=
  running (requestRestartSeam head overlap) s

/-- ABANDON_SEAM (R55). -/
def execAbandonSeam (head : Nat) (s : State) : Host.Outcome State Fault Refusal := running (requestAbandonSeam head) s

/-- RESET_HEAD (R58). -/
def execResetHead (head : Nat) (s : State) : Host.Outcome State Fault Refusal := running (requestResetHead head) s

/-- CALIBRATE (R153). -/
def execCalibrate (head : Nat) (s : State) : Host.Outcome State Fault Refusal := running (requestCalibrate head) s

/-- AT_SPEED (R38). -/
def execAtSpeed (h : Head) (s : State) : Host.Outcome State Fault Refusal := running (findAtSpeed h) s

/-- SPINUP_TIMEOUT (R38). -/
def execSpinupTimeout (h : Head) (s : State) : Host.Outcome State Fault Refusal := running (findSpinupTimeout h) s

/-- PLUNGE_DONE (R41). -/
def execPlungeDone (h : Head) (s : State) : Host.Outcome State Fault Refusal := running (findPlungeDone h) s

/-- PLUNGE_TIMEOUT (R41). -/
def execPlungeTimeout (h : Head) (s : State) : Host.Outcome State Fault Refusal := running (findPlungeTimeout h) s

/-- DWELL_ELAPSED (R42). -/
def execDwellElapsed (h : Head) (s : State) : Host.Outcome State Fault Refusal := running (findDwellElapsed h) s

/-- EXIT_RETRACT_COMPLETE (R44). -/
def execExitRetractComplete (h : Head) (s : State) : Host.Outcome State Fault Refusal := running (findExitRetract h) s

/-- INTERRUPTING_RETRACT_COMPLETE (R47). -/
def execInterruptingRetractComplete (h : Head) (s : State) : Host.Outcome State Fault Refusal :=
  running (findInterruptingRetract h) s

/-- GRACE_EXHAUSTED (R133). -/
def execGraceExhausted (h : Head) (s : State) : Host.Outcome State Fault Refusal := running (findGraceExhausted h) s

/-- CALIBRATION_JUDGED (R155). -/
def execCalibrationJudged (h : Head) (s : State) : Host.Outcome State Fault Refusal :=
  running (findCalibrationJudged h) s

end Sys2Proof.Machine
end

