-- ==== Sys2Proof/Machine/Device.lean ====
section
/-! DEFINITION. The part as a whole: IDENTIFY (R188), RESET DEVICE and the reset it brings (R189), the RESET and HALT
inputs (R190, R191). -/

namespace Sys2Proof.Machine

/-- The data of IDENTIFY: family code, revision, strap address, baud strap, heads present (R188, R195). -/
def State.identity (s : State) : List Byte :=
  leBytes 2 0x2240 ++ leBytes 1 0x02 ++ leBytes 1 s.straps.address.toNat ++ leBytes 1 (bit s.straps.fast) ++
  leBytes 1 (1 + bit s.straps.headB)

/-- IDENTIFY: it changes nothing but the pending reply. -/
def requestIdentify (s : State) : State := answer 0x01 .ok s.identity s

/-- A reset of the device: every block takes its power-on state; the straps, the pins, the commands that wait and the
model's counter stay (R189). -/
def deviceReset (s : State) : State := State.powerOn s.pins s.straps s.free s.pending

/-- RESET DEVICE: refused while a head is engaged. Sent to this device it composes its reply and defers the reset to
the reply's end or discard; broadcast it acts at once, without a reply (R189). -/
def requestResetDevice (broadcast : Bool) (s : State) : State :=
  if broadcast then
    if s.anyEngaged then s else deviceReset s
  else if s.anyEngaged then answer 0x13 .wrongState [] s
  else (answer 0x13 .ok [] s).onPort fun p => { p with resetDeferred := true }

/-- A reply waits for its start or is being sent (R177). -/
def Port.replyUnderway (p : Port) : Bool := p.pendingReply.isSome || p.rx == .replying

/-- A deferred reset takes place once no reply waits or is being sent; before that nothing happens (R187, R189). -/
def resetTakesPlace (s : State) : State :=
  if s.port.resetDeferred && !s.port.replyUnderway then deviceReset s else s

/-- The RESET input is asserted: the receivers are inactive, the driver is disabled, the head commands are presented as
0 and the travel output is released (R190, log 12). -/
def assertReset (s : State) : State :=
  let quiet (u : HeadUnit) : HeadUnit := { u with applied := ⟨0, 0, 0⟩ }
  { s with
    pins := { s.pins with reset := true }
    unitA := quiet s.unitA
    unitB := quiet s.unitB
    gov := { s.gov with owned := false, speed := 0 }
    port := { s.port with rx := .waitAddress, transmit := none } }

/-- The RESET input is negated, or power is applied: the straps are sampled and every block takes its power-on state
(R190). -/
def negateReset (straps : Straps) (s : State) : State :=
  State.powerOn { s.pins with reset := false } straps s.free s.pending

/-- The HALT input is asserted: from negated, a halt event at each present head, unless RESET is asserted (R191, R57). -/
def assertHalt (first : Head) (s : State) : State :=
  let s1 := { s with pins := { s.pins with halt := true } }
  if s.pins.halt || s.pins.reset then s1 else haltEvent .haltInput first s1

/-- The HALT input is negated: no event (R191). -/
def negateHalt (s : State) : State := { s with pins := { s.pins with halt := false } }

/-! ### Meanings -/

/-- IDENTIFY (R188). -/
def execIdentify (s : State) : Host.Outcome State Fault Refusal := running requestIdentify s

/-- RESET_DEVICE (R189). -/
def execResetDevice (broadcast : Bool) (s : State) : Host.Outcome State Fault Refusal :=
  running (requestResetDevice broadcast) s

/-- RESET_TAKES_PLACE (R189). -/
def execResetTakesPlace (s : State) : Host.Outcome State Fault Refusal := running resetTakesPlace s

/-- RESET_INPUT_ASSERTED (R190). -/
def execResetInputAsserted (s : State) : Host.Outcome State Fault Refusal := .next (assertReset s)

/-- RESET_INPUT_NEGATED (R190). -/
def execResetInputNegated (straps : Straps) (s : State) : Host.Outcome State Fault Refusal :=
  .next (negateReset straps s)

/-- HALT_INPUT_ASSERTED (R191). -/
def execHaltInputAsserted (first : Head) (s : State) : Host.Outcome State Fault Refusal := .next (assertHalt first s)

/-- HALT_INPUT_NEGATED (R191). -/
def execHaltInputNegated (s : State) : Host.Outcome State Fault Refusal := .next (negateHalt s)

end Sys2Proof.Machine
end

