-- ==== Sys2Proof/Machine/Profile.lean ====
section
/-! DEFINITION. The profile store: the ranges and the dependencies of the four sets (R143 to R146, R150), LOAD PROFILE
(R147 to R149, R151) and READ PROFILE (R152). -/

namespace Sys2Proof.Machine

/-! ### Encoding ranges -/

/-- Every LIMITS field lies within its encoding range (R143). -/
def limitsInRange (p : LimitsSet) : Bool :=
  500 ≤ p.forceMax && p.forceMax ≤ 6000 && 100 ≤ p.torqueMax && p.torqueMax ≤ 6000 && p.torqueSoft ≤ 5999 &&
  300 ≤ p.tempMax && p.tempMax ≤ 650 && 500 ≤ p.spindleMax && p.spindleMax ≤ 4000 && 10 ≤ p.gapLimit &&
  p.gapLimit ≤ 200 && 10 ≤ p.mismatchLimit && p.mismatchLimit ≤ 150

/-- Every TOOL field lies within its encoding range (R144). -/
def toolInRange (p : ToolSet) : Bool :=
  p.seamOrigin ≤ 400000 && 1000 ≤ p.pinLength && p.pinLength ≤ 15000 && 1 ≤ p.depthHardMax &&
  p.depthHardMax ≤ 20000 && 2000 ≤ p.clearance && p.clearance ≤ 50000 && p.plungeDepth ≤ 20000 &&
  50 ≤ p.plungeRate && p.plungeRate ≤ 2000 && 200 ≤ p.plungeForceLimit && p.plungeForceLimit ≤ 6000 &&
  10 ≤ p.plungeTimeout && p.plungeTimeout ≤ 600 && p.dwell ≤ 5000 && 100 ≤ p.retractRate &&
  p.retractRate ≤ 5000 && 10 ≤ p.trackPitch && p.trackPitch ≤ 100

/-- Every REGULATOR field lies within its encoding range (R145). -/
def regulatorInRange (p : RegulatorSet) : Bool :=
  p.kp ≤ 1023 && p.ki ≤ 1023 && 1 ≤ p.slew && p.slew ≤ 50 && 300 ≤ p.softTemp && p.softTemp ≤ 600 &&
  p.thermalSlope ≤ 20 && 500 ≤ p.pauseFactor && p.pauseFactor ≤ 1000 && 10 ≤ p.excursionBand &&
  p.excursionBand ≤ 1000 && 10 ≤ p.excursionLength && p.excursionLength ≤ 1000 && 1 ≤ p.lateralSlew &&
  p.lateralSlew ≤ 100

/-- Every TRAVEL field lies within its encoding range (R146). -/
def travelInRange (p : TravelSet) : Bool :=
  5 ≤ p.acceleration && p.acceleration ≤ 200 && 100 ≤ p.approachSpeed && p.approachSpeed ≤ 6000 &&
  50 ≤ p.minWeldSpeed && p.minWeldSpeed ≤ 1000 && p.pauseAllowance ≤ 200 && p.starvationAllowance ≤ 5000 &&
  10 ≤ p.trackHold && p.trackHold ≤ 1000 && 10 ≤ p.spinupTimeout && p.spinupTimeout ≤ 300 && p.bedEnd ≤ 400000 &&
  1 ≤ p.calibrationBudget && p.calibrationBudget ≤ 255

/-! ### Dependencies -/

/-- LIMITS with its own dependency applied: torque soft below torque max (R143). -/
def settleLimits (p : LimitsSet) : LimitsSet := { p with torqueSoft := min p.torqueSoft (p.torqueMax - 1) }

/-- TOOL with its dependencies applied in the order of the table (R144). LIMITS is loaded whenever TOOL is accepted. -/
def settleTool (limits : Option LimitsSet) (p : ToolSet) : ToolSet :=
  let hard := min p.depthHardMax (p.pinLength + 500)
  { p with
    depthHardMax := hard
    plungeDepth := min p.plungeDepth hard
    plungeForceLimit := lowerTo LimitsSet.forceMax limits p.plungeForceLimit }

/-- REGULATOR with its dependencies applied (R145). -/
def settleRegulator (limits : Option LimitsSet) (p : RegulatorSet) : RegulatorSet :=
  { p with
    softTemp := lowerTo (fun l => l.tempMax - 1) limits p.softTemp
    excursionBand := lowerTo (fun l => l.forceMax - 1) limits p.excursionBand }

/-- A loaded TOOL set after a LIMITS set is accepted: its plunge force limit is lowered to the new force max (R150). -/
def dependentTool (l : LimitsSet) (p : ToolSet) : ToolSet :=
  { p with plungeForceLimit := min p.plungeForceLimit l.forceMax }

/-- The place of a set in the commissioning order (R142, R148). -/
def profileRank : ProfileLoad → Nat
  | .limits _ => 0
  | .tool _ => 1
  | .regulator _ => 2
  | .travel _ => 3
  | .unknown _ => 4

/-- The fields lie within their encoding ranges (R147 check 4). -/
def loadInRange : ProfileLoad → Bool
  | .limits p => limitsInRange p
  | .tool p => toolInRange p
  | .regulator p => regulatorInRange p
  | .travel p => travelInRange p
  | .unknown _ => false

/-- Whether a head state admits a load of a set (R149): LIMITS and TOOL are refused in INTERRUPTED. -/
def admitsLoad (st : HeadState) (load : ProfileLoad) : Bool :=
  match st with
  | .uncommissioned | .commissioning | .calDue | .ready => true
  | .interrupted => 2 ≤ profileRank load
  | .calibrating | .approach | .spinup | .plunge | .dwell | .weld | .pause | .exit | .interrupting => false

/-- The store with a set loaded, its own dependencies and, for LIMITS, those of the later sets applied; the next set in
order raises the progress by one (R143 to R145, R148, R150). -/
def storeProfile (p : ProfileStore) (load : ProfileLoad) : ProfileStore :=
  let progress := if profileRank load = p.progress then p.progress + 1 else p.progress
  match load with
  | .limits l =>
    let n := settleLimits l
    { limits := some n, tool := p.tool.map (dependentTool n), regulator := p.regulator.map (settleRegulator (some n)),
      travel := p.travel, progress := progress }
  | .tool t => { p with tool := some (settleTool p.limits t), progress := progress }
  | .regulator r => { p with regulator := some (settleRegulator p.limits r), progress := progress }
  | .travel t => { p with travel := some t, progress := progress }
  | .unknown _ => p

/-- The clamp mask: bit n for the n-th field of the loaded set that a dependency lowered (R147, R195). -/
def loadMask (p : ProfileStore) : ProfileLoad → Nat
  | .limits l => 4 * bit ((settleLimits l).torqueSoft ≠ l.torqueSoft)
  | .tool t =>
    let n := settleTool p.limits t
    4 * bit (n.depthHardMax ≠ t.depthHardMax) + 16 * bit (n.plungeDepth ≠ t.plungeDepth) +
    64 * bit (n.plungeForceLimit ≠ t.plungeForceLimit)
  | .regulator r =>
    let n := settleRegulator p.limits r
    8 * bit (n.softTemp ≠ r.softTemp) + 64 * bit (n.excursionBand ≠ r.excursionBand)
  | .travel _ => 0
  | .unknown _ => 0

/-- The dependent-sets-clamped indication: bit 0 TOOL, bit 1 REGULATOR (R147, R150, R195). -/
def dependentMask (p : ProfileStore) (load : ProfileLoad) : Nat :=
  match load with
  | .limits _ =>
    bit ((storeProfile p load).tool ≠ p.tool) + 2 * bit ((storeProfile p load).regulator ≠ p.regulator)
  | .tool _ | .regulator _ | .travel _ | .unknown _ => 0

/-! ### LOAD PROFILE -/

/-- The head state after an accepted set (R33, R148, R149). -/
def stateAfterLoad (st : HeadState) (progress : Nat) : ProfileLoad → HeadState
  | .limits _ => if st = .uncommissioned then .commissioning else if st = .ready then .calDue else st
  | .tool _ => if st = .ready then .calDue else st
  | .travel _ => if progress = 3 then .calDue else st
  | .regulator _ | .unknown _ => st

/-- Whether an accepted set invalidates the calibration: LIMITS or TOOL in READY or CAL_DUE (R149). -/
def invalidates (st : HeadState) (load : ProfileLoad) : Bool :=
  profileRank load ≤ 1 && (st == .ready || st == .calDue)

/-- An accepted set is stored; the head's state and budget follow (R148, R149), and the plan is clamped again for
LIMITS, TOOL and TRAVEL (R5, R151). -/
def acceptProfile (h : Head) (load : ProfileLoad) (s : State) : State :=
  let st := s.headState h
  let old := (s.head h).profiles
  let new := storeProfile old load
  let s1 := s.onProfiles h fun _ => new
  let s2 := if profileRank load = 2 then s1 else s1.onPlan h (reclampPlan new)
  let s3 := if invalidates st load then s2.onSeq h fun q => { q with budget := 0 } else s2
  setHeadState h (stateAfterLoad st old.progress load) s3

/-- LOAD PROFILE for a head: the checks of R147 in their order. A set code that names no set is answered BAD_FIELD in
CALIBRATING too, by check 1, where R154 speaks of WRONG_STATE for every other request (DESIGN CHOICE, log 40). -/
def takeLoadProfile (load : ProfileLoad) (h : Head) (s : State) : State :=
  let p := (s.head h).profiles
  if 4 ≤ profileRank load then answer 0x0B .badField [] s
  else if !admitsLoad (s.headState h) load then answer 0x0B .wrongState [] s
  else if p.progress < profileRank load then answer 0x0B .sequence [] s
  else if !loadInRange load then answer 0x0B .badField [] s
  else
    let s1 := acceptProfile h load s
    let mask := loadMask p load
    let dependent := dependentMask p load
    answer 0x0B (okOr (mask ≠ 0 || dependent ≠ 0))
      (leBytes 2 mask ++ leBytes 1 dependent ++ leBytes 1 (s1.headState h).code) s1

/-- LOAD PROFILE as received. -/
def requestLoadProfile (head : Nat) (load : ProfileLoad) (s : State) : State :=
  forHead 0x0B head (takeLoadProfile load) s

/-! ### READ PROFILE -/

/-- The bytes of the set a code names, as it stands: none for a code that names no set, none inside for a set not
loaded (R152). -/
def ProfileStore.setBytes (p : ProfileStore) : Nat → Option (Option (List Byte))
  | 0 => some (p.limits.map LimitsSet.bytes)
  | 1 => some (p.tool.map ToolSet.bytes)
  | 2 => some (p.regulator.map RegulatorSet.bytes)
  | 3 => some (p.travel.map TravelSet.bytes)
  | _ => none

/-- READ PROFILE for a head: it changes nothing but the pending reply (R152). -/
def takeReadProfile (code : Nat) (h : Head) (s : State) : State :=
  let p := (s.head h).profiles
  match p.setBytes code with
  | none => answer 0x0C .badField [] s
  | some none => answer 0x0C .wrongState [] s
  | some (some b) => answer 0x0C .ok (leBytes 1 p.progress ++ b) s

/-- READ PROFILE as received. -/
def requestReadProfile (head code : Nat) (s : State) : State := forHead 0x0C head (takeReadProfile code) s

/-! ### Meanings -/

/-- LOAD_PROFILE (R147). -/
def execLoadProfile (head : Nat) (load : ProfileLoad) (s : State) : Host.Outcome State Fault Refusal :=
  running (requestLoadProfile head load) s

/-- READ_PROFILE (R152). -/
def execReadProfile (head profile : Nat) (s : State) : Host.Outcome State Fault Refusal :=
  running (requestReadProfile head profile) s

end Sys2Proof.Machine
end

