-- ==== Sys2Proof/Machine/Line.lean ====
section
/-! DEFINITION. The control line port: characters and frames (R178 to R181), dispatch (R183, R184), breaks (R182), the
sending of replies (R186, R187). -/

namespace Sys2Proof.Machine

/-! ### The port's own steps -/

/-- A pending reply is discarded, and with it a device reset that waited for it takes place (R178, R189, log 22). The
answer says whether it did. -/
def discardReply (s : State) : Bool × State :=
  if s.port.resetDeferred then (true, deviceReset s) else (false, s.onPort fun p => { p with pendingReply := none })

/-- The receiver goes back to WAIT_ADDRESS with no frame. -/
def Port.toWait (p : Port) : Port := { p with rx := .waitAddress, frame := FrameBuffer.empty }

/-- The silence time restarts. -/
def Port.heard (p : Port) : Port := { p with silence := 0 }

/-- The frame that an address character begins: count 1, running check the character's data (R178). -/
def FrameBuffer.start (d : Byte) : FrameBuffer := ⟨d, 0, 0, [], d, 1⟩

/-- The character is for this device: its strap address or the broadcast address (R176). -/
def State.addressed (s : State) (d : Byte) : Bool :=
  d == BitVec.ofNat 8 s.straps.address.toNat || d == Config.broadcastAddress

/-- The frame has all but its check character (R179). -/
def FrameBuffer.checkDue (f : FrameBuffer) : Bool := 3 ≤ f.count && f.count == 3 + f.length.toNat

/-- A character is collected: kind, length, then payload, of which at most 240 bytes are stored, then the check; each
enters the running check and the count (R179). -/
def FrameBuffer.collect (f : FrameBuffer) (d : Byte) : FrameBuffer :=
  { f with
    kind := if f.count = 1 then d else f.kind
    length := if f.count = 2 then d else f.length
    payload :=
      if 3 ≤ f.count ∧ f.count < 3 + f.length.toNat ∧ f.payload.length < Config.payloadCapacity then f.payload ++ [d]
      else f.payload
    check := f.check ^^^ d
    count := f.count + 1 }

/-! ### Dispatch (R183, R184) -/

/-- A request is handed to its owning block. What is no request of the control line is not handed to anyone. -/
def takeRequest (i : Instr) (s : State) : State :=
  match i with
  | .identify => requestIdentify s
  | .readStatus h => requestReadStatus h s
  | .startSeam h => requestStartSeam h s
  | .stopSeam t => requestStopSeam t s
  | .restartSeam h overlap => requestRestartSeam h overlap s
  | .abandonSeam h => requestAbandonSeam h s
  | .resetHead h => requestResetHead h s
  | .appendSegment h g => requestAppendSegment h g s
  | .clearPlan h => requestClearPlan h s
  | .readPlan h => requestReadPlan h s
  | .loadProfile h load => requestLoadProfile h load s
  | .readProfile h code => requestReadProfile h code s
  | .calibrate h => requestCalibrate h s
  | .setChannel h c t e v => requestSetChannel h c t e v s
  | .readChannels h => requestReadChannels h s
  | .setLog pitch ta tb => requestSetLog pitch ta tb s
  | .readRecords h n => requestReadRecords h n s
  | .readCounters scope clear => requestReadCounters scope clear s
  | .resetDevice broadcast => requestResetDevice broadcast s
  | .resetTakesPlace | .resetInputAsserted | .resetInputNegated _ | .haltInputAsserted _ | .haltInputNegated
  | .lineBreak _ | .breakDetectorRearm | .addressCharacter _ | .controlFramingError | .frameSilenceTimeout
  | .frameComplete _ _ | .replyStart | .replyEnd | .trackReportArrival _ | .trackFramingError | .trackSilenceTimeout
  | .headSample _ _ _ | .atSpeed _ | .spinupTimeout _ | .plungeDone _ | .plungeTimeout _ | .dwellElapsed _
  | .exitRetractComplete _ | .interruptingRetractComplete _ | .forceLimit _ | .excursion _ | .graceExhausted _
  | .calibrationJudged _ | .governorUpdate _ _ | .arrival _ | .pauseLimit _ | .dataCharacter _ _
  | .trackerCharacter _ => s

/-- A dispatched frame for this device: the kind, then its length, then the request with its head field (R183). -/
def takeAddressed (f : FrameBuffer) (s : State) : State :=
  if !knownKind f.kind then answer f.kind .unknownKind [] s
  else if !lengthGood f.kind f.length.toNat f.payload then answer f.kind .badLength [] s
  else match decodeRequest f.kind f.payload with
    | some i => takeRequest i s
    | none => answer f.kind .unknownKind [] s

/-- A dispatched broadcast frame: STOP SEAM and RESET DEVICE of the right length are taken, without a reply; any other is
discarded (R184). -/
def takeBroadcast (f : FrameBuffer) (first : Head) (s : State) : State :=
  if f.kind = 0x04 ∧ f.length = 1 then broadcastStop first s
  else if f.kind = 0x13 ∧ f.length = 0 then requestResetDevice true s
  else s

/-- One more frame taken (R183). -/
def countFrame (s : State) : State := s.onLines fun l => { l with framesTaken := bump l.framesTaken }

/-- A frame is complete with its running check: a bad check is counted, and answered when the frame is for this device;
a good frame is counted and dispatched (R181, R183). -/
def judgeFrame (f : FrameBuffer) (first : Head) (s : State) : State :=
  if f.check ≠ 0 then
    let s1 := s.onLines fun l => { l with badCheck := bump l.badCheck }
    if f.address = Config.broadcastAddress then s1 else answer f.kind .badCheck [] s1
  else if f.address = Config.broadcastAddress then takeBroadcast f first (countFrame s)
  else takeAddressed f (countFrame s)

/-- The check character of the frame in the buffer arrives (R181). -/
def completeFrame (d : Byte) (first : Head) (s : State) : State :=
  judgeFrame (s.port.frame.collect d) first (s.onPort fun p => p.toWait.heard)

/-! ### Events of the line -/

/-- One more truncated frame (R180). -/
def countTruncated (s : State) : State := s.onLines fun l => { l with truncatedFrames := bump l.truncatedFrames }

/-- The receiver takes characters: the port is not sending, and the line is not held at 0, where no character comes
before it has returned to 1 (R175, R187). -/
def State.hears (s : State) : Bool := s.port.rx != .replying && !s.pins.lineLow

/-- An address character: a pending reply is discarded and a frame in RECEIVING abandoned as truncated; for this device
or broadcast it begins a new frame (R178, R180). A character whose discard brings a device reset is lost (R189). -/
def takeAddressCharacter (d : Byte) (s : State) : State :=
  if !s.hears then s
  else
    let r := discardReply s
    if r.1 then r.2
    else
      let s1 := if s.port.rx = .receiving then countTruncated r.2 else r.2
      if s.addressed d then
        s1.onPort fun p => { p.heard with rx := .receiving, frame := FrameBuffer.start d }
      else s1.onPort fun p => p.toWait.heard

/-- A data character: ignored in WAIT_ADDRESS but for the silence time, collected in RECEIVING, and taken as the check
where the check is due (R178, R179, R181, log 27). -/
def takeDataCharacter (d : Byte) (first : Head) (s : State) : State :=
  if !s.hears then s
  else if s.port.rx = .receiving then
    if s.port.frame.checkDue then completeFrame d first s
    else s.onPort fun p => { p.heard with frame := p.frame.collect d }
  else s.onPort Port.heard

/-- The check character of a frame whose other characters have been collected; no frame is complete before (R181). -/
def takeFrameComplete (d : Byte) (first : Head) (s : State) : State :=
  if s.hears && s.port.rx == .receiving && s.port.frame.checkDue then completeFrame d first s else s

/-- A character with a framing error (R178, R180). -/
def takeFramingError (s : State) : State :=
  if !s.hears then s
  else if s.port.rx = .receiving then
    (s.onLines fun l => { l with framingErrors := bump l.framingErrors }).onPort fun p => p.toWait.heard
  else s.onPort Port.heard

/-- The silence time exceeds 4 character times, 44 bit times, with a frame incomplete (R180, log 14). -/
def takeFrameSilence (s : State) : State :=
  if s.port.rx = .receiving then
    (countTruncated s).onPort fun p => { p.toWait with silence := max p.silence 45 }
  else s

/-- The line has been idle for 2 character times, 22 bit times: a pending reply starts (R186, log 14). -/
def startReply (s : State) : State :=
  if s.port.rx = .waitAddress ∧ s.port.pendingReply.isSome ∧ s.pins.lineLow = false then
    s.onPort fun p =>
      { p with rx := .replying, transmit := p.pendingReply, pendingReply := none, silence := max p.silence 22 }
  else s

/-- The end of the reply's check character; a device reset that waited for it takes place (R187, R189, log 22). -/
def endReply (s : State) : State :=
  if s.port.rx = .replying then
    resetTakesPlace (s.onPort fun p => { p with rx := .waitAddress, transmit := none, silence := 0 })
  else s

/-- A line break: counted, the pending reply discarded, the receiver to WAIT_ADDRESS, and a halt event at each present
head. A break whose discard brings a device reset is not kept (R182, R189, R192). -/
def takeBreak (first : Head) (s : State) : State :=
  let r := discardReply s
  if r.1 then r.2
  else
    let s1 := r.2.onPort fun p => { p.toWait with armed := false }
    haltEvent .lineBreak first (s1.onLines fun l => { l with breaks := bump l.breaks })

/-- The line has been held at 0 for 22 bit times: a break while the detector is ARMED and the port is not sending. Under
RESET only the line's level is seen (R182, R190, log 13). -/
def lineHeldLow (first : Head) (s : State) : State :=
  let s1 := { s with pins := { s.pins with lineLow := true } }
  if s.pins.reset then s1
  else if s.port.rx = .replying then s
  else if s.port.armed then takeBreak first s1
  else s1

/-- The line returns to 1: the break detector is ARMED and the silence time restarts; under RESET only the level is seen
(R182, R192, log 13). -/
def lineReturns (s : State) : State :=
  let s1 := { s with pins := { s.pins with lineLow := false } }
  if s.pins.reset then s1 else s1.onPort fun p => { p.heard with armed := true }

/-! ### Meanings -/

/-- LINE_BREAK (R182). -/
def execLineBreak (first : Head) (s : State) : Host.Outcome State Fault Refusal := .next (lineHeldLow first s)

/-- BREAK_DETECTOR_REARM (R182). -/
def execBreakDetectorRearm (s : State) : Host.Outcome State Fault Refusal := .next (lineReturns s)

/-- ADDRESS_CHARACTER (R178). -/
def execAddressCharacter (data : Byte) (s : State) : Host.Outcome State Fault Refusal :=
  running (takeAddressCharacter data) s

/-- DATA_CHARACTER (R178, R179). -/
def execDataCharacter (data : Byte) (first : Head) (s : State) : Host.Outcome State Fault Refusal :=
  running (takeDataCharacter data first) s

/-- CONTROL_FRAMING_ERROR (R180). -/
def execControlFramingError (s : State) : Host.Outcome State Fault Refusal := running takeFramingError s

/-- FRAME_SILENCE_TIMEOUT (R180). -/
def execFrameSilenceTimeout (s : State) : Host.Outcome State Fault Refusal := running takeFrameSilence s

/-- FRAME_COMPLETE (R181). -/
def execFrameComplete (check : Byte) (first : Head) (s : State) : Host.Outcome State Fault Refusal :=
  running (takeFrameComplete check first) s

/-- REPLY_START (R186). -/
def execReplyStart (s : State) : Host.Outcome State Fault Refusal := running startReply s

/-- REPLY_END (R187). -/
def execReplyEnd (s : State) : Host.Outcome State Fault Refusal := running endReply s

end Sys2Proof.Machine
end

