-- ==== Sys2Proof/Machine/Tracking.lean ====
section
/-! DEFINITION. The seam tracking unit: trimming (R115), activation with the gap and mismatch checks (R117, R120 to
R122), lateral correction (R118, R119), track loss (R123), and the tracker line with the acceptance tests (R109 to
R111). -/

namespace Sys2Proof.Machine

/-! ### Work at a head sample -/

/-- Trimming: from the front goes every entry that has a later entry at or behind the tool station (R115). -/
def trimQueue (t : Int) : List TrackEntry → List TrackEntry
  | [] => []
  | e :: rest => if rest.any (fun l => l.station ≤ t) then trimQueue t rest else e :: rest

/-- Trimming against the tool station the unit has taken; an active entry that is removed is active no more (R115). -/
def Tracking.trim (x : Tracking) : Tracking :=
  let q := trimQueue x.toolStation x.queue
  { x with queue := q, activeFirst := x.activeFirst && q.length == x.queue.length }

/-- The GAP record (R120, R121). -/
def reportGap (h : Head) (g : Segment) (e : TrackEntry) (s : State) : State :=
  createRecord h (.gap g.ref (s.toolStation h) e.station e.gap g.gapAction) false s

/-- The gap check of an entry that becomes active: over the limit it sets the gap-slow flag under SLOW, with a record
at the onset, or writes the record of a gap stop under STOP; within the limit it clears the flag (R120, R121). -/
def checkGap (h : Head) (g : Segment) (e : TrackEntry) (s : State) : State :=
  if (s.head h).limits.gapLimit < e.gap then
    match g.gapAction with
    | .slow =>
      if (s.head h).track.gapSlow then s
      else reportGap h g e (s.onTrack h fun t => { t with gapSlow := true })
    | .stop => reportGap h g e s
  else s.onTrack h fun t => { t with gapSlow := false }

/-- Whether the activation of an entry raises the GAP condition (R121). -/
def stopsAtGap (u : HeadUnit) (g : Segment) (e : TrackEntry) : Bool :=
  g.gapAction == .stop && u.limits.gapLimit < e.gap

/-- The mismatch check of an entry that becomes active (R122). -/
def checkMismatch (h : Head) (g : Segment) (e : TrackEntry) (s : State) : State :=
  let t := (s.head h).track
  if (s.head h).limits.mismatchLimit < e.mismatch.natAbs then
    if t.mismatchLatch then s
    else createRecord h (.mismatch g.ref (s.toolStation h) e.station e.mismatch) false
      (s.onTrack h fun t => { t with mismatchLatch := true })
  else s.onTrack h fun t => { t with mismatchLatch := false }

/-- An entry becomes active: gap check, mismatch check. The head sequencer takes a gap stop before the mismatch check
when `gapFirst` says so, and otherwise after the tracking unit's work (R117, R193, log 1). -/
def activate (h : Head) (g : Segment) (e : TrackEntry) (gapFirst : Bool) (s : State) : State :=
  let s1 := checkGap h g e (s.onTrack h fun t => { t with activeFirst := true })
  let s2 := if gapFirst && stopsAtGap (s.head h) g e then interruptHead h .gap s1 else s1
  checkMismatch h g e s2

/-- The entry that becomes active at this sample: the first one, at or behind the tool station and not active yet
(R117). -/
def Tracking.nextActive (x : Tracking) : Option TrackEntry :=
  if x.activeFirst then none else x.queue.head?.filter fun e => e.station ≤ x.toolStation

/-- The entry that steers in SPINUP, PLUNGE and DWELL: the first one when at or behind the tool station (R119). -/
def Tracking.settlingEntry (x : Tracking) : Option TrackEntry := x.queue.head?.filter fun e => e.station ≤ x.toolStation

/-- One sample of the lateral command toward its target (R119). -/
def slewToward (slew : Nat) (target command : Int) : Int := clampInt (command - slew) (command + slew) target

/-- The lateral target follows the given entry while the segment in force has tracking ON (R118, R119), and the lateral
command moves toward it. -/
def steer (h : Head) (tracking : Bool) (entry : Option TrackEntry) (s : State) : State :=
  let slew := (s.head h).regulator.lateralSlew
  s.onTrack h fun t =>
    let target := match entry with
      | some e => if tracking then e.offset else t.lateralTarget
      | none => t.lateralTarget
    { t with lateralTarget := target, lateralCommand := slewToward slew target t.lateralCommand }

/-- The loss reference: the later of the active entry's station and the WELD entry station (R123). -/
def HeadUnit.lossReference (u : HeadUnit) : Int :=
  match u.track.active with
  | some e => max e.station u.seq.weldEntry
  | none => u.seq.weldEntry

/-- The track-loss test with tracking ON: the distance is computed, and beyond the hold distance the loss is recorded
and counted and TRACK_LOSS is raised (R123). -/
def checkLoss (h : Head) (g : Segment) (reference : Int) (s : State) : State :=
  let d := s.toolStation h - reference
  let s1 := s.onTrack h fun t => { t with lossDistance := d }
  if ((s.head h).travelSet.trackHold : Int) < d then
    interruptHead h .trackLoss
      (countHead h (fun c => { c with trackLosses := bump c.trackLosses })
        (createRecord h (.trackLoss g.ref (s.toolStation h) reference d) false s1))
  else s1

/-- The tracking unit's work in WELD and PAUSE on one segment in force: activation, steering, the loss test in WELD,
and a gap stop not yet taken (R117 to R123). -/
def trackWelding (h : Head) (weld gapFirst : Bool) (g : Segment) (s : State) : State :=
  let due := (s.head h).track.nextActive
  let s1 := match due with
    | some e => activate h g e gapFirst s
    | none => s
  let s2 := steer h g.tracking (s1.head h).track.active s1
  let s3 := if weld && g.tracking then checkLoss h g (s2.head h).lossReference s2 else s2
  if due.any (stopsAtGap (s.head h) g) && !gapFirst then interruptHead h .gap s3 else s3

/-- SPINUP, PLUNGE and DWELL, in which the lateral axis settles (R119). -/
def HeadState.settling : HeadState → Bool
  | .spinup | .plunge | .dwell => true
  | .uncommissioned | .commissioning | .calDue | .calibrating | .ready | .approach | .weld | .pause | .exit
  | .interrupting | .interrupted => false

/-- The tracking unit's work at a sample that found the head in WELD or PAUSE and at which the sequencer has taken it
elsewhere first. The checks are made all the same, on the queue and the segment in force that the sample found (`read`),
so that what is found is recorded and counted, while the conditions then raised are ignored (R32, R121, R124). The
emptying that an entry to EXIT brought stands (R116). -/
def trackAfterLeaving (h : Head) (read : HeadUnit) (gapFirst : Bool) (s : State) : State :=
  let s1 := s.onTrack h fun _ => read.track.trim
  let s2 := match read.plan.inForce with
    | some g => trackWelding h (read.seq.state == .weld) gapFirst g s1
    | none => s1
  if s.headState h = .interrupting then s2 else emptyTrack h s2

/-- The tracking unit's work at a head sample, for the states of R115, R117 and R119. `read` is the head as the sample
found it, its conversions taken (log 1). Where the sample found SPINUP, PLUNGE or DWELL and another condition has moved
the head out before this work, lateral target and command are held, as in the state the head has entered (R119; DESIGN
CHOICE, log 42). -/
def trackWork (h : Head) (read : HeadUnit) (gapFirst : Bool) (s : State) : State :=
  let found := read.seq.state
  let st := s.headState h
  let s1 := s.onTrack h Tracking.trim
  let u := s1.head h
  if found.welding then
    if st.welding then
      match u.plan.inForce with
      | some g => trackWelding h (found == .weld) gapFirst g s1
      | none => s1
    else trackAfterLeaving h read gapFirst s
  else if found.settling && (st.settling || st.welding) then
    steer h (u.plan.inForce.any Segment.tracking) u.track.settlingEntry s1
  else s1

/-! ### The tracker line -/

/-- A report whose check is good and whose fields lie within their encoding ranges (R110, R197). -/
def parseReport (l : List Byte) : Option (Head × TrackEntry) :=
  match headOf (byteAt l 1) with
  | none => none
  | some h =>
    let e : TrackEntry := { station := s24At l 2, offset := s16At l 5, gap := byteAt l 7, mismatch := s16At l 8,
                            quality := byteAt l 10 }
    if xorAll l = 0 ∧ -400000 ≤ e.station ∧ e.station ≤ 400000 ∧ -3000 ≤ e.offset ∧ e.offset ≤ 3000 ∧ e.gap ≤ 200 ∧
        -150 ≤ e.mismatch ∧ e.mismatch ≤ 150 ∧ e.quality ≤ 15 then some (h, e)
    else none

/-- The states of test 2 of R111. -/
def takesReports (q : Sequencer) : Bool :=
  match q.state with
  | .approach => q.direction == .forward
  | .spinup | .plunge | .dwell | .weld | .pause => true
  | .uncommissioned | .commissioning | .calDue | .calibrating | .ready | .exit | .interrupting | .interrupted => false

/-- One more bad track report (R109, R111). -/
def countBadReport (s : State) : State := s.onLines fun l => { l with badTrackReports := bump l.badTrackReports }

/-- Tests 2 to 8 of R111 on a report of a present head. -/
def acceptEntry (h : Head) (e : TrackEntry) (s : State) : State :=
  let u := s.head h
  let last := u.track.queue.getLast?
  if !takesReports u.seq then s
  else if e.quality < 4 then countHead h (fun c => { c with trackLowQuality := bump c.trackLowQuality }) s
  else if e.station ≤ u.track.toolStation then countHead h (fun c => { c with trackStale := bump c.trackStale }) s
  else if last.any (fun l => e.station < l.station) then
    countHead h (fun c => { c with trackOutOfOrder := bump c.trackOutOfOrder }) s
  else if last.any (fun l => e.station < l.station + (u.tool.trackPitch : Int)) then s
  else if Config.lookaheadCapacity ≤ u.track.queue.length then
    countHead h (fun c => { c with trackFull := bump c.trackFull }) s
  else
    countHead h (fun c => { c with trackAccepted := bump c.trackAccepted })
      (s.onTrack h fun t => { t with queue := t.queue ++ [e] })

/-- A complete report is put through the acceptance tests (R111). -/
def acceptReport (l : List Byte) (s : State) : State :=
  match parseReport l with
  | some (h, e) => if s.present h then acceptEntry h e s else countBadReport s
  | none => countBadReport s

/-- The characters kept so far (R109). -/
def TrackReceiver.kept : TrackReceiver → List Byte
  | .hunt => []
  | .collecting k => k

/-- A character with a good stop bit on the tracker line (R109); the twelfth completes the report (log 28). -/
def takeTrackerCharacter (d : Byte) (s : State) : State :=
  match s.tracker with
  | .hunt => if d = Config.reportSync then { s with tracker := .collecting [d] } else s
  | .collecting k =>
    if k.length + 1 < Config.reportLength then { s with tracker := .collecting (k ++ [d]) }
    else acceptReport (k ++ [d]) { s with tracker := .hunt }

/-- The arrival of a report: the characters that complete it are taken with it. What does not make up twelve characters
with the sync first is no arrival (R109, log 28). -/
def takeReportArrival (rest : List Byte) (s : State) : State :=
  let l := s.tracker.kept ++ rest
  if l.length = Config.reportLength ∧ l.head? = some Config.reportSync then acceptReport l { s with tracker := .hunt }
  else s

/-- A report in COLLECTING is abandoned and counted (R109). -/
def abandonReport (s : State) : State :=
  match s.tracker with
  | .hunt => s
  | .collecting _ => countBadReport { s with tracker := .hunt }

/-! ### Meanings -/

/-- TRACK_REPORT_ARRIVAL (R111). -/
def execTrackReportArrival (rest : List Byte) (s : State) : Host.Outcome State Fault Refusal :=
  running (takeReportArrival rest) s

/-- TRACKER_CHARACTER (R109). -/
def execTrackerCharacter (data : Byte) (s : State) : Host.Outcome State Fault Refusal :=
  running (takeTrackerCharacter data) s

/-- TRACK_FRAMING_ERROR: in COLLECTING the report is abandoned; in HUNT the character is discarded (R109). -/
def execTrackFramingError (s : State) : Host.Outcome State Fault Refusal := running abandonReport s

/-- TRACK_SILENCE_TIMEOUT (R109). -/
def execTrackSilenceTimeout (s : State) : Host.Outcome State Fault Refusal := running abandonReport s

end Sys2Proof.Machine
end

