-- ==== Sys2Proof/Machine/Sample.lean ====
section
/-! DEFINITION. The head sample (R1): the conversions, then the work of each block of the head in the order the command
gives (log 1), then the outputs (R137). -/

namespace Sys2Proof.Machine

/-! ### The order of the work -/

/-- The order of the conversions: those the command lists first, then the rest (log 1). -/
def conversionOrder (o : SampleOrder) : List HeadChannel :=
  firstOccurrences [] (o.conversions ++ [.force, .torque, .temp, .depth])

/-- The default order of the pieces of work. -/
def defaultActs : List SampleAct :=
  [.regulator, .forceRun, .station, .track, .log, .grace, .check .torque, .check .temp, .check .drive,
    .check .travelDrive, .check .sensor, .sequence]

/-- The log takes what the regulator hands over at its own work of the same sample (R71, R162): a `log` that stands before
the regulator is passed over, and the default order brings it in after. -/
def logAfterRegulator : List SampleAct → List SampleAct
  | [] => []
  | a :: rest =>
    if a = .regulator then a :: rest
    else if a = .log then logAfterRegulator rest
    else a :: logAfterRegulator rest

/-- The order of the pieces of work: those the command lists first, then the rest, each once (log 1). -/
def actOrder (o : SampleOrder) : List SampleAct := firstOccurrences [] (logAfterRegulator (o.acts ++ defaultActs))

/-! ### The continuous checks -/

/-- The condition of a check of R46 on a head. -/
def checkFails (h : Head) (s : State) : FaultCheck → Bool
  | .torque => ((s.head h).limits.torqueMax : Int) ≤ (s.head h).front.torque.effective
  | .temp => ((s.head h).limits.tempMax : Int) < (s.head h).front.temp.effective
  | .drive => !(s.head h).drives.headReady
  | .travelDrive => !(s.head h).drives.travelReady
  | .sensor => s.sensorFaulted h

/-- The interrupt cause of a check (R46). -/
def checkCause : FaultCheck → Cause
  | .torque => .torqueLimit
  | .temp => .tempLimit
  | .drive => .drive
  | .travelDrive => .travelDrive
  | .sensor => .sensor

/-- The START_FAILED reason of a check; the torque and temperature limits are not applied before the material (R39). -/
def checkFailure : FaultCheck → Option StartFailure
  | .torque | .temp => none
  | .drive => some .drive
  | .travelDrive => some .travelDrive
  | .sensor => some .sensor

/-- One check at a head sample: in the in-material states it interrupts (R46), in APPROACH and SPINUP it fails the start
(R39). `found` is the state in which the sample found the head. -/
def checkWork (h : Head) (found : HeadState) (c : FaultCheck) (s : State) : State :=
  if !checkFails h s c then s
  else if found.inMaterial then interruptHead h (checkCause c) s
  else match checkFailure c with
    | some r => if found.starting then startFault h r s else s
    | none => s

/-- The SENSOR condition of a grace count that stands at 250 (R133). -/
def graceWork (h : Head) (found : HeadState) (split : Bool) (s : State) : State :=
  if found.inMaterial && !split && (s.head h).front.graceSpent then interruptHead h .sensor s else s

/-! ### The sequencer's own work -/

/-- The raise of R31: once TOOL is loaded, a command deeper than the clearance height is raised by a ramp at the retract
rate; the ramp starts at the first such sample. -/
def raiseTool (h : Head) (s : State) : State :=
  match (s.head h).profiles.tool with
  | none => s
  | some t =>
    let goal : Int := -(t.clearance : Int)
    s.onSeq h fun q =>
      if goal < q.depth then
        let q1 := if q.raising then q else { q with rampAcc := 499 }
        let q2 := q1.rampStep goal t.retractRate
        { q2 with raising := goal < q2.depth }
      else { q with raising := false }

/-- One head sample of a retract: the spindle drive not ready brings the spindle command to 0 at once, and the ramp runs
toward the clearance height (R44, R47). -/
def retractStep (h : Head) (s : State) : State :=
  let u := s.head h
  s.onSeq h fun q =>
    { q.rampStep u.clearanceHeight u.tool.retractRate with
      spindle := if u.drives.spindleReady then q.spindle else 0 }

/-- One head sample in PLUNGE: the timer runs, and the ramp moves unless the effective force exceeds the plunge force
limit (R40, R41). -/
def plungeStep (h : Head) (s : State) : State :=
  let u := s.head h
  s.onSeq h fun q =>
    let q1 := { q with plungeTimer := q.plungeTimer - 2 }
    if (u.tool.plungeForceLimit : Int) < u.front.force.effective then q1
    else q1.rampStep u.tool.plungeDepth u.tool.plungeRate

/-- The sequencer's work at a head sample, by the state that found the head (R29 to R31, R38, R40 to R44, R47, R154).
`split` leaves what it finds to the rows of their own (log 4). -/
def sequenceWork (h : Head) (split : Bool) (s : State) : State :=
  let take (find : Head → State → State) (x : State) : State := if split then x else find h x
  match s.headState h with
  | .uncommissioned | .commissioning | .calDue | .ready | .interrupted => raiseTool h s
  | .calibrating => calibrationSample h split s
  | .approach => s
  | .spinup =>
    let s1 := s.onSeq h fun q => { q with spinupTimer := q.spinupTimer - 2 }
    if (s.head h).drives.atSpeed then take findAtSpeed s1 else take findSpinupTimeout s1
  | .plunge =>
    let s1 := plungeStep h (followSpindle h s)
    if (s1.head h).plunged then take findPlungeDone s1 else take findPlungeTimeout s1
  | .dwell =>
    take findDwellElapsed ((followSpindle h s).onSeq h fun q => { q with dwellTimer := q.dwellTimer - 2 })
  | .weld | .pause => followSpindle h s
  | .exit => take findExitRetract (retractStep h s)
  | .interrupting => take findInterruptingRetract (retractStep h s)

/-- The sequencer works in the state in which the sample found the head; a state it has entered since begins at the next
sample (R43, R44, R45). -/
def sequencerWork (h : Head) (found : HeadState) (split : Bool) (s : State) : State :=
  if s.headState h = found then sequenceWork h split s else s

/-! ### The sample -/

/-- The drive status inputs as the head sequencer reads them; at-speed is read in SPINUP (R136, log 32). -/
def readDrives (st : HeadState) (i : SampleInput) (d : DriveInputs) : DriveInputs :=
  { spindleReady := i.spindleReady
    atSpeed := if st = .spinup then i.atSpeed else d.atSpeed
    plungeReady := i.plungeReady
    lateralReady := i.lateralReady
    travelReady := i.travelReady }

/-- What the sample reads before any work: the conversions, the drive inputs, the seam origin and the tool station
(R112, R127, R136, log 10). -/
def readSample (h : Head) (i : SampleInput) (o : SampleOrder) (s : State) : State :=
  let s1 := (conversionOrder o).foldl (fun acc c => convertHead h i c acc) s
  let s2 := s1.onHead h fun u => { u with drives := readDrives u.seq.state i u.drives }
  let s3 := match (s2.head h).profiles.tool with
    | some t => s2.onSeq h fun q => { q with originTaken := (t.seamOrigin : Nat) }
    | none => s2
  s3.onTrack h fun t => { t with toolStation := s3.toolStation h }

/-- One piece of work of a head sample but the log's. `read` is the head as the sample found it, its conversions taken. -/
def blockAct (h : Head) (read : HeadUnit) (o : SampleOrder) (s : State) : SampleAct → State
  | .regulator => regulatorWork h read.seq.state o.split s
  | .forceRun => forceRunWork h read.seq.state o.split s
  | .station => planWork h read.seq.state s
  | .track => trackWork h read o.gapFirst s
  | .log => s
  | .grace => graceWork h read.seq.state o.split s
  | .check c => checkWork h read.seq.state c s
  | .sequence => sequencerWork h read.seq.state o.split s

/-- The gap-slow flag and the starved flag of this sample, as tracking unit and plan store hand them over at their own work
of it (R162). Where that work is still to come (`rest`), it is looked ahead to: the sample has one set of values,
wherever the log stands among the blocks. A flag that the head's leaving WELD and PAUSE would clear is that of the work
before it is cleared (log 42). -/
def handedFlags (h : Head) (read : HeadUnit) (o : SampleOrder) : List SampleAct → State → Bool × Bool
  | [], s => ((s.head h).track.gapSlow, (s.head h).plan.starved.isSome)
  | a :: rest, s =>
    let p := blockAct h read o s a
    if (p.headState h).welding then handedFlags h read o rest p
    else
      let last := if p.headState h = .interrupting then p else s
      let tracked := if .track ∈ rest then trackWork h read o.gapFirst last else last
      ((tracked.head h).track.gapSlow,
        (s.head h).plan.starved.isSome || (a = .station && p.headState h = .interrupting))

/-- The pieces of work of a head sample, one after the other. The log's place decides whether it still finds the head in
WELD or PAUSE (R163, R164). -/
def sampleActs (h : Head) (read : HeadUnit) (o : SampleOrder) : List SampleAct → State → State
  | [], s => s
  | a :: rest, s =>
    sampleActs h read o rest
      (if a = .log then
        let flags := handedFlags h read o rest s
        logWork h read.seq.state flags.1 flags.2 s
      else blockAct h read o s a)

/-- The head's three outputs are presented with the values the owning blocks hold (R137). What a finding that `split`
leaves to its own row changes after the sample (a spindle command set to 0 by EXIT_RETRACT_COMPLETE,
INTERRUPTING_RETRACT_COMPLETE or SPINUP_TIMEOUT) is presented at the next sample (DESIGN CHOICE, log 4). -/
def presentOutputs (h : Head) (s : State) : State :=
  s.onHead h fun u => { u with applied := ⟨u.seq.spindle, u.seq.depth, u.track.lateralCommand⟩ }

/-- The head sample of a present head; an absent head B has none (R1, R127). -/
def sampleHead (h : Head) (i : SampleInput) (o : SampleOrder) (s : State) : State :=
  if s.present h then
    let s1 := readSample h i o s
    presentOutputs h (sampleActs h (s1.head h) o (actOrder o) s1)
  else s

/-- HEAD_SAMPLE (R1). -/
def execHeadSample (h : Head) (inp : SampleInput) (order : SampleOrder) (s : State) :
    Host.Outcome State Fault Refusal :=
  running (sampleHead h inp order) s

end Sys2Proof.Machine
end

