-- ==== Sys2Proof/Machine/Travel.lean ====
section
/-! DEFINITION. The travel governor: permitted speeds (R91), target speed and direction (R87 to R90, R93 to R101),
pauses (R102 to R105), arrivals (R94) and the bed end (R98, R99). -/

namespace Sys2Proof.Machine

/-! ### Speeds -/

/-- The permitted speed v_h of an advancing head: the travel cap of the segment in force, halved under the gap-slow
flag, derated by torque, and not below the min weld speed (R91). -/
def permittedSpeed (u : HeadUnit) : Nat :=
  let cap := (u.plan.inForce.map Segment.cap).getD 0
  let base := if u.track.gapSlow then cap / 2 else cap
  let soft : Int := u.limits.torqueSoft
  let hard : Int := u.limits.torqueMax
  let torque := u.front.torque.effective
  let derated : Int := if soft < torque then base * (hard - torque) / (hard - soft) else base
  max u.travelSet.minWeldSpeed (min (base : Int) derated).toNat

/-- The braking speed toward a position at a remaining distance (R93). -/
def brakingSpeed (a : Nat) (d : Int) : Nat := if d ≤ 0 then 0 else 60 * isqrt (2 * a * d.toNat / 10)

/-- The remaining distance of a head's approach (R93). -/
def State.remaining (s : State) (h : Head) : Int :=
  let u := s.head h
  let target : Int := u.tool.seamOrigin + u.seq.target
  match u.seq.direction with
  | .forward => target - s.gantry.effective
  | .reverse => s.gantry.effective - target

/-- A head's approach target is reached (R94). A FORWARD target at the effective bed end or up to 1.0 mm beyond it counts
as reached once the remaining distance is 10 or less, as R94 says; R100 says of a target beyond the bed end that it is
not reached. Where the two meet the model follows R94 (DESIGN CHOICE, log 39). So it does for a REVERSE approach that
R97 holds in APPROACH beside another demand, where it stands within 1.0 mm of its target (DESIGN CHOICE, log 44). -/
def State.reached (s : State) (h : Head) : Bool := s.demand h == .approach && s.remaining h ≤ 10

/-- The smaller of two values where both stand. -/
def least (a b : Option Nat) : Option Nat :=
  match a, b with
  | some x, some y => some (min x y)
  | some x, none => some x
  | none, b => b

/-- A head's value where its demand is a given one. -/
def State.where (s : State) (h : Head) (d : Demand) (f : HeadUnit → Nat) : Option Nat :=
  if s.demand h = d then some (f (s.head h)) else none

/-- The least of the heads' values over the heads with a given demand. -/
def State.leastOf (s : State) (d : Demand) (f : HeadUnit → Nat) : Option Nat := least (s.where .a d f) (s.where .b d f)

/-- The effective bed end: the smaller of the bed ends of the loaded TRAVEL sets (R98). -/
def State.effectiveBedEnd (s : State) : Option Nat :=
  least (s.unitA.profiles.travel.map TravelSet.bedEnd) (s.unitB.profiles.travel.map TravelSet.bedEnd)

/-- The governor acceleration: the smallest among the heads with a demand (R88). -/
def State.acceleration (s : State) : Nat :=
  let f (h : Head) : Option Nat := if s.demand h = .idle then none else some (s.head h).travelSet.acceleration
  (least (f .a) (f .b)).getD 0

/-- A head whose demand is APPROACH with a given direction. -/
def State.approaches (s : State) (h : Head) (d : Direction) : Bool :=
  s.demand h == .approach && (s.head h).seq.direction == d

/-- A REVERSE approach stands beside another demand (R97). -/
def State.reverseBlocked (s : State) : Bool :=
  (s.approaches .a .reverse && s.demand .b != .idle) || (s.approaches .b .reverse && s.demand .a != .idle)

/-- The braking limit toward the nearest target of the approaching heads; none when no head approaches (R95, R96). -/
def State.approachLimit (s : State) (a : Nat) : Option Nat :=
  let f (h : Head) : Option Nat := if s.demand h = .approach then some (brakingSpeed a (s.remaining h)) else none
  least (f .a) (f .b)

/-- Target speed and wanted direction by the cases of R87, before arrivals, the bed end, R97 and R101. The permitted
speeds are those of this update. -/
def State.wantedTravel (s : State) (a : Nat) : Nat × Direction :=
  if s.anyHold then (0, s.gov.direction)
  else match s.leastOf .advance (fun u => u.travel.permitted) with
    | some v => ((least (some v) (s.approachLimit a)).getD 0, .forward)
    | none =>
      match s.leastOf .approach (fun u => u.travelSet.approachSpeed) with
      | some v => ((least (some v) (s.approachLimit a)).getD 0,
          if s.approaches .a .reverse || s.approaches .b .reverse then .reverse else .forward)
      | none => (0, s.gov.direction)

/-- The gantry stands at or beyond the effective bed end (R99). -/
def State.atBedEnd (s : State) : Bool := s.gov.bedEnd.any fun e => (e : Int) ≤ s.gantry.effective

/-- The bed end's limit on forward travel: the braking speed toward it, and 0 at it (R99). -/
def State.bedLimit (s : State) (a : Nat) (v : Nat) : Nat :=
  match s.gov.bedEnd with
  | some e => min v (brakingSpeed a (e - s.gantry.effective))
  | none => v

/-- The target speed of the update with every limit applied (R94, R97, R99, R101). -/
def State.targetSpeed (s : State) (a : Nat) : Nat :=
  let w := s.wantedTravel a
  if !s.gov.travelReady || s.gantry.fault || s.reverseBlocked || s.reached .a || s.reached .b then 0
  else if w.2 = .forward then s.bedLimit a w.1
  else w.1

/-- The commanded direction is kept, whatever the wanted one: R97, R101. -/
def State.keepsDirection (s : State) : Bool := !s.gov.travelReady || s.gantry.fault || s.reverseBlocked

/-- The commanded speed after one update of the ramp (R89). -/
def rampSpeed (a target speed : Nat) : Nat :=
  if speed < target then min target (speed + max 1 (a * 6 / 10)) else target

/-- Commanded speed and direction after the update: a change of direction passes through 0 (R89, R90). -/
def State.moveGovernor (s : State) : Governor :=
  let a := s.acceleration
  let wanted := (s.wantedTravel a).2
  if s.keepsDirection || wanted = s.gov.direction then
    { s.gov with speed := rampSpeed a (s.targetSpeed a) s.gov.speed }
  else { s.gov with speed := 0, direction := wanted }

/-! ### The conditions of an update -/

/-- Arrival: a head in APPROACH whose target is reached records its plunge station and goes to SPINUP (R94, R37). -/
def findArrival (h : Head) (s : State) : State := if s.present h && s.reached h then enterSpinup h s else s

/-- PAUSE_LIMIT at a head in PAUSE whose timer stands at 0 under a HOLD (R103). -/
def findPauseLimit (h : Head) (s : State) : State :=
  if s.present h && s.headState h == .pause && s.anyHold && (s.head h).travel.pauseTimer == 0 then
    interruptHead h .pauseLimit s
  else s

/-- Pause-end: the head returns to WELD, PAUSE_END is written with the pause elapsed, and the pause items are set to 0
(R104). -/
def endPause (h : Head) (s : State) : State :=
  let elapsed := (s.head h).travel.pauseElapsed
  setHeadState h .weld (reportInForce h (fun g => .pauseEnd g (s.toolStation h) elapsed) s)

/-- One update of a pause under a HOLD: the timer runs down by 10 ms, not below 0, and the elapsed time grows (R103). -/
def runPause (h : Head) (s : State) : State :=
  s.onTravel h fun t => { t with pauseTimer := t.pauseTimer - 10, pauseElapsed := t.pauseElapsed + 10 }

/-- The pause coordination of a head at an update that found it in a state, with or without a HOLD standing
(R102 to R104). `split` leaves the pause limit to its own row (log 4). -/
def pauseWork (h : Head) (found : HeadState) (hold split : Bool) (s : State) : State :=
  if found = .pause ∧ s.headState h = .pause then
    if hold then
      let s1 := runPause h s
      if split ∨ (s1.head h).travel.pauseTimer ≠ 0 then s1 else interruptHead h .pauseLimit s1
    else endPause h s
  else if found = .weld ∧ hold then pauseBegin h s
  else s

/-- BED_END at a head whose demand the update found to be ADVANCE (R99). -/
def bedEndWork (h : Head) (found : HeadState) (stops : Bool) (s : State) : State :=
  if found.welding && stops then interruptHead h .bedEnd s else s

/-- The order of the conditions: those the command lists first, then the rest (log 2). -/
def updateActs (o : UpdateOrder) : List UpdateAct :=
  firstOccurrences [] (o.acts ++ [.arrival .a, .arrival .b, .bedEnd .a, .bedEnd .b, .pause .a, .pause .b])

/-- One condition of an update. `u` is the state that the update read (log 2). With both heads in WELD at the bed end
the second head takes the pause-begin of the first head's HOLD before its own BED_END, which then finds it in PAUSE; R102
allows the other order too (DESIGN CHOICE, log 38). -/
def updateAct (u : State) (stops : Bool) (o : UpdateOrder) (s : State) : UpdateAct → State
  | .pause h => pauseWork h (u.headState h) u.anyHold o.split s
  | .bedEnd h => bedEndWork h (u.headState h) stops s
  | .arrival h => if u.reached h && !o.split && s.headState h == .approach then enterSpinup h s else s

/-- What the update reads: the gantry conversion, the drive's ready input, the effective bed end and each head's
permitted speed (R87, R91, R98). -/
def readUpdate (i : UpdateInput) (o : UpdateOrder) (s : State) : State :=
  let s1 := convertGantry o.first i.gantry s
  let s2 := s1.onGov fun g => { g with travelReady := i.travelReady, bedEnd := s1.effectiveBedEnd }
  let permit (h : Head) (x : State) : State :=
    x.onTravel h fun t => { t with permitted := if x.demand h = .advance then permittedSpeed (x.head h) else 0 }
  permit .b (permit .a s2)

/-- The governor update (R87). While the output is owned the command moves and the conditions are raised. -/
def updateGovernor (i : UpdateInput) (o : UpdateOrder) (s : State) : State :=
  let s1 := readUpdate i o s
  if s1.gov.owned then
    let stops := (s1.wantedTravel s1.acceleration).2 == .forward && s1.atBedEnd
    (updateActs o).foldl (updateAct s1 stops o) { s1 with gov := s1.moveGovernor }
  else s1

/-! ### Meanings -/

/-- GOVERNOR_UPDATE (R87). -/
def execGovernorUpdate (inp : UpdateInput) (order : UpdateOrder) (s : State) : Host.Outcome State Fault Refusal :=
  running (updateGovernor inp order) s

/-- ARRIVAL (R94). -/
def execArrival (h : Head) (s : State) : Host.Outcome State Fault Refusal := running (findArrival h) s

/-- PAUSE_LIMIT (R103). -/
def execPauseLimit (h : Head) (s : State) : Host.Outcome State Fault Refusal := running (findPauseLimit h) s

end Sys2Proof.Machine
end

