-- ==== Sys2Proof/Machine/Dispatch.lean ====
section
/-! DEFINITION. One arm for each command: its meaning. -/

namespace Sys2Proof.Machine

/-- What a command does to everything but the queue of waiting commands. -/
def exec (i : Instr) (s : State) : Host.Outcome State Fault Refusal :=
  match i with
  | .identify => Sys2Proof.Machine.execIdentify s
  | .readStatus head => Sys2Proof.Machine.execReadStatus head s
  | .startSeam head => Sys2Proof.Machine.execStartSeam head s
  | .stopSeam target => Sys2Proof.Machine.execStopSeam target s
  | .restartSeam head overlap => Sys2Proof.Machine.execRestartSeam head overlap s
  | .abandonSeam head => Sys2Proof.Machine.execAbandonSeam head s
  | .resetHead head => Sys2Proof.Machine.execResetHead head s
  | .appendSegment head seg => Sys2Proof.Machine.execAppendSegment head seg s
  | .clearPlan head => Sys2Proof.Machine.execClearPlan head s
  | .readPlan head => Sys2Proof.Machine.execReadPlan head s
  | .loadProfile head load => Sys2Proof.Machine.execLoadProfile head load s
  | .readProfile head profile => Sys2Proof.Machine.execReadProfile head profile s
  | .calibrate head => Sys2Proof.Machine.execCalibrate head s
  | .setChannel head channel setting enable value => Sys2Proof.Machine.execSetChannel head channel setting enable value s
  | .readChannels head => Sys2Proof.Machine.execReadChannels head s
  | .setLog pitch thresholdA thresholdB => Sys2Proof.Machine.execSetLog pitch thresholdA thresholdB s
  | .readRecords head count => Sys2Proof.Machine.execReadRecords head count s
  | .readCounters scope clear => Sys2Proof.Machine.execReadCounters scope clear s
  | .resetDevice broadcast => Sys2Proof.Machine.execResetDevice broadcast s
  | .resetTakesPlace => Sys2Proof.Machine.execResetTakesPlace s
  | .resetInputAsserted => Sys2Proof.Machine.execResetInputAsserted s
  | .resetInputNegated straps => Sys2Proof.Machine.execResetInputNegated straps s
  | .haltInputAsserted first => Sys2Proof.Machine.execHaltInputAsserted first s
  | .haltInputNegated => Sys2Proof.Machine.execHaltInputNegated s
  | .lineBreak first => Sys2Proof.Machine.execLineBreak first s
  | .breakDetectorRearm => Sys2Proof.Machine.execBreakDetectorRearm s
  | .addressCharacter data => Sys2Proof.Machine.execAddressCharacter data s
  | .controlFramingError => Sys2Proof.Machine.execControlFramingError s
  | .frameSilenceTimeout => Sys2Proof.Machine.execFrameSilenceTimeout s
  | .frameComplete check first => Sys2Proof.Machine.execFrameComplete check first s
  | .replyStart => Sys2Proof.Machine.execReplyStart s
  | .replyEnd => Sys2Proof.Machine.execReplyEnd s
  | .trackReportArrival rest => Sys2Proof.Machine.execTrackReportArrival rest s
  | .trackFramingError => Sys2Proof.Machine.execTrackFramingError s
  | .trackSilenceTimeout => Sys2Proof.Machine.execTrackSilenceTimeout s
  | .headSample h inp order => Sys2Proof.Machine.execHeadSample h inp order s
  | .atSpeed h => Sys2Proof.Machine.execAtSpeed h s
  | .spinupTimeout h => Sys2Proof.Machine.execSpinupTimeout h s
  | .plungeDone h => Sys2Proof.Machine.execPlungeDone h s
  | .plungeTimeout h => Sys2Proof.Machine.execPlungeTimeout h s
  | .dwellElapsed h => Sys2Proof.Machine.execDwellElapsed h s
  | .exitRetractComplete h => Sys2Proof.Machine.execExitRetractComplete h s
  | .interruptingRetractComplete h => Sys2Proof.Machine.execInterruptingRetractComplete h s
  | .forceLimit h => Sys2Proof.Machine.execForceLimit h s
  | .excursion h => Sys2Proof.Machine.execExcursion h s
  | .graceExhausted h => Sys2Proof.Machine.execGraceExhausted h s
  | .calibrationJudged h => Sys2Proof.Machine.execCalibrationJudged h s
  | .governorUpdate inp order => Sys2Proof.Machine.execGovernorUpdate inp order s
  | .arrival h => Sys2Proof.Machine.execArrival h s
  | .pauseLimit h => Sys2Proof.Machine.execPauseLimit h s
  | .dataCharacter data first => Sys2Proof.Machine.execDataCharacter data first s
  | .trackerCharacter data => Sys2Proof.Machine.execTrackerCharacter data s

end Sys2Proof.Machine
end

