-- ==== Sys2Proof/Safety.lean ====
section
/-! DEFINITION. The laws the manual says the blocks maintain, as predicates of a state, and the words in which the
statements about single commands say what stays unchanged. -/

namespace Sys2Proof.Machine

/-! ### The laws -/

/-- The record pool (R165): a head's queue is its common and its reserved slots used, at most 32 reserved per head, at
most 960 common and 1024 in all, and no SAMPLE record in a reserved slot. -/
def RecordPoolLaw (s : State) : Prop :=
  (∀ h, s.level h = (s.head h).log.commonUsed + (s.head h).log.reservedUsed) ∧
  (∀ h, (s.head h).log.reservedUsed ≤ Config.reservedSlots) ∧
  s.commonUsed ≤ Config.commonSlots ∧
  s.level .a + s.level .b ≤ 1024 ∧
  ∀ h, ∀ r ∈ (s.head h).log.queue, r.reserved = true → r.body.isSample = false

/-- One record follows another in a queue: its number is the next one, or it carries LOSS_BEFORE (R167). -/
def Follows (r n : LogRecord) : Prop := n.lossBefore = false → n.seq = r.seq + 1

/-- The numbering of a head's records (R167): consecutive records follow one another, and the counter stands one past
the last record unless loss-pending is set. -/
def HeadLog.Numbered (l : HeadLog) : Prop :=
  l.queue.IsChain Follows ∧ ∀ r, l.queue.getLast? = some r → l.lossPending = false → l.seq = r.seq + 1

/-- The numbering law of both heads (R167). -/
def NumberingLaw (s : State) : Prop := ∀ h, (s.head h).log.Numbered

/-- The states in which a spindle command may be other than 0 (R29). -/
def HeadState.mayTurn : HeadState → Bool
  | .spinup | .plunge | .dwell | .weld | .pause | .exit | .interrupting => true
  | .uncommissioned | .commissioning | .calDue | .calibrating | .ready | .approach | .interrupted => false

/-- The spindle command is non-zero only in the states of R29. -/
def SpindleLaw (s : State) : Prop := ∀ h, (s.head h).seq.spindle ≠ 0 → (s.headState h).mayTurn = true

/-- The travel output (R85, R86): while RESET is negated it is owned exactly while a head is engaged; the speed is 0 while
it is released and while any head's demand is HOLD. -/
def TravelLaw (s : State) : Prop :=
  (s.pins.reset = false → s.gov.owned = s.anyEngaged) ∧ (s.gov.owned = false → s.gov.speed = 0) ∧
  (s.anyHold = true → s.gov.speed = 0)

/-- What the commissioning progress says of the sets (R142). -/
def ProfileStore.Commissioned (p : ProfileStore) : Prop :=
  p.progress ≤ 4 ∧ (p.limits.isSome = true ↔ 1 ≤ p.progress) ∧ (p.tool.isSome = true ↔ 2 ≤ p.progress) ∧
  (p.regulator.isSome = true ↔ 3 ≤ p.progress) ∧ (p.travel.isSome = true ↔ 4 ≤ p.progress)

/-- The head state that goes with a commissioning progress (R142). -/
def StateFits (st : HeadState) (progress : Nat) : Prop :=
  (st = .uncommissioned ↔ progress = 0) ∧ (st = .commissioning ↔ 1 ≤ progress ∧ progress ≤ 3)

/-- A calibration came from one of the three states that CALIBRATE is taken in (R153). -/
def Sequencer.OriginKept (q : Sequencer) : Prop :=
  q.state = .calibrating → q.origin = .calDue ∨ q.origin = .ready ∨ q.origin = .interrupted

/-- Commissioning (R142, R148): the sets loaded, the progress and the head state go together. -/
def CommissioningLaw (s : State) : Prop :=
  ∀ h, (s.head h).profiles.Commissioned ∧ StateFits (s.headState h) (s.head h).profiles.progress ∧
    (s.head h).seq.OriginKept

/-- The TRAVEL set grants at least one seam (R146). -/
def GrantsBudget (p : ProfileStore) : Prop := ∀ t, p.travel = some t → 1 ≤ t.calibrationBudget

/-- The states in which a fresh seam, or READY itself, rests on a budget of at least 1 (R34). -/
def Sequencer.needsBudget (q : Sequencer) : Bool :=
  q.state == .ready || (q.state == .calibrating && q.origin == .ready) || (q.state.starting && q.kind == .fresh)

/-- The calibration budget (R34): at least 1 in READY, and in what leads back to READY without calibrating; never above
its ceiling. -/
def BudgetLaw (s : State) : Prop :=
  ∀ h, GrantsBudget (s.head h).profiles ∧ (s.head h).seq.budget ≤ (s.head h).seq.ceiling ∧
    ((s.head h).seq.needsBudget = true → 1 ≤ (s.head h).seq.budget)

/-- One segment begins where the one before it ends (R6). -/
def Abuts (a b : Segment) : Prop := b.start = a.endStation

/-- A head's plan (R6): at most 49 segments, 48 while a CONTINUE segment is retained, each beginning where the one before
it ends, the first of them where the retained segment ends. -/
def PlanStore.Lawful (p : PlanStore) : Prop :=
  p.queue.length ≤ 49 ∧ p.queue.IsChain Abuts ∧
  ∀ g, p.openRetained = some g → p.queue.length ≤ 48 ∧ ∀ n, p.queue.head? = some n → Abuts g n

/-- The plan law of both heads (R6). -/
def PlanLaw (s : State) : Prop := ∀ h, (s.head h).plan.Lawful

/-- The lookahead queue (R114): at most 128 entries in strictly ascending station order, of which at most the first lies
at or behind the tool station the unit last took. -/
def Tracking.Lawful (t : Tracking) : Prop :=
  t.queue.length ≤ Config.lookaheadCapacity ∧ t.queue.Pairwise (fun a b => a.station < b.station) ∧
  ∀ e ∈ t.queue.tail, t.toolStation < e.station

/-- The TOOL track pitch is positive (R144). -/
def PitchPositive (p : ProfileStore) : Prop := ∀ t, p.tool = some t → 1 ≤ t.trackPitch

/-- The lookahead law of both heads (R114). -/
def LookaheadLaw (s : State) : Prop := ∀ h, (s.head h).track.Lawful ∧ PitchPositive (s.head h).profiles

/-- An absent head B stands at its power-on state (R127, R172, R190). -/
def AbsentHeadLaw (s : State) : Prop := s.straps.headB = false → s.unitB = HeadUnit.powerOn

/-- A reverse travel (R97): while the gantry is commanded in reverse, exactly one head is engaged, in a re-entry
APPROACH; and only a re-entry approaches in reverse (R53). -/
def ReverseLaw (s : State) : Prop :=
  (∀ h, s.headState h = .approach → (s.head h).seq.direction = .reverse → (s.head h).seq.kind = .reentry) ∧
  (s.gov.speed ≠ 0 → s.gov.direction = .reverse →
    ∃ h, s.headState h = .approach ∧ (s.head h).seq.direction = .reverse ∧ (s.headState h.other).engaged = false)

/-- The commanded speed under the permitted speeds (R92): no greater than that of any head in WELD or PAUSE. The other
half of the law, for approaches alone, is kept by every update (statement AdvanceSpeedKept). -/
def AdvanceSpeedLaw (s : State) : Prop :=
  ∀ h, (s.headState h).welding = true → s.gov.speed ≤ (s.head h).travel.permitted

/-- The log settings lie within the ranges of SET LOG (R171). -/
def SettingsLaw (s : State) : Prop :=
  20 ≤ s.settings.pitch ∧ s.settings.pitch ≤ 500 ∧ 64 ≤ s.settings.thresholdA ∧ s.settings.thresholdA ≤ 896 ∧
  64 ≤ s.settings.thresholdB ∧ s.settings.thresholdB ≤ 896

/-- The states of an open seam (R48, R52): from APPROACH to PAUSE, INTERRUPTING, INTERRUPTED, and a calibration that
came from INTERRUPTED. -/
def Sequencer.seamOpen (q : Sequencer) : Bool :=
  match q.state with
  | .approach | .spinup | .plunge | .dwell | .weld | .pause | .interrupting | .interrupted => true
  | .calibrating => q.origin == .interrupted
  | .uncommissioned | .commissioning | .calDue | .ready | .exit => false

/-- An open seam has a current segment or a retained segment with end action CONTINUE (R52); a starved head is in WELD or
PAUSE behind such a retained segment (R16). -/
def OpenSeamLaw (s : State) : Prop :=
  ∀ h, ((s.head h).seq.seamOpen = true → (s.head h).plan.current.isSome ∨ (s.head h).plan.openRetained.isSome) ∧
    ((s.head h).plan.starved.isSome →
      (s.headState h).welding = true ∧ (s.head h).plan.openRetained.isSome)

/-! ### Words of the statements -/

/-- The head field that names a head (R194). -/
def headCode : Head → Nat
  | .a => 0
  | .b => 1

/-- The first check of a table that fails, with its status; none when every check passes (R7, R35, R51, R147, R153). -/
def firstFailure (table : List (Bool × Status)) : Option Status := (table.find? fun r => !r.1).map Prod.snd

/-- FORCE, DEPTH and GANTRY stand without a fault (R35, R51). -/
def State.sensorsSound (s : State) (h : Head) : Bool :=
  !((s.head h).front.force.fault || (s.head h).front.depth.fault || s.gantry.fault)

/-- All four drives are ready as last read (R35, R51). -/
def DriveInputs.everyReady (d : DriveInputs) : Bool :=
  d.spindleReady && d.plungeReady && d.lateralReady && d.travelReady

/-- The checks of START SEAM (R35). -/
def startChecks (h : Head) (s : State) : List (Bool × Status) :=
  [(s.headState h == .ready || s.headState h == .calDue, .wrongState),
   (s.headState h != .calDue, .calDue),
   (!s.pins.halt, .halted),
   (!(s.head h).plan.queue.isEmpty, .planEmpty),
   (s.sensorsSound h, .sensorFault),
   ((s.head h).drives.everyReady, .driveNotReady),
   ((s.head h).plan.current.all fun g => s.toolStation h ≤ (g.start : Int) + 10, .position),
   (!(s.present h.other && s.headState h.other == .approach && (s.head h.other).seq.direction == .reverse),
     .otherHeadBusy)]

/-- The checks of RESTART SEAM (R51). -/
def restartChecks (h : Head) (s : State) : List (Bool × Status) :=
  [(s.headState h == .interrupted, .wrongState),
   (!s.pins.halt, .halted),
   (s.sensorsSound h, .sensorFault),
   ((s.head h).drives.everyReady, .driveNotReady),
   (!(s.present h.other && (s.headState h.other).engaged), .otherHeadBusy)]

/-- The segment begins at the contiguity reference of the plan, where there is one: the end of the last queued segment,
else the end of a retained CONTINUE segment (R6, R8). -/
def PlanStore.joins (p : PlanStore) (g : Segment) : Bool :=
  match p.queue.getLast?, p.retained with
  | some l, _ => g.start == l.start + l.length
  | none, some k => k.endAction == .exit || g.start == k.start + k.length
  | none, none => true

/-- The checks of APPEND SEGMENT on the clamped segment (R7). -/
def appendChecks (p : PlanStore) (g : Segment) : List (Bool × Status) :=
  [(decide (g.windowMin < g.windowMax), .badField), (decide (p.queue.length < 48), .planFull),
   (p.joins g, .notContiguous)]

/-- The checks of CALIBRATE (R153). -/
def calibrateChecks (h : Head) (s : State) : List (Bool × Status) :=
  [(s.headState h == .calDue || s.headState h == .ready || s.headState h == .interrupted, .wrongState),
   (!s.pins.halt, .halted),
   ((s.head h).front.force.valid, .sensorFault),
   ((s.head h).drives.spindleReady && (s.head h).drives.plungeReady, .driveNotReady),
   (decide ((s.head h).seq.depth ≤ -((s.head h).tool.clearance : Int)), .wrongState)]

/-- Bytes `at_` to `at_ + n - 1` of reply data (R195). -/
def fieldAt (d : List Byte) (at_ n : Nat) : List Byte := (d.drop at_).take n

/-- The record pool has more common slots free than one command can create records: one for each segment of the plans
and 32 besides. -/
def CommonRoom (s : State) : Prop :=
  s.commonUsed + s.unitA.plan.queue.length + s.unitB.plan.queue.length + 32 ≤ 960

/-- A head's queue holds a record with a given content. -/
def Recorded (h : Head) (b : RecordBody) (t : State) : Prop := ∃ r ∈ (t.head h).log.queue, r.body = b

/-- Everything that belongs to neither head, nor to the governor, nor to the port, is unchanged. -/
def SameRest (s t : State) : Prop :=
  t.gantry = s.gantry ∧ t.settings = s.settings ∧ t.lines = s.lines ∧ t.tracker = s.tracker ∧ t.pins = s.pins ∧
  t.straps = s.straps ∧ t.pending = s.pending

/-- The state with a reply in the port's pending reply and nothing else changed (R185). -/
def replied (s : State) (kind : Byte) (st : Status) (data : List Byte) : State :=
  { s with port := { s.port with pendingReply := some (s.replyFrame kind st data) } }

/-- The kind and the head field of a request that names a head (R183, R195). -/
def namedHead : Instr → Option (Byte × Nat)
  | .readStatus h => some (0x02, h)
  | .startSeam h => some (0x03, h)
  | .stopSeam (.head h) => some (0x04, h)
  | .restartSeam h _ => some (0x05, h)
  | .abandonSeam h => some (0x06, h)
  | .resetHead h => some (0x07, h)
  | .appendSegment h _ => some (0x08, h)
  | .clearPlan h => some (0x09, h)
  | .readPlan h => some (0x0A, h)
  | .loadProfile h _ => some (0x0B, h)
  | .readProfile h _ => some (0x0C, h)
  | .calibrate h => some (0x0D, h)
  | .setChannel h _ _ _ _ => some (0x0E, h)
  | .readChannels h => some (0x0F, h)
  | .readRecords h _ => some (0x11, h)
  | .stopSeam (.broadcast _) | .identify | .setLog _ _ _ | .readCounters _ _ | .resetDevice _ | .resetTakesPlace
  | .resetInputAsserted | .resetInputNegated _ | .haltInputAsserted _ | .haltInputNegated | .lineBreak _
  | .breakDetectorRearm | .addressCharacter _ | .controlFramingError | .frameSilenceTimeout | .frameComplete _ _
  | .replyStart | .replyEnd | .trackReportArrival _ | .trackFramingError | .trackSilenceTimeout | .headSample _ _ _
  | .atSpeed _ | .spinupTimeout _ | .plungeDone _ | .plungeTimeout _ | .dwellElapsed _ | .exitRetractComplete _
  | .interruptingRetractComplete _ | .forceLimit _ | .excursion _ | .graceExhausted _ | .calibrationJudged _
  | .governorUpdate _ _ | .arrival _ | .pauseLimit _ | .dataCharacter _ _ | .trackerCharacter _ => none

/-- The payload lengths of the requests by their kinds, LOAD PROFILE aside (R195). -/
def requestLengths : List (Nat × Nat) :=
  [(0x01, 0), (0x02, 1), (0x03, 1), (0x04, 1), (0x05, 3), (0x06, 1), (0x07, 1), (0x08, 24), (0x09, 1), (0x0A, 1),
   (0x0C, 2), (0x0D, 1), (0x0E, 6), (0x0F, 1), (0x10, 6), (0x11, 2), (0x12, 2), (0x13, 0)]

/-- The length is the one its kind requires (R183, R195, R196): for LOAD PROFILE that of the set its set code names, any
that holds a set code where it names none (log 30). -/
def lengthFits (kind length : Nat) (payload : List Byte) : Bool :=
  if kind = 0x0B then decide (2 ≤ length) &&
    ([(0, 14), (1, 24), (2, 17), (3, 18)].lookup (payload.getD 1 0).toNat).all (· == length)
  else requestLengths.lookup kind == some length

/-- What a record that names the segment in force may carry: that segment's id and zone where there is one (R14, R160),
anything where there is none (log 11). -/
def NamesInForce (s : State) (h : Head) (named : SegmentRef) : Prop :=
  ∀ g, (s.head h).plan.inForce = some g → named = ⟨g.id, some g.zone⟩

/-- A head's log after one more event record, as R165 to R167 have it (statement RecordCreatedInPool). -/
def logWith (h : Head) (b : RecordBody) (s : State) : HeadLog := ((createRecord h b false s).head h).log

/-- A head's log after several event records, created one after the other. -/
def logAll (h : Head) (bodies : List RecordBody) (s : State) : HeadLog :=
  ((bodies.foldl (fun x b => createRecord h b false x) s).head h).log

/-- A head's log after one more event record and what that event counts, at a present head (R172). -/
def logCounted (h : Head) (b : RecordBody) (count : HeadCounters → HeadCounters) (s : State) : HeadLog :=
  if s.present h then { logWith h b s with counters := count (logWith h b s).counters } else logWith h b s

/-- A value lowered to a limit of a set, where the set is loaded (R4). -/
def lowered {α : Type} (set : Option α) (limit : α → Nat) (v : Nat) : Nat :=
  match set with
  | some p => if limit p < v then limit p else v
  | none => v

/-- A value raised to a limit of a set, where the set is loaded (R4). -/
def raised {α : Type} (set : Option α) (limit : α → Nat) (v : Nat) : Nat :=
  match set with
  | some p => if v < limit p then limit p else v
  | none => v

/-- Every field of a segment record lies within its encoding range (R2, R3). -/
def recordInRange (r : SegmentRecord) : Bool :=
  r.id ≤ 65535 && r.start ≤ 400000 && 10 ≤ r.length && r.length ≤ 100000 && r.start + r.length ≤ 400000 &&
  r.zone ≤ 3 && 200 ≤ r.force && r.force ≤ 6000 && 200 ≤ r.spindle && r.spindle ≤ 4000 && 50 ≤ r.cap &&
  r.cap ≤ 3000 && r.windowMin ≤ 20000 && r.windowMax ≤ 20000 && r.tracking ≤ 1 && r.gapAction ≤ 1 && r.endAction ≤ 1

/-- A stored segment is a record with the clamps of R4 against the sets that stand; the codes are those of R194. -/
def ClampedFrom (p : ProfileStore) (r : SegmentRecord) (g : Segment) : Prop :=
  g.id = r.id ∧ g.start = r.start ∧ g.length = r.length ∧ g.zone.code = r.zone ∧ bit g.tracking = r.tracking ∧
  g.gapAction.code = r.gapAction ∧ g.endAction.code = r.endAction ∧
  g.force = lowered p.limits LimitsSet.forceMax r.force ∧
  g.spindle = lowered p.limits LimitsSet.spindleMax r.spindle ∧
  g.cap = raised p.travel TravelSet.minWeldSpeed r.cap ∧
  g.windowMin = lowered p.tool ToolSet.depthHardMax r.windowMin ∧
  g.windowMax = lowered p.tool ToolSet.depthHardMax r.windowMax

/-- A stored segment clamped again (R5): the clamps of R4, and a window min that would not lie below its max is one less
than it. -/
def reclamped (p : ProfileStore) (g : Segment) : Segment :=
  let top := lowered p.tool ToolSet.depthHardMax g.windowMax
  let bottom := lowered p.tool ToolSet.depthHardMax g.windowMin
  { g with
    force := lowered p.limits LimitsSet.forceMax g.force
    spindle := lowered p.limits LimitsSet.spindleMax g.spindle
    cap := raised p.travel TravelSet.minWeldSpeed g.cap
    windowMin := if bottom < top then bottom else top - 1
    windowMax := top }

/-- The store after an accepted set: the set's own dependencies (R143 to R145), those of the later sets for LIMITS
(R150), and the progress (R148). -/
def ProfileStored (p : ProfileStore) (load : ProfileLoad) (n : ProfileStore) : Prop :=
  match load with
  | .limits l =>
    n.limits = some { l with torqueSoft := if l.torqueMax ≤ l.torqueSoft then l.torqueMax - 1 else l.torqueSoft } ∧
    n.tool = p.tool.map (fun t =>
      { t with plungeForceLimit := if l.forceMax < t.plungeForceLimit then l.forceMax else t.plungeForceLimit }) ∧
    n.regulator = p.regulator.map (fun r => { r with
      softTemp := if l.tempMax ≤ r.softTemp then l.tempMax - 1 else r.softTemp
      excursionBand := if l.forceMax ≤ r.excursionBand then l.forceMax - 1 else r.excursionBand }) ∧
    n.travel = p.travel ∧ n.progress = if p.progress = 0 then 1 else p.progress
  | .tool t =>
    let hard := if t.pinLength + 500 < t.depthHardMax then t.pinLength + 500 else t.depthHardMax
    n.tool = some { t with
      depthHardMax := hard
      plungeDepth := if hard < t.plungeDepth then hard else t.plungeDepth
      plungeForceLimit := lowered p.limits LimitsSet.forceMax t.plungeForceLimit } ∧
    n.limits = p.limits ∧ n.regulator = p.regulator ∧ n.travel = p.travel ∧
    n.progress = if p.progress = 1 then 2 else p.progress
  | .regulator r =>
    n.regulator = some { r with
      softTemp := lowered p.limits (fun l => l.tempMax - 1) r.softTemp
      excursionBand := lowered p.limits (fun l => l.forceMax - 1) r.excursionBand } ∧
    n.limits = p.limits ∧ n.tool = p.tool ∧ n.travel = p.travel ∧
    n.progress = if p.progress = 2 then 3 else p.progress
  | .travel t =>
    n.travel = some t ∧ n.limits = p.limits ∧ n.tool = p.tool ∧ n.regulator = p.regulator ∧
    n.progress = if p.progress = 3 then 4 else p.progress
  | .unknown _ => False

/-- The clamp mask of an accepted load: bit n for the n-th field of the set as stored that differs from the one sent
(R147, R195). -/
def loadClamps (n : ProfileStore) : ProfileLoad → Nat
  | .limits l => (n.limits.map fun m => 4 * bit (m.torqueSoft ≠ l.torqueSoft)).getD 0
  | .tool t => (n.tool.map fun m => 4 * bit (m.depthHardMax ≠ t.depthHardMax) +
      16 * bit (m.plungeDepth ≠ t.plungeDepth) + 64 * bit (m.plungeForceLimit ≠ t.plungeForceLimit)).getD 0
  | .regulator r => (n.regulator.map fun m => 8 * bit (m.softTemp ≠ r.softTemp) +
      64 * bit (m.excursionBand ≠ r.excursionBand)).getD 0
  | .travel _ => 0
  | .unknown _ => 0

/-- The place of a set in the commissioning order, as its set code gives it (R142, R194); 4 for a code that names none. -/
def setPlace : ProfileLoad → Nat
  | .limits _ => 0
  | .tool _ => 1
  | .regulator _ => 2
  | .travel _ => 3
  | .unknown _ => 4

/-- The fields of a set as sent, each with its encoding range (R143 to R146). -/
def fieldRanges : ProfileLoad → List (Nat × Nat × Nat)
  | .limits l =>
    [(l.forceMax, 500, 6000), (l.torqueMax, 100, 6000), (l.torqueSoft, 0, 5999), (l.tempMax, 300, 650),
     (l.spindleMax, 500, 4000), (l.gapLimit, 10, 200), (l.mismatchLimit, 10, 150)]
  | .tool t =>
    [(t.seamOrigin, 0, 400000), (t.pinLength, 1000, 15000), (t.depthHardMax, 1, 20000), (t.clearance, 2000, 50000),
     (t.plungeDepth, 0, 20000), (t.plungeRate, 50, 2000), (t.plungeForceLimit, 200, 6000), (t.plungeTimeout, 10, 600),
     (t.dwell, 0, 5000), (t.retractRate, 100, 5000), (t.trackPitch, 10, 100)]
  | .regulator r =>
    [(r.kp, 0, 1023), (r.ki, 0, 1023), (r.slew, 1, 50), (r.softTemp, 300, 600), (r.thermalSlope, 0, 20),
     (r.pauseFactor, 500, 1000), (r.excursionBand, 10, 1000), (r.excursionLength, 10, 1000), (r.lateralSlew, 1, 100)]
  | .travel t =>
    [(t.acceleration, 5, 200), (t.approachSpeed, 100, 6000), (t.minWeldSpeed, 50, 1000), (t.pauseAllowance, 0, 200),
     (t.starvationAllowance, 0, 5000), (t.trackHold, 10, 1000), (t.spinupTimeout, 10, 300), (t.bedEnd, 0, 400000),
     (t.calibrationBudget, 1, 255)]
  | .unknown _ => []

/-- The checks of LOAD PROFILE (R147). -/
def loadChecks (h : Head) (load : ProfileLoad) (s : State) : List (Bool × Status) :=
  [(decide (setPlace load < 4), .badField),
   (s.headState h == .uncommissioned || s.headState h == .commissioning || s.headState h == .calDue ||
     s.headState h == .ready || (s.headState h == .interrupted && decide (2 ≤ setPlace load)), .wrongState),
   (decide (setPlace load ≤ (s.head h).profiles.progress), .sequence),
   ((fieldRanges load).all fun f => f.2.1 ≤ f.1 && f.1 ≤ f.2.2, .badField)]

/-- The 13-byte block of a channel (R195). -/
def channelBlock (c : Channel) : List Byte :=
  leBytes 3 c.raw ++
  leBytes 1 (bit c.valid + 2 * bit c.overrideOn + 4 * bit c.substituteOn + 8 * bit c.fault : Nat) ++
  leBytes 2 c.offset ++ leBytes 2 c.overrideOffset ++ leBytes 2 c.substitute ++ leBytes 3 c.effective

/-- The setting of a channel after SET CHANNEL: enabling stores the value, disabling keeps the stored one (R139). -/
def withEnable (c : Channel) (t : Setting) (on : Bool) (v : Int) : Channel :=
  match t with
  | .override => { c with overrideOn := on, overrideOffset := if on then v else c.overrideOffset }
  | .substitute => { c with substituteOn := on, substitute := if on then v else c.substitute }

/-- The range of a setting by the codes of its channel and of itself, where it is permitted (R138, R194). -/
def permittedRange : Nat → Nat → Option (Int × Int)
  | 0, 0 => some (-2000, 2000)
  | 1, 0 => some (-1000, 1000)
  | 2, 0 => some (-100, 100)
  | 1, 1 => some (0, 6000)
  | 2, 1 => some (0, 800)
  | _, _ => none

/-- The checks of SET CHANNEL (R138). -/
def channelChecks (channel setting enable : Nat) (value : Int) : List (Bool × Status) :=
  [(decide (channel ≤ 4 ∧ setting ≤ 1 ∧ enable ≤ 1), .badField),
   ((permittedRange channel setting).isSome, .notAllowed),
   (enable == 0 || (permittedRange channel setting).any fun r => r.1 ≤ value && value ≤ r.2, .badField)]

/-- The kind code of a record and the fields of its body: first byte, width in bytes, value (R198). -/
def recordLayout : RecordBody → Nat × List (Nat × Nat × Int)
  | .sample mark count mean least greatest depth torque temp _ speed lateral =>
    (0x00, [(4, 3, mark), (7, 2, count), (9, 2, mean), (11, 2, least), (13, 2, greatest), (15, 2, depth),
      (17, 3, torque + 8192 * temp), (20, 2, speed), (22, 2, lateral)])
  | .seamStart seg plunge tool => (0x01, [(4, 2, seg.id), (6, 3, plunge), (9, 3, tool)])
  | .startFailed reason kind left tool => (0x02, [(4, 1, reason.code), (5, 1, kind.code), (6, 1, left.code), (7, 3, tool)])
  | .plungeDone seg kind plunge depth time =>
    (0x03, [(4, 2, seg.id), (6, 1, kind.code), (7, 3, plunge), (10, 3, depth), (13, 2, time)])
  | .pauseBegin seg tool other => (0x04, [(4, 2, seg.id), (6, 3, tool), (9, 1, other.code)])
  | .pauseEnd seg tool duration => (0x05, [(4, 2, seg.id), (6, 3, tool), (9, 2, duration)])
  | .segmentEnd id zone action stop tool saturations untracked =>
    (0x06, [(4, 2, id), (6, 1, zone.code), (7, 1, action.code), (8, 3, stop), (11, 3, tool), (14, 2, saturations),
      (16, 1, bit untracked)])
  | .seamEnd seg kind tool => (0x07, [(4, 2, seg.id), (6, 1, kind.code), (7, 3, tool)])
  | .interrupt cause station seg kind left depth =>
    (0x08, [(4, 1, cause.code), (5, 3, station), (8, 2, seg.id), (10, 1, kind.code), (11, 1, left.code), (12, 3, depth)])
  | .reentry station cause again overlap seg =>
    (0x09, [(4, 3, station), (7, 1, causeCode cause), (8, 3, again), (11, 2, overlap), (13, 2, seg.id)])
  | .abandoned removed station cause => (0x0A, [(4, 1, removed), (5, 3, station), (8, 1, causeCode cause)])
  | .excursion seg state peak run negative tool =>
    (0x0B, [(4, 2, seg.id), (6, 1, state.code), (7, 2, peak), (9, 2, run), (11, 1, bit negative), (12, 3, tool)])
  | .gap seg tool entry gap action => (0x0C, [(4, 2, seg.id), (6, 3, tool), (9, 3, entry), (12, 1, gap), (13, 1, action.code)])
  | .mismatch seg tool entry mismatch => (0x0D, [(4, 2, seg.id), (6, 3, tool), (9, 3, entry), (12, 2, mismatch)])
  | .trackLoss seg tool reference distance => (0x0E, [(4, 2, seg.id), (6, 3, tool), (9, 3, reference), (12, 3, distance)])
  | .sensorFault channel kind raw masked state =>
    (0x0F, [(4, 1, channel.code), (5, 1, kind.code), (6, 3, raw), (9, 1, bit masked), (10, 1, state.code)])
  | .substitution channel setting enable value state =>
    (0x10, [(4, 1, channel.code), (5, 1, setting.code), (6, 1, bit enable), (7, 2, value), (9, 1, state.code)])
  | .calDone mean spread offset budget => (0x11, [(4, 2, mean), (6, 2, spread), (8, 2, offset), (10, 1, budget)])
  | .calFailed reason count mean spread => (0x12, [(4, 1, reason.code), (5, 2, count), (7, 2, mean), (9, 2, spread)])
  | .halt source left entered => (0x13, [(4, 1, source.code), (5, 1, left.code), (6, 1, entered.code)])
  | .starved nominal seg => (0x14, [(4, 3, nominal), (7, 2, seg.id)])
  | .planResumed seg used => (0x15, [(4, 2, seg.id), (6, 3, used)])

/-- The 24 bytes of a record (R198): kind code, flags (LOSS_BEFORE, COALESCED, and the five ORed flags of a SAMPLE
record), sequence number, the fields of the body in their places, and 0 in every byte that the table does not assign. -/
def LaidOut (r : LogRecord) (d : List Byte) : Prop :=
  let ored : Nat := match r.body with
    | .sample _ _ _ _ _ _ _ _ f _ _ => 4 * bit f.saturated + 8 * bit f.slewLimited + 16 * bit f.substitution +
        32 * bit f.gapSlow + 64 * bit f.starved
    | _ => 0
  d.length = 24 ∧ fieldAt d 0 1 = leBytes 1 (recordLayout r.body).1 ∧
  fieldAt d 1 1 = leBytes 1 (bit r.lossBefore + 2 * bit r.coalesced + ored : Nat) ∧
  fieldAt d 2 2 = leBytes 2 r.seq.toNat ∧
  (∀ f ∈ (recordLayout r.body).2, fieldAt d f.1 f.2.1 = leBytes f.2.1 f.2.2) ∧
  ∀ i < 24, 4 ≤ i → (∀ f ∈ (recordLayout r.body).2, i < f.1 ∨ f.1 + f.2.1 ≤ i) → d[i]? = some 0

/-- The fields of a track report lie within their encoding ranges (R110). -/
def TrackEntry.inRange (e : TrackEntry) : Prop :=
  -400000 ≤ e.station ∧ e.station ≤ 400000 ∧ -3000 ≤ e.offset ∧ e.offset ≤ 3000 ∧ e.gap ≤ 200 ∧
  -150 ≤ e.mismatch ∧ e.mismatch ≤ 150 ∧ e.quality ≤ 15

/-- The twelve characters of a report on a head (R197): sync, head, station, lateral offset, gap, mismatch, quality, and
the check, the XOR of the eleven before it (R109). -/
def reportOf (h : Head) (e : TrackEntry) : List Byte :=
  let l : List Byte := [0xA5] ++ leBytes 1 (headCode h) ++ leBytes 3 e.station ++ leBytes 2 e.offset ++
    leBytes 1 e.gap ++ leBytes 2 e.mismatch ++ leBytes 1 e.quality
  l ++ [l.foldl (· ^^^ ·) 0]

/-- Accumulator and depth after one sample of a ramp toward a goal (R30). -/
def rampedTo (acc : Nat) (depth goal : Int) (rate : Nat) : Nat × Int :=
  let move : Int := ((acc + rate) / 500 : Nat)
  ((acc + rate) % 500, if depth ≤ goal then min goal (depth + move) else max goal (depth - move))

/-- The tracking state with its lookahead queue emptied (R116). -/
def Tracking.emptied (t : Tracking) : Tracking :=
  { t with queue := [], activeFirst := false, gapSlow := false, mismatchLatch := false }

/-- The travel output as an engaged head finds it: taken at speed 0, FORWARD, where it was released (R85). -/
def Governor.taken (g : Governor) : Governor :=
  if g.owned then g else { g with owned := true, speed := 0, direction := .forward }

/-- The travel output as a head that is not engaged leaves it: released at speed 0 unless the other head is engaged
(R85). -/
def Governor.left (g : Governor) (otherEngaged : Bool) : Governor :=
  if otherEngaged then g.taken else if g.owned then { g with owned := false, speed := 0 } else g

/-- A head in WELD goes to PAUSE (R102): its timer is the pause allowance, its elapsed time 0, and PAUSE_BEGIN is
recorded with the state of the other head and counted. -/
def PauseBegun (h : Head) (otherState : HeadState) (s : State) (u : HeadUnit) : Prop :=
  ∃ named, NamesInForce s h named ∧
    u = { s.head h with
          seq := { (s.head h).seq with state := .pause }
          travel := { (s.head h).travel with
            pauseTimer := (s.head h).travelSet.pauseAllowance * 100, pauseElapsed := 0 }
          log := logCounted h (.pauseBegin named (s.toolStation h) otherState)
            (fun c => { c with pauses := bump c.pauses }) s }

/-- What a head's entry into a state whose demand is HOLD brings beside the head (R85, R86, R102): where its demand was
HOLD already the output stays; otherwise the commanded speed is 0 and the other head pauses if it is in WELD. -/
def HoldTaken (h : Head) (st : HeadState) (s t : State) : Prop :=
  if s.demand h = .hold then t.gov = s.gov.taken ∧ t.head h.other = s.head h.other
  else t.gov = { s.gov.taken with speed := 0 } ∧
    if s.headState h.other = .weld then PauseBegun h.other st s (t.head h.other)
    else t.head h.other = s.head h.other

/-- The counters that an INTERRUPT record moves (R172). -/
def interruptCount (c : Cause) (n : HeadCounters) : HeadCounters :=
  { n with
    seamsInterrupted := bump n.seamsInterrupted
    pauseLimitInterrupts := if c = .pauseLimit then bump n.pauseLimitInterrupts else n.pauseLimitInterrupts }

/-- A head enters INTERRUPTING with a cause (R45, R20, R86): nothing else about it changes but what is named here. The
record follows the other head's PAUSE_BEGIN where there is one (log 16). -/
def Interrupted (h : Head) (c : Cause) (s t : State) : Prop :=
  SameRest s t ∧ t.port = s.port ∧ HoldTaken h .interrupting s t ∧
  ∃ named, NamesInForce s h named ∧
    t.head h = { s.head h with
      seq := { (s.head h).seq with
        state := .interrupting, raising := false, cause := some c, interruptStation := s.toolStation h, rampAcc := 499 }
      plan := { (s.head h).plan with starved := none }
      travel := ⟨0, 0, 0⟩
      log := logCounted h
        (.interrupt c (s.toolStation h) named (s.head h).seq.kind (s.headState h) (s.head h).seq.depth)
        (interruptCount c) (s.onHead h.other fun _ => t.head h.other) }

/-- A head leaves APPROACH or SPINUP without plunging (R38, R116): to READY from a fresh start, to INTERRUPTED from a
re-entry, with its spindle command 0, its lookahead queue emptied, and the given log. -/
def StartEnded (h : Head) (log : HeadLog) (s t : State) : Prop :=
  SameRest s t ∧ t.port = s.port ∧ t.gov = s.gov.left (s.headState h.other).engaged ∧
  t.head h.other = s.head h.other ∧
  t.head h = { s.head h with
    seq := { (s.head h).seq with
      state := if (s.head h).seq.kind = .fresh then .ready else .interrupted, spindle := 0 }
    track := (s.head h).track.emptied
    travel := ⟨0, 0, 0⟩
    log := log }

/-- What STOP SEAM does to a head (R49): a start is ended with reason HOST_STOP, a head in the material is interrupted
with cause HOST_STOP, and any other head is left as it is. -/
def StopTaken (h : Head) (s t : State) : Prop :=
  if (s.headState h).starting then
    StartEnded h (logWith h (.startFailed .hostStop (s.head h).seq.kind (s.headState h) (s.toolStation h)) s) s t
  else if (s.headState h).inMaterial then Interrupted h .hostStop s t
  else t = s

/-- The state a calibration returns to on a failure or an abort, and what it leaves of the accumulator (R155, R156). -/
def Sequencer.afterCalibration (q : Sequencer) (st : HeadState) : Sequencer :=
  { q with state := st, cal := CalAccumulator.clear }

/-- What a halt event does to a head (R56), where its state changes with the HALT record at the end. -/
def HaltTaken (h : Head) (src : HaltSource) (s t : State) : Prop :=
  if (s.headState h).inMaterial then
    ∃ m, Interrupted h .halt s m ∧
      t = m.onHead h fun u => { u with log := logWith h (.halt src (s.headState h) .interrupting) m }
  else if (s.headState h).starting then
    StartEnded h (logWith h (.halt src (s.headState h)
      (if (s.head h).seq.kind = .fresh then .ready else .interrupted)) s) s t
  else if s.headState h = .calibrating then
    SameRest s t ∧ t.port = s.port ∧ t.gov = s.gov.left (s.headState h.other).engaged ∧
    t.head h.other = s.head h.other ∧
    ∃ m : State, m = s.onHead h (fun u =>
        { u with log := logWith h (.calFailed .halt u.seq.cal.count 0 0) s }) ∧
      t.head h = { s.head h with
        seq := (s.head h).seq.afterCalibration (s.head h).seq.origin
        travel := ⟨0, 0, 0⟩
        log := logWith h (.halt src .calibrating (s.head h).seq.origin) m }
  else t = s

/-- Two heads take an event one after the other, the given one first; head A alone where head B is absent (R50, R182,
R191, log 3). -/
def EachHead (first : Head) (take : Head → State → State → Prop) (s t : State) : Prop :=
  if s.straps.headB then ∃ m, take first s m ∧ take first.other m t else take .a s t

end Sys2Proof.Machine
end

