-- ==== Sys2Proof/Certificates/Slice0/Obligations.lean ====
section
/-! DEFINITION. The statements: the queue and the laws of the machine, then the commands family by family, then the
computations of the blocks. Predicates used here and not of the model are in Safety.lean. -/

section
open Sys2Proof Sys2Proof.Machine

/-! ### The machine -/

/-- A step runs the command at the front of the queue on the state with the queue's rest; an empty queue idles (the
model's choice, log 6). -/
def Obligations.QueueFrontRuns : Prop :=
  (∀ (c : Instr) (s : State) (rest : List Instr),
    s.pending = c :: rest → step s = exec c { s with pending := rest }) ∧
  ∀ s : State, s.pending = [] → step s = .next s

/-- No command faults or is refused; none touches the queue; only the negation of RESET samples the straps (R190). That
this holds in every state, also in those no run reaches (log 25) and while RESET is asserted (log 12), is the model's
choice. -/
def Obligations.EveryCommandCompletes : Prop :=
  ∀ (c : Instr) (s : State), ∃ t, exec c s = .next t ∧ t.pending = s.pending ∧
    ((∀ straps, c ≠ .resetInputNegated straps) → t.straps = s.straps)

/-- The state after reset keeps every law that the step statements below carry. -/
def Obligations.LawsHoldAtReset : Prop :=
  RecordPoolLaw State.reset ∧ NumberingLaw State.reset ∧ SpindleLaw State.reset ∧ TravelLaw State.reset ∧
  CommissioningLaw State.reset ∧ BudgetLaw State.reset ∧ PlanLaw State.reset ∧ LookaheadLaw State.reset ∧
  AbsentHeadLaw State.reset ∧ ReverseLaw State.reset ∧ AdvanceSpeedLaw State.reset ∧ OpenSeamLaw State.reset ∧
  SettingsLaw State.reset

/-- Every well-formed request, with every operand, survives its encoding: its kind is known, its length is the one the
kind requires, and its payload decodes to it (R183, R194 to R196). -/
def Obligations.RequestsDecodeAsEncoded : Prop :=
  ∀ (i : Instr) (kind : Byte) (payload : List Byte), i.wellFormed = true → encodeRequest i = some (kind, payload) →
    knownKind kind = true ∧ lengthGood kind payload.length payload = true ∧ decodeRequest kind payload = some i

/-- The record pool law and the numbering law hold across every step (R165, R167), and the log settings stay within
their ranges (R171). -/
def Obligations.RecordLogLawsKept : Prop :=
  ∀ s t : State, step s = .next t →
    (RecordPoolLaw s → NumberingLaw s → RecordPoolLaw t ∧ NumberingLaw t) ∧ (SettingsLaw s → SettingsLaw t)

/-- The spindle law holds across every step (R29). -/
def Obligations.SpindleKept : Prop :=
  ∀ s t : State, SpindleLaw s → step s = .next t → SpindleLaw t

/-- The travel output is owned exactly while a head is engaged, and its speed is 0 under a HOLD, across every step
(R85, R86). -/
def Obligations.TravelOwnershipKept : Prop :=
  ∀ s t : State, TravelLaw s → step s = .next t → TravelLaw t

/-- Sets, progress and head state go together across every step (R142, R148). -/
def Obligations.CommissioningKept : Prop :=
  ∀ s t : State, CommissioningLaw s → step s = .next t → CommissioningLaw t

/-- The budget law holds across every step of a commissioned machine (R34). -/
def Obligations.CalibrationBudgetKept : Prop :=
  ∀ s t : State, CommissioningLaw s → BudgetLaw s → step s = .next t → BudgetLaw t

/-- The plan law holds across every step (R6). -/
def Obligations.PlanContiguityKept : Prop :=
  ∀ s t : State, PlanLaw s → step s = .next t → PlanLaw t

/-- The lookahead law holds across every step of a commissioned machine (R114). -/
def Obligations.LookaheadOrderKept : Prop :=
  ∀ s t : State, CommissioningLaw s → LookaheadLaw s → step s = .next t → LookaheadLaw t

/-- An absent head B stays at its power-on state (R127, R172, R190). -/
def Obligations.AbsentHeadKept : Prop :=
  ∀ s t : State, AbsentHeadLaw s → step s = .next t → AbsentHeadLaw t

/-- The gantry is commanded in reverse only for one re-entry approach that stands alone, across every step (R97). -/
def Obligations.ReverseApproachAlone : Prop :=
  ∀ s t : State, TravelLaw s → AbsentHeadLaw s → CommissioningLaw s → ReverseLaw s → step s = .next t → ReverseLaw t

/-- The two halves of R92. The commanded speed stays at or below the permitted speed of every head in WELD or PAUSE
across every step. No command but an update of the governor raises it, and an update with no head in WELD or PAUSE
leaves it at or below the approach speed of every approaching head. (An approach begun beside another one acts on the
speed from the next update on, R87, log 21.) -/
def Obligations.AdvanceSpeedKept : Prop :=
  (∀ s t : State, TravelLaw s → CommissioningLaw s → AdvanceSpeedLaw s → step s = .next t → AdvanceSpeedLaw t) ∧
  (∀ (c : Instr) (s t : State), (∀ inp order, c ≠ .governorUpdate inp order) → exec c s = .next t →
    t.gov.speed ≤ s.gov.speed) ∧
  ∀ (inp : UpdateInput) (order : UpdateOrder) (s t : State), s.pins.reset = false → TravelLaw s →
    exec (.governorUpdate inp order) s = .next t → (∀ h, (t.headState h).welding = false) →
    ∀ h, t.headState h = .approach → t.gov.speed ≤ (t.head h).travelSet.approachSpeed

/-- An open seam keeps something to resume from across every step, and only a welding head starves (R16, R48, R52). -/
def Obligations.OpenSeamKept : Prop :=
  ∀ s t : State, CommissioningLaw s → OpenSeamLaw s → step s = .next t → OpenSeamLaw t

/-! ### Requests -/

/-- A request that names no present head is answered NO_HEAD and has no other effect (R183). -/
def Obligations.MissingHeadAnswersNoHead : Prop :=
  ∀ (i : Instr) (kind : Byte) (code : Nat) (s : State), s.pins.reset = false → namedHead i = some (kind, code) →
    (∀ h, headCode h = code → s.present h = false) → exec i s = .next (replied s kind .noHead [])

/-- The requests that read and change nothing but the pending reply. IDENTIFY answers family code 0x2240, revision 0x02
and the straps as they were sampled (R188). READ PLAN answers the queue count, the current segment and the retained id,
each as 0 where it is absent (R25). READ PROFILE answers BAD_FIELD for a code that names no set, WRONG_STATE for a set
not loaded, and otherwise the commissioning progress and every field of the set as it stands (R152). READ CHANNELS
answers five channel blocks, the drive inputs as last read, and the commands as presented, the travel command as 0 while
released (R140). The layouts are those of R195. -/
def Obligations.ReadingRequestsAnswer : Prop :=
  (∀ s : State, s.pins.reset = false →
     exec .identify s = .next (replied s 0x01 .ok
       [0x40, 0x22, 0x02, BitVec.ofNat 8 s.straps.address.toNat, if s.straps.fast then 1 else 0,
        if s.straps.headB then 2 else 1])) ∧
  (∀ (h : Head) (s : State), s.pins.reset = false → s.present h = true →
     ∃ d, exec (.readPlan (headCode h)) s = .next (replied s 0x0A .ok d) ∧ d.length = 13 ∧
       fieldAt d 0 1 = leBytes 1 (s.head h).plan.queue.length ∧
       (∀ g, (s.head h).plan.queue.head? = some g →
         fieldAt d 2 9 = leBytes 2 g.id ++ leBytes 3 g.start ++ leBytes 3 ((g.start + g.length : Nat) : Int) ++
           leBytes 1 g.endAction.code) ∧
       ((s.head h).plan.queue = [] → fieldAt d 2 9 = List.replicate 9 0) ∧
       (∀ g, (s.head h).plan.retained = some g → fieldAt d 11 2 = leBytes 2 g.id) ∧
       ((s.head h).plan.retained = none → fieldAt d 11 2 = [0, 0]) ∧
       fieldAt d 1 1 =
         leBytes 1 (bit (!(s.head h).plan.queue.isEmpty) + 2 * bit (s.head h).plan.retained.isSome : Nat)) ∧
  (∀ (h : Head) (code : Nat) (s : State), s.pins.reset = false → s.present h = true →
     let p := (s.head h).profiles
     let sets : List (Option (List Byte)) :=
       [p.limits.map LimitsSet.bytes, p.tool.map ToolSet.bytes, p.regulator.map RegulatorSet.bytes,
        p.travel.map TravelSet.bytes]
     (4 ≤ code → exec (.readProfile (headCode h) code) s = .next (replied s 0x0C .badField [])) ∧
     (sets[code]? = some none → exec (.readProfile (headCode h) code) s = .next (replied s 0x0C .wrongState [])) ∧
     ∀ fields, sets[code]? = some (some fields) →
       exec (.readProfile (headCode h) code) s = .next (replied s 0x0C .ok (leBytes 1 p.progress ++ fields))) ∧
  ∀ (h : Head) (s : State), s.pins.reset = false → s.present h = true →
    let u := s.head h
    exec (.readChannels (headCode h)) s = .next (replied s 0x0F .ok
      (channelBlock u.front.force ++ channelBlock u.front.torque ++ channelBlock u.front.temp ++
       channelBlock u.front.depth ++ channelBlock s.gantry ++
       leBytes 1 (bit u.drives.spindleReady + 2 * bit u.drives.atSpeed + 4 * bit u.drives.plungeReady +
         8 * bit u.drives.lateralReady + 16 * bit s.gov.travelReady : Nat) ++
       leBytes 2 u.applied.spindle ++ leBytes 3 u.applied.depth ++ leBytes 2 u.applied.lateral ++
       (if s.gov.owned then leBytes 2 s.gov.speed ++ leBytes 1 (if s.gov.direction = .reverse then 3 else 1)
        else [0, 0, 0])))

/-- READ STATUS answers 45 bytes laid out as R195 gives them and changes nothing but the pending reply; with no
segment in force the id bytes are free (log 31), and the model's counter of free values may move. That a negative
distance used fills its u16 field modulo 65,536 is the model's choice (log 36). -/
def Obligations.ReadStatusAnswersItems : Prop :=
  ∀ (h : Head) (s : State), s.pins.reset = false → s.present h = true →
    ∃ d n, exec (.readStatus (headCode h)) s = .next { replied s 0x02 .ok d with free := n } ∧
      d.length = 45 ∧
      fieldAt d 0 3 = [BitVec.ofNat 8 (s.headState h).code, BitVec.ofNat 8 (s.head h).seq.kind.code,
        BitVec.ofNat 8 (causeCode (s.head h).seq.cause)] ∧
      fieldAt d 3 3 = leBytes 3 (s.head h).seq.interruptStation ∧
      fieldAt d 6 3 = leBytes 3 (s.head h).seq.reentryStation ∧
      fieldAt d 9 1 = leBytes 1 (s.head h).seq.budget ∧
      fieldAt d 10 2 = leBytes 2 (s.head h).travel.pauseTimer ∧
      fieldAt d 12 3 = leBytes 3 (s.toolStation h) ∧ fieldAt d 15 3 = leBytes 3 s.gantry.effective ∧
      (∀ g, (s.head h).plan.inForce = some g → fieldAt d 18 2 = leBytes 2 g.id) ∧
      fieldAt d 20 2 = leBytes 2 (s.head h).plan.distanceUsed ∧
      fieldAt d 22 1 = leBytes 1 (s.head h).plan.queue.length ∧
      fieldAt d 23 1 = leBytes 1 (bit (s.head h).plan.inForce.isSome + 2 * bit (s.head h).plan.retained.isSome +
        4 * bit (s.head h).reg.saturated : Nat) ∧
      fieldAt d 24 3 = leBytes 3 (s.head h).seq.depth ∧
      fieldAt d 27 2 = leBytes 2 (s.head h).front.force.effective ∧
      fieldAt d 29 2 = leBytes 2 (s.head h).reg.target ∧
      fieldAt d 31 2 = leBytes 2 (s.head h).track.lateralCommand ∧
      fieldAt d 33 2 = leBytes 2 (s.head h).seq.spindle ∧ fieldAt d 35 2 = leBytes 2 s.gov.speed ∧
      fieldAt d 37 1 = leBytes 1 (bit s.gov.owned + 2 * s.gov.direction.code : Nat) ∧
      fieldAt d 38 1 = leBytes 1 (s.demand h).code ∧
      fieldAt d 39 3 = (match s.demand h with
        | .approach => leBytes 3 (s.head h).seq.target
        | .advance => leBytes 3 (s.head h).travel.permitted
        | .idle | .hold => leBytes 3 0) ∧
      fieldAt d 42 1 = leBytes 1 (if s.demand h = .approach then (s.head h).seq.direction.code else 0) ∧
      fieldAt d 43 2 = leBytes 2 (s.level h)

/-- START SEAM: the checks of R35 in their order, the first that fails giving the status and nothing else; past them the
start of R36 with its SEAM_START record, and the travel output owned (R85). The flags byte is that of the state with the
request's own effects, which is the model's choice (log 34). -/
def Obligations.StartSeamTaken : Prop :=
  ∀ (h : Head) (s : State), s.pins.reset = false → s.present h = true →
    (∀ st, firstFailure (startChecks h s) = some st → exec (.startSeam (headCode h)) s = .next (replied s 0x03 st [])) ∧
    (∀ g, firstFailure (startChecks h s) = none → (s.head h).plan.current = some g →
      ∃ t, exec (.startSeam (headCode h)) s = .next (replied t 0x03 .ok (leBytes 3 (g.start : Nat))) ∧
        SameRest s t ∧ t.port = s.port ∧ t.gov = s.gov.taken ∧ t.head h.other = s.head h.other ∧
        t.head h = { s.head h with
          seq := { (s.head h).seq with
            state := .approach, raising := false, kind := .fresh, target := (g.start : Nat), direction := .forward }
          travel := ⟨0, 0, 0⟩
          log := logWith h (.seamStart ⟨g.id, some g.zone⟩ (g.start : Nat) (s.toolStation h)) s })

/-- STOP SEAM by the state it finds the head in (R49): the effect of StopTaken, and OK in an engaged state, WRONG_STATE
in any other. A broadcast one is taken so by each present head, without a reply (R50). The model's choices in it: the
INTERRUPT record carries the segment in force before starvation ends (log 15) and follows the other head's PAUSE_BEGIN
(log 16), of two heads in WELD the second pauses before it takes a broadcast stop (log 38), and the flags byte is that
of the state after the stop (log 34). -/
def Obligations.StopSeamByState : Prop :=
  (∀ (h : Head) (s : State), s.pins.reset = false → s.present h = true →
    ∃ t, StopTaken h s t ∧
      exec (.stopSeam (.head (headCode h))) s =
        .next (replied t 0x04 (if (s.headState h).engaged then .ok else .wrongState) [])) ∧
  ∀ (first : Head) (s : State), s.pins.reset = false →
    ∃ t, EachHead first StopTaken s t ∧ exec (.stopSeam (.broadcast first)) s = .next t ∧ t.port = s.port

/-- RESTART SEAM: the checks of R51 in their order, the first that fails giving the status and nothing else. Past them
the re-entry station is the interrupt station less the overlap clamped into [200, 1000], raised to the lower bound of
R52; kind, target, direction, reinstated segment, emptied lookahead queue, REENTRY record and reply are those of R21,
R52 and R53. The flags byte is that of the state with the request's own effects, which is the model's choice (log 34).
-/
def Obligations.RestartSeamTaken : Prop :=
  ∀ (h : Head) (overlap : Nat) (s : State), s.pins.reset = false → s.present h = true →
    (∀ st, firstFailure (restartChecks h s) = some st →
      exec (.restartSeam (headCode h) overlap) s = .next (replied s 0x05 st [])) ∧
    ∀ bound : Nat, firstFailure (restartChecks h s) = none →
    (match (s.head h).plan.retained with
      | some g => if g.endAction = .carryOn then bound = g.start
          else ∃ c, (s.head h).plan.current = some c ∧ bound = c.start
      | none => ∃ c, (s.head h).plan.current = some c ∧ bound = c.start) →
    let wanted : Int := (s.head h).seq.interruptStation - max 200 (min 1000 (overlap : Int))
    let station : Int := max (bound : Int) wanted
    let plan : PlanStore := match (s.head h).plan.retained with
      | some g =>
        if g.endAction = .carryOn ∧ (g.start : Int) ≤ station ∧ station < ((g.start + g.length : Nat) : Int) then
          { (s.head h).plan with queue := g :: (s.head h).plan.queue, retained := none }
        else (s.head h).plan
      | none => (s.head h).plan
    let overlapMade : Int := (s.head h).seq.interruptStation - station
    ∃ t named, exec (.restartSeam (headCode h) overlap) s =
        .next (replied t 0x05 (if overlap < 200 ∨ 1000 < overlap ∨ wanted < (bound : Int) then .okClamped else .ok)
          (leBytes 3 station ++ leBytes 2 overlapMade)) ∧
      (∀ g, plan.inForce = some g → named = ⟨g.id, some g.zone⟩) ∧
      SameRest s t ∧ t.port = s.port ∧ t.gov = s.gov.taken ∧ t.head h.other = s.head h.other ∧
      t.head h = { s.head h with
        seq := { (s.head h).seq with
          state := .approach, raising := false, kind := .reentry, target := station, reentryStation := station
          direction := if station < s.toolStation h then .reverse else .forward }
        plan := plan
        track := (s.head h).track.emptied
        travel := ⟨0, 0, 0⟩
        log := logCounted h
          (.reentry (s.head h).seq.interruptStation (s.head h).seq.cause station overlapMade named)
          (fun c => { c with reentries := bump c.reentries }) s }

/-- ABANDON SEAM (R24, R55): in INTERRUPTED the queue loses every segment up to and including the first EXIT segment, or
all of them where there is none, and the retained segment; the ABANDONED record and the reply carry the number; the head
goes to READY, or to CAL_DUE with a budget of 0. In any other state it is refused. The flags byte is that of the state
with the request's own effects, which is the model's choice (log 34). -/
def Obligations.AbandonSeamRemovesSeam : Prop :=
  ∀ (h : Head) (s : State), s.pins.reset = false → s.present h = true →
    (s.headState h ≠ .interrupted → exec (.abandonSeam (headCode h)) s = .next (replied s 0x06 .wrongState [])) ∧
    ∀ gone rest : List Segment, s.headState h = .interrupted → (s.head h).plan.queue = gone ++ rest →
      ((∃ before g, gone = before ++ [g] ∧ g.endAction = .exit ∧ ∀ b ∈ before, b.endAction = .carryOn) ∨
        (rest = [] ∧ ∀ b ∈ gone, b.endAction = .carryOn)) →
      ∃ t, exec (.abandonSeam (headCode h)) s = .next (replied t 0x06 .ok (leBytes 1 gone.length)) ∧
        SameRest s t ∧ t.port = s.port ∧ t.gov = s.gov.left (s.headState h.other).engaged ∧
        t.head h.other = s.head h.other ∧
        t.head h = { s.head h with
          seq := { (s.head h).seq with state := if (s.head h).seq.budget = 0 then .calDue else .ready }
          plan := { (s.head h).plan with queue := rest, retained := none }
          travel := ⟨0, 0, 0⟩
          log := logWith h (.abandoned gone.length (s.head h).seq.interruptStation (s.head h).seq.cause) s }

/-- RESET HEAD (R58 and the RESET HEAD columns of R26, R60, R83, R108, R126, R141, R158, R174): refused while engaged;
otherwise every item of the head is the reset one or kept, as written here. The flags byte is that of the state with the
request's own effects, which is the model's choice (log 34). -/
def Obligations.ResetHeadClearsHead : Prop :=
  ∀ (h : Head) (s : State), s.pins.reset = false → s.present h = true →
    ((s.headState h).engaged = true → exec (.resetHead (headCode h)) s = .next (replied s 0x07 .wrongState [])) ∧
    ((s.headState h).engaged = false →
      ∃ t, exec (.resetHead (headCode h)) s = .next (replied t 0x07 .ok []) ∧
        SameRest s t ∧ t.port = s.port ∧ t.gov = s.gov.left (s.headState h.other).engaged ∧
        t.head h.other = s.head h.other ∧
        (t.head h).seq = { (s.head h).seq with
          state := if s.headState h = .uncommissioned ∨ s.headState h = .commissioning then s.headState h
            else if (s.head h).seq.budget = 0 then .calDue else .ready
          kind := .fresh, target := 0, direction := .forward, plungeStation := 0, weldEntry := 0, cause := none
          interruptStation := 0, reentryStation := 0, spinupTimer := 0, plungeTimer := 0, dwellTimer := 0
          spindle := 0, cal := ⟨none, 0, 0, 0, 0⟩ } ∧
        (t.head h).plan = ⟨[], none, none⟩ ∧ (t.head h).reg = ⟨0, false, 0, false, false, 0, 0, 0, false, 0, []⟩ ∧
        (t.head h).track = { (s.head h).track with
          queue := [], activeFirst := false, gapSlow := false, mismatchLatch := false, lossDistance := 0 } ∧
        (∀ c, (t.head h).front.get c = { (s.head h).front.get c with
          overrideOn := false, substituteOn := false, grace := 0
          fault := if c = .depth then false else ((s.head h).front.get c).fault }) ∧
        (t.head h).travel = ⟨0, 0, 0⟩ ∧
        (t.head h).log = { (s.head h).log with queue := [], acc := SampleAccumulator.clear, nextMark := none } ∧
        (t.head h).drives = (s.head h).drives ∧ (t.head h).applied = (s.head h).applied ∧
        (t.head h).profiles = (s.head h).profiles)

/-- APPEND SEGMENT (R7): WRONG_STATE in CALIBRATING, BAD_FIELD for a record outside its ranges, then the checks of R7 on
the clamped segment, PLAN_FULL and NOT_CONTIGUOUS carrying the clamp mask and the queue count (R195); past them the
segment joins the tail, and where it ends ahead of the tool of a starved head starvation ends with PLAN_RESUMED (R18,
R19). The model's choices in it: the distance used is the stored one (log 17), the flags byte is that of the state with
the request's own effects (log 34), and a head in PAUSE that is not starved does not become so by it (log 46). -/
def Obligations.AppendSegmentTaken : Prop :=
  ∀ (h : Head) (r : SegmentRecord) (s : State), s.pins.reset = false → s.present h = true →
    (s.headState h = .calibrating →
      exec (.appendSegment (headCode h) r) s = .next (replied s 0x08 .wrongState [])) ∧
    (s.headState h ≠ .calibrating → recordInRange r = false →
      exec (.appendSegment (headCode h) r) s = .next (replied s 0x08 .badField [])) ∧
    ∀ g : Segment, s.headState h ≠ .calibrating → recordInRange r = true →
      ClampedFrom (s.head h).profiles r g →
      let queue := (s.head h).plan.queue
      let mask : Nat := bit (g.force ≠ r.force) + 2 * bit (g.spindle ≠ r.spindle) + 4 * bit (g.cap ≠ r.cap) +
        8 * bit (g.windowMin ≠ r.windowMin) + 16 * bit (g.windowMax ≠ r.windowMax)
      (∀ st, firstFailure (appendChecks (s.head h).plan g) = some st →
        exec (.appendSegment (headCode h) r) s = .next (replied s 0x08 st
          (if st = .badField then [] else leBytes 1 mask ++ leBytes 1 queue.length))) ∧
      (firstFailure (appendChecks (s.head h).plan g) = none →
        let resumes : Bool := (s.head h).plan.starved.isSome && s.toolStation h < ((g.start + g.length : Nat) : Int)
        ∃ t, exec (.appendSegment (headCode h) r) s =
            .next (replied t 0x08 (if mask = 0 then .ok else .okClamped)
              (leBytes 1 mask ++ leBytes 1 ((queue.length + 1 : Nat) : Int))) ∧
          SameRest s t ∧ t.port = s.port ∧ t.gov = s.gov ∧ t.head h.other = s.head h.other ∧
          t.head h = { s.head h with
            plan := { (s.head h).plan with
              queue := queue ++ [g], starved := if resumes then none else (s.head h).plan.starved }
            log := if resumes then logWith h (.planResumed ⟨g.id, some g.zone⟩ (s.head h).plan.distanceUsed) s
              else (s.head h).log })

/-- CLEAR PLAN (R23): the queue emptied and the retained segment discarded, with the number removed in the reply; in
INTERRUPTED an ABANDONED record and READY or CAL_DUE besides; refused in any other state. The flags byte is that of the
state with the request's own effects, which is the model's choice (log 34). -/
def Obligations.ClearPlanEmptiesPlan : Prop :=
  ∀ (h : Head) (s : State), s.pins.reset = false → s.present h = true →
    let n := (s.head h).plan.queue.length
    let plan : PlanStore := { (s.head h).plan with queue := [], retained := none }
    (s.headState h = .uncommissioned ∨ s.headState h = .commissioning ∨ s.headState h = .calDue ∨
        s.headState h = .ready →
      ∃ t, exec (.clearPlan (headCode h)) s = .next (replied t 0x09 .ok (leBytes 1 n)) ∧
        SameRest s t ∧ t.port = s.port ∧ t.gov = s.gov ∧ t.head h.other = s.head h.other ∧
        t.head h = { s.head h with plan := plan }) ∧
    (s.headState h = .interrupted →
      ∃ t, exec (.clearPlan (headCode h)) s = .next (replied t 0x09 .ok (leBytes 1 n)) ∧
        SameRest s t ∧ t.port = s.port ∧ t.gov = s.gov.left (s.headState h.other).engaged ∧
        t.head h.other = s.head h.other ∧
        t.head h = { s.head h with
          seq := { (s.head h).seq with state := if (s.head h).seq.budget = 0 then .calDue else .ready }
          plan := plan
          travel := ⟨0, 0, 0⟩
          log := logWith h (.abandoned n (s.head h).seq.interruptStation (s.head h).seq.cause) s }) ∧
    ((s.headState h).engaged = true ∨ s.headState h = .calibrating →
      exec (.clearPlan (headCode h)) s = .next (replied s 0x09 .wrongState []))

/-- LOAD PROFILE: the checks of R147 in their order, the ranges field by field as R143 to R146 give them, the first that
fails giving the status and nothing else (for an unlisted set code in CALIBRATING too, the model's choice, log 40). Past
them the set is stored with its dependencies, those of the later sets and the progress (R143 to R148, R150), the plan is
clamped again for all but REGULATOR (R5, R151), the head's state and budget follow R148 and R149, and the reply carries
the clamps and the state. -/
def Obligations.LoadProfileTaken : Prop :=
  ∀ (h : Head) (load : ProfileLoad) (s : State), s.pins.reset = false → s.present h = true →
    (∀ st, firstFailure (loadChecks h load s) = some st →
      exec (.loadProfile (headCode h) load) s = .next (replied s 0x0B st [])) ∧
    (firstFailure (loadChecks h load s) = none →
    let old := (s.head h).profiles
    let st := s.headState h
    let after : HeadState :=
      if setPlace load = 0 ∧ st = .uncommissioned then .commissioning
      else if setPlace load ≤ 1 ∧ st = .ready then .calDue
      else if setPlace load = 3 ∧ old.progress = 3 then .calDue
      else st
    ∃ t new, ProfileStored old load new ∧
      (let dependent : Nat :=
          if setPlace load = 0 then bit (new.tool ≠ old.tool) + 2 * bit (new.regulator ≠ old.regulator) else 0
       exec (.loadProfile (headCode h) load) s =
        .next (replied t 0x0B (if loadClamps new load = 0 ∧ dependent = 0 then .ok else .okClamped)
          (leBytes 2 (loadClamps new load) ++ leBytes 1 dependent ++ leBytes 1 after.code))) ∧
      SameRest s t ∧ t.port = s.port ∧ t.gov = s.gov.left (s.headState h.other).engaged ∧
      t.head h.other = s.head h.other ∧
      t.head h = { s.head h with
        seq := { (s.head h).seq with
          state := after
          budget := if setPlace load ≤ 1 ∧ (st = .ready ∨ st = .calDue) then 0 else (s.head h).seq.budget }
        plan := if setPlace load = 2 then (s.head h).plan else { (s.head h).plan with
          queue := (s.head h).plan.queue.map (reclamped new)
          retained := (s.head h).plan.retained.map (reclamped new) }
        profiles := new
        travel := ⟨0, 0, 0⟩ })

/-- CALIBRATE (R153): the checks in their order, the first that fails giving the status and nothing else; past them the
head goes to CALIBRATING with its origin state kept and the accumulator at 0 (R154), and what R83 and R141 reset. That
the accumulator's minimum and maximum are 0 with it is the model's choice (log 37). -/
def Obligations.CalibrateTaken : Prop :=
  ∀ (h : Head) (s : State), s.pins.reset = false → s.present h = true →
    (∀ st, firstFailure (calibrateChecks h s) = some st →
      exec (.calibrate (headCode h)) s = .next (replied s 0x0D st [])) ∧
    (firstFailure (calibrateChecks h s) = none →
      ∃ t, exec (.calibrate (headCode h)) s = .next (replied t 0x0D .ok []) ∧
        SameRest s t ∧ t.port = s.port ∧ t.gov = s.gov.left (s.headState h.other).engaged ∧
        t.head h.other = s.head h.other ∧
        t.head h = { s.head h with
          seq := { (s.head h).seq with
            state := .calibrating, raising := false, cal := ⟨some (s.headState h), 0, 0, 0, 0⟩ }
          reg := { (s.head h).reg with forceRun := 0 }
          front := { (s.head h).front with
            torque := { (s.head h).front.torque with grace := 0 }
            temp := { (s.head h).front.temp with grace := 0 } }
          travel := ⟨0, 0, 0⟩ })

/-- SET CHANNEL (R138, R139): the checks in their order, the first that fails giving the status and nothing else; past
them the named setting of the named channel is changed, a SUBSTITUTION record stands where the enable or the stored
value changed, and the reply carries both as they now stand. The flags byte is that of the state with the request's own
effects, which is the model's choice (log 34). -/
def Obligations.SetChannelTaken : Prop :=
  ∀ (h : Head) (channel setting enable : Nat) (value : Int) (s : State), s.pins.reset = false → s.present h = true →
    (∀ st, firstFailure (channelChecks channel setting enable value) = some st →
      exec (.setChannel (headCode h) channel setting enable value) s = .next (replied s 0x0E st [])) ∧
    ∀ (c : HeadChannel) (k : Setting) (on : Bool), firstFailure (channelChecks channel setting enable value) = none →
      channel = (nameOf c).code →
      setting = k.code → enable = bit on →
      let old := ((s.head h).front.get c).settingOf k
      let stored := if on then value else old.2
      ∃ t, exec (.setChannel (headCode h) channel setting enable value) s =
          .next (replied t 0x0E .ok (leBytes 1 enable ++ leBytes 2 stored)) ∧
        SameRest s t ∧ t.port = s.port ∧ t.gov = s.gov ∧ t.head h.other = s.head h.other ∧
        (∀ x, (t.head h).front.get x =
          if x = c then withEnable ((s.head h).front.get c) k on value else (s.head h).front.get x) ∧
        t.head h = { s.head h with
          front := (t.head h).front
          log := if on ≠ old.1 ∨ stored ≠ old.2 then
              logWith h (.substitution (nameOf c) k on stored (s.headState h)) s
            else (s.head h).log }

/-- READ RECORDS (R169, R165, R170): up to nine of the oldest records leave the queue and are answered oldest first,
after the level and the three flags as they stood before; the flags byte of the reply shows the level after. Every
record has the 24 bytes of R198. The model's choices in these bytes: a distance used below 0 stands in bytes 6 to 8 of
PLAN_RESUMED in two's complement (log 36), and the zone that every record naming a segment holds (R14) is shown by
SEGMENT_END alone, the bytes that R198 leaves unassigned being 0 (log 43). -/
def Obligations.ReadRecordsDrainsQueue : Prop :=
  ∀ (h : Head) (count : Nat) (s : State), s.pins.reset = false → s.present h = true →
    let q := (s.head h).log.queue
    let n := min count 9
    ∃ t, exec (.readRecords (headCode h) count) s =
        .next (replied t 0x11 (if 9 < count then .okClamped else .ok)
          (leBytes 2 q.length ++
           leBytes 1 (bit (s.threshold h ≤ q.length) + 2 * bit (960 ≤ s.commonUsed) + 4 * bit q.isEmpty : Nat) ++
           leBytes 1 (min n q.length : Nat) ++ (q.take n).flatMap LogRecord.bytes)) ∧
      SameRest s t ∧ t.port = s.port ∧ t.gov = s.gov ∧ t.head h.other = s.head h.other ∧
      t.head h = { s.head h with log := { (s.head h).log with queue := q.drop n } } ∧
      ∀ r ∈ q, LaidOut r r.bytes

/-- SET LOG and READ COUNTERS. SET LOG (R171): a value outside its range is refused and the settings stay; otherwise all
three are replaced and answered, and every head keeps its next pitch mark; the flags byte is by the new thresholds, the
model's choice (log 34). READ COUNTERS (R173): a scope of 0 or 1 answers the sixteen counters of head A or B, 2 the six
line counters, u32 each in the order of R172 (R195), and a clear byte other than 0 sets them to 0 once answered; scope 1
with head B absent is NO_HEAD, any other BAD_FIELD. -/
def Obligations.LogRequestsTaken : Prop :=
  (∀ (pitch a b : Nat) (s : State), s.pins.reset = false →
     let good := 20 ≤ pitch ∧ pitch ≤ 500 ∧ 64 ≤ a ∧ a ≤ 896 ∧ 64 ≤ b ∧ b ≤ 896
     (¬good → exec (.setLog pitch a b) s = .next (replied s 0x10 .badField [])) ∧
     (good → exec (.setLog pitch a b) s =
       .next (replied { s with settings := ⟨pitch, a, b⟩ } 0x10 .ok (leBytes 2 pitch ++ leBytes 2 a ++ leBytes 2 b)))) ∧
  ∀ (clear : Nat) (s : State), s.pins.reset = false →
    (∀ h, s.present h = true →
      let c := (s.head h).log.counters
      let t := replied s 0x12 .ok ([c.seamsCompleted, c.seamsInterrupted, c.reentries, c.segmentsCompleted,
        c.saturatedSamples, c.excursions, c.pauses, c.pauseLimitInterrupts, c.trackAccepted, c.trackStale,
        c.trackOutOfOrder, c.trackFull, c.trackLowQuality, c.trackLosses, c.recordsLost,
        c.sensorFaults].flatMap fun n => leBytes 4 (n : Nat))
      exec (.readCounters (headCode h) clear) s = .next (if clear = 0 then t else
        t.onLog h fun l => { l with counters := ⟨0, 0, 0, 0, 0, 0, 0, 0, 0, 0, 0, 0, 0, 0, 0, 0⟩ })) ∧
    (s.straps.headB = false → exec (.readCounters 1 clear) s = .next (replied s 0x12 .noHead [])) ∧
    (let l := s.lines
     let t := replied s 0x12 .ok ([l.framesTaken, l.badCheck, l.framingErrors, l.truncatedFrames, l.breaks,
       l.badTrackReports].flatMap fun n => leBytes 4 (n : Nat))
     exec (.readCounters 2 clear) s =
       .next (if clear = 0 then t else { t with lines := ⟨0, 0, 0, 0, 0, 0⟩ })) ∧
    ∀ scope, 3 ≤ scope → exec (.readCounters scope clear) s = .next (replied s 0x12 .badField [])

/-- RESET DEVICE (R189): with a head engaged it is refused, or discarded as a broadcast; otherwise the addressed one
composes its reply and leaves the reset to the reply's end or discard, and the broadcast one resets at once. What the
power-on state holds where the manual is silent is the model's choice (log 9, log 10, log 13, log 37). -/
def Obligations.ResetDeviceDefersReset : Prop :=
  ∀ s : State, s.pins.reset = false →
    let engaged := (s.headState .a).engaged || (s.headState .b).engaged
    (engaged = true → exec (.resetDevice false) s = .next (replied s 0x13 .wrongState []) ∧
      exec (.resetDevice true) s = .next s) ∧
    (engaged = false →
      (∃ t, exec (.resetDevice false) s = .next t ∧
        t = { replied s 0x13 .ok [] with port := { (replied s 0x13 .ok []).port with resetDeferred := true } }) ∧
      exec (.resetDevice true) s = .next (State.powerOn s.pins s.straps s.free s.pending))

/-! ### Pins, breaks and the control line -/

/-- The RESET input and the deferred reset (R189, R190): asserted, the commands are presented as 0, the travel output is
released and the port is quiet; negated, the straps are sampled and every block takes its power-on state; a deferred
device reset keeps the straps, and takes place once no reply waits or is being sent. The pins, the queue and the model's
counter stay. The model's choices in it: what the asserted input does to the rest of the state (log 12), and the
power-on values of raw values, valid indications, drive inputs and presented commands (log 9), of the calibration
accumulator's minimum and maximum (log 37), of the origin and the tool station as taken (log 10), and of the break
detector by the line's level (log 13). -/
def Obligations.ResetInputPowersOn : Prop :=
  (∀ s : State, ∃ t, exec .resetInputAsserted s = .next t ∧ t.pins = { s.pins with reset := true } ∧
    (∀ h, t.head h = { s.head h with applied := ⟨0, 0, 0⟩ }) ∧
    t.gov = { s.gov with owned := false, speed := 0 } ∧
    t.port = { s.port with rx := .waitAddress, transmit := none } ∧
    t.gantry = s.gantry ∧ t.settings = s.settings ∧ t.lines = s.lines ∧ t.tracker = s.tracker ∧ t.straps = s.straps) ∧
  (∀ (straps : Straps) (s : State), ∃ t, exec (.resetInputNegated straps) s = .next t ∧ t.straps = straps ∧
    t.pins = { s.pins with reset := false } ∧ t.unitA = HeadUnit.powerOn ∧ t.unitB = HeadUnit.powerOn ∧
    t.gov = ⟨false, 0, .forward, none, false⟩ ∧ t.gantry = Channel.powerOn ∧ t.settings = ⟨100, 480, 480⟩ ∧
    t.lines = ⟨0, 0, 0, 0, 0, 0⟩ ∧ t.port = Port.powerOn s.pins.lineLow ∧ t.tracker = .hunt ∧ t.pending = s.pending) ∧
  ∀ s : State, s.pins.reset = false →
    exec .resetTakesPlace s =
      .next (if s.port.resetDeferred ∧ s.port.pendingReply = none ∧ s.port.rx ≠ .replying then
          State.powerOn s.pins s.straps s.free s.pending
        else s)

/-- The halt events (R56, R182, R191): the HALT input going asserted, and a line break that the ARMED detector finds
while the port is not sending and no device reset is deferred, which is counted, spends the detector and drops the
pending reply and any frame. Each present head takes the event. The input asserted again or negated, and a break under a
spent detector, are no event; the line's return to 1 arms the detector. A break that discards the reply of a device
reset brings that reset and is not kept (R189; its power-on state: log 9, log 10, log 13, log 37). The model's choices
in it: the line's level as state (log 13), the segment id and the place of an INTERRUPT record (log 15, log 16), and of
two heads in WELD the second pauses before it takes the halt (log 38). -/
def Obligations.HaltEventsHaltHeads : Prop :=
  ∀ (first : Head) (s : State), s.pins.reset = false → (∀ h, (s.head h).seq.OriginKept) →
    (s.pins.halt = false →
      ∃ t, exec (.haltInputAsserted first) s = .next t ∧ t.port = s.port ∧
        EachHead first (fun h => HaltTaken h .haltInput) { s with pins := { s.pins with halt := true } } t) ∧
    (s.pins.halt = true → exec (.haltInputAsserted first) s = .next s) ∧
    exec .haltInputNegated s = .next { s with pins := { s.pins with halt := false } } ∧
    (s.port.rx ≠ .replying → s.port.armed = true → s.port.resetDeferred = false →
      ∃ t, exec (.lineBreak first) s = .next t ∧
        EachHead first (fun h => HaltTaken h .lineBreak)
          { s with
            pins := { s.pins with lineLow := true }
            lines := { s.lines with breaks := bump s.lines.breaks }
            port := { s.port with
              rx := .waitAddress, frame := FrameBuffer.empty, pendingReply := none, armed := false } } t) ∧
    (s.port.rx ≠ .replying → s.port.armed = true → s.port.resetDeferred = true →
      exec (.lineBreak first) s =
        .next (State.powerOn { s.pins with lineLow := true } s.straps s.free s.pending)) ∧
    (s.port.rx ≠ .replying → s.port.armed = false →
      exec (.lineBreak first) s = .next { s with pins := { s.pins with lineLow := true } }) ∧
    exec .breakDetectorRearm s =
      .next { s with pins := { s.pins with lineLow := false }, port := { s.port with silence := 0, armed := true } }

/-- An address character (R178, R180): any pending reply is discarded, a frame in RECEIVING is counted as truncated, and
the character begins a frame where it is this device's address or the broadcast address. One that discards the reply of
a device reset brings that reset and is lost (R189; its power-on state: log 9, log 10, log 13, log 37). While the line
is held at 0 no character comes (R175). -/
def Obligations.AddressCharacterBeginsFrame : Prop :=
  ∀ (d : Byte) (s : State), s.pins.reset = false → s.port.rx ≠ .replying →
    (s.pins.lineLow = true → exec (.addressCharacter d) s = .next s) ∧
    (s.pins.lineLow = false → s.port.resetDeferred = true →
      exec (.addressCharacter d) s = .next (State.powerOn s.pins s.straps s.free s.pending)) ∧
    (s.pins.lineLow = false → s.port.resetDeferred = false →
      exec (.addressCharacter d) s = .next { s with
        lines := { s.lines with truncatedFrames :=
          if s.port.rx = .receiving then bump s.lines.truncatedFrames else s.lines.truncatedFrames }
        port := { s.port with
          pendingReply := none
          silence := 0
          rx := if d.toNat = s.straps.address.toNat ∨ d.toNat = 0x0F then .receiving else .waitAddress
          frame := if d.toNat = s.straps.address.toNat ∨ d.toNat = 0x0F then ⟨d, 0, 0, [], d, 1⟩
            else FrameBuffer.empty } })

/-- Characters between the address and the check (R178 to R180). A data character is ignored in WAIT_ADDRESS but for
the silence time; in RECEIVING it is the kind, the length, or a payload character of which at most 240 are stored, and
it enters the check and the count. A framing error and the silence timeout abandon a frame in RECEIVING, each under
its own line counter. While the line is held at 0 no character comes, the check character included (R175). -/
def Obligations.FrameCollectedOrAbandoned : Prop :=
  ∀ (d : Byte) (first : Head) (s : State), s.pins.reset = false →
    (s.pins.lineLow = true → exec (.dataCharacter d first) s = .next s ∧
      exec .controlFramingError s = .next s ∧ exec (.frameComplete d first) s = .next s) ∧
    (s.port.rx = .waitAddress →
      exec .frameSilenceTimeout s = .next s ∧
      (s.pins.lineLow = false →
        exec (.dataCharacter d first) s = .next { s with port := { s.port with silence := 0 } } ∧
        exec .controlFramingError s = .next { s with port := { s.port with silence := 0 } })) ∧
    (s.port.rx = .receiving → s.pins.lineLow = false → 1 ≤ s.port.frame.count →
        s.port.frame.count ≠ 3 + s.port.frame.length.toNat ∨ s.port.frame.count < 3 →
      ∃ f, exec (.dataCharacter d first) s = .next { s with port := { s.port with silence := 0, frame := f } } ∧
        f.address = s.port.frame.address ∧ f.check = s.port.frame.check ^^^ d ∧ f.count = s.port.frame.count + 1 ∧
        f.kind = (if s.port.frame.count = 1 then d else s.port.frame.kind) ∧
        f.length = (if s.port.frame.count = 2 then d else s.port.frame.length) ∧
        f.payload = (if 3 ≤ s.port.frame.count ∧ s.port.frame.count < 3 + s.port.frame.length.toNat ∧
            s.port.frame.payload.length < 240 then s.port.frame.payload ++ [d] else s.port.frame.payload)) ∧
    (s.port.rx = .receiving →
      (s.pins.lineLow = false → exec .controlFramingError s = .next { s with
        lines := { s.lines with framingErrors := bump s.lines.framingErrors }
        port := { s.port with rx := .waitAddress, frame := FrameBuffer.empty, silence := 0 } }) ∧
      ∃ n, exec .frameSilenceTimeout s = .next { s with
        lines := { s.lines with truncatedFrames := bump s.lines.truncatedFrames }
        port := { s.port with rx := .waitAddress, frame := FrameBuffer.empty, silence := n } })

/-- The check character of a frame (R181): a bad check is counted, answered BAD_CHECK with the kind as received when
the frame is this device's, and has no other effect. FRAME_COMPLETE and DATA_CHARACTER at that place are one event
(the model's choice, log 27). -/
def Obligations.BadCheckAnswered : Prop :=
  ∀ (d : Byte) (first : Head) (s : State), s.pins.reset = false → s.pins.lineLow = false →
    s.port.rx = .receiving →
    s.port.frame.count = 3 + s.port.frame.length.toNat →
    exec (.dataCharacter d first) s = exec (.frameComplete d first) s ∧
    (s.port.frame.check ≠ d →
      let t : State := { s with
        lines := { s.lines with badCheck := bump s.lines.badCheck }
        port := { s.port with rx := .waitAddress, frame := FrameBuffer.empty, silence := 0 } }
      exec (.frameComplete d first) s =
        .next (if s.port.frame.address = 0x0F then t else replied t s.port.frame.kind .badCheck []))

/-- A good frame is counted and dispatched (R181, R183, R184): one for this device, of a kind from 0x01 to 0x13 and the
length that R195 and R196 require, is the request it spells, taken on the counted state; an unknown kind and a bad
length are answered so (a LOAD PROFILE without a set code among the bad lengths, the model's choice, log 30); a
broadcast STOP SEAM or RESET DEVICE of the right length is taken, and any other broadcast is dropped. -/
def Obligations.GoodFrameDispatched : Prop :=
  ∀ (d : Byte) (first : Head) (s : State), s.pins.reset = false → s.pins.lineLow = false →
    s.port.rx = .receiving →
    s.port.frame.count = 3 + s.port.frame.length.toNat → s.port.frame.check = d →
    let f := s.port.frame
    let t : State := { s with
      lines := { s.lines with framesTaken := bump s.lines.framesTaken }
      port := { s.port with rx := .waitAddress, frame := FrameBuffer.empty, silence := 0 } }
    let kind := f.kind.toNat
    (f.address ≠ 0x0F → kind = 0 ∨ 0x13 < kind →
      exec (.frameComplete d first) s = .next (replied t f.kind .unknownKind [])) ∧
    (f.address ≠ 0x0F → 1 ≤ kind → kind ≤ 0x13 → lengthFits kind f.length.toNat f.payload = false →
      exec (.frameComplete d first) s = .next (replied t f.kind .badLength [])) ∧
    (f.address ≠ 0x0F → 1 ≤ kind → kind ≤ 0x13 → lengthFits kind f.length.toNat f.payload = true →
      ∃ i, decodeRequest f.kind f.payload = some i ∧ exec (.frameComplete d first) s = exec i t) ∧
    (f.address = 0x0F →
      exec (.frameComplete d first) s =
        if f.kind = 0x04 ∧ f.length = 1 then exec (.stopSeam (.broadcast first)) t
        else if f.kind = 0x13 ∧ f.length = 0 then exec (.resetDevice true) t
        else .next t)

/-- A reply and its sending (R185 to R187). Its characters are the address character, with mark bit 1, then kind,
length, status, flags byte, data and check, with mark bit 0. It starts in WAIT_ADDRESS with the line at 1, moving to the
transmit buffer; at its end the buffer is cleared and the port waits, and a deferred device reset whose reply it was
takes place with that command (R189). The model's choices in it: it is this command and not RESET_TAKES_PLACE (log 22),
a further pending reply holds the reset back (log 24), and what the power-on state holds where the manual is silent (log
9, log 10, log 13, log 37). While it is sent the port hears nothing, and nothing shortens it. -/
def Obligations.ReplySentToItsEnd : Prop :=
  ∀ s : State, s.pins.reset = false →
    (∀ kind st d,
      let flags : Nat := bit (s.threshold .a ≤ s.level .a) + 2 * bit (s.straps.headB ∧ s.threshold .b ≤ s.level .b) +
        4 * bit s.pins.halt + 8 * bit s.straps.headB
      let address : Byte := BitVec.ofNat 8 (0x80 + s.straps.address.toNat)
      let rest : List Byte := [kind, BitVec.ofNat 8 (2 + d.length), st.code, BitVec.ofNat 8 flags] ++ d
      (replied s kind st d).port.pendingReply =
        some (⟨true, address⟩ :: (rest ++ [(address :: rest).foldl (· ^^^ ·) 0]).map fun b => ⟨false, b⟩)) ∧
    (∀ r, s.port.rx = .waitAddress → s.port.pendingReply = some r → s.pins.lineLow = false →
      ∃ n, exec .replyStart s =
        .next { s with port := { s.port with
          rx := .replying, transmit := some r, pendingReply := none, silence := n } }) ∧
    (s.port.rx = .replying →
      let t : State := { s with port := { s.port with rx := .waitAddress, transmit := none, silence := 0 } }
      exec .replyEnd s =
        .next (if s.port.resetDeferred ∧ s.port.pendingReply = none then
            State.powerOn s.pins s.straps s.free s.pending
          else t)) ∧
    (s.port.rx = .replying → ∀ d first, exec (.addressCharacter d) s = .next s ∧
      exec (.dataCharacter d first) s = .next s ∧ exec .controlFramingError s = .next s ∧
      exec (.lineBreak first) s = .next s ∧ exec .resetTakesPlace s = .next s)

/-! ### The tracker line -/

/-- The tracker line's receiver short of a complete report (R109): in HUNT only the sync value is kept; in COLLECTING
a character is kept, and a framing error or a silence abandons the report as a bad one. The twelfth character and its
arrival are one event (the model's choice, log 28). -/
def Obligations.TrackerReceiverCollects : Prop :=
  ∀ (d : Byte) (s : State), s.pins.reset = false →
    (s.tracker = .hunt →
      exec (.trackerCharacter d) s = .next (if d = 0xA5 then { s with tracker := .collecting [d] } else s) ∧
      exec .trackFramingError s = .next s ∧ exec .trackSilenceTimeout s = .next s) ∧
    ∀ kept, s.tracker = .collecting kept →
      (kept.length < 11 → exec (.trackerCharacter d) s = .next { s with tracker := .collecting (kept ++ [d]) }) ∧
      (kept.length = 11 → kept.head? = some 0xA5 →
        exec (.trackerCharacter d) s = exec (.trackReportArrival [d]) s) ∧
      (let t : State := { s with
        tracker := .hunt, lines := { s.lines with badTrackReports := bump s.lines.badTrackReports } }
       exec .trackFramingError s = .next t ∧ exec .trackSilenceTimeout s = .next t)

/-- The arrival of a report of twelve characters (R109 to R111, R197), all of them with the command in HUNT, or those that
complete the ones kept in COLLECTING; the receiver goes to HUNT. What is no report of a present head with its fields in
range and a good check is a bad report; the report of an entry is put through the tests of R111 in their order, which
decide what is counted and whether the entry joins the tail of the head's queue. Nothing else changes and no record is
written. -/
def Obligations.TrackReportAccepted : Prop :=
  ∀ (kept rest : List Byte) (s : State), s.pins.reset = false →
    (s.tracker = .hunt ∧ kept = [] ∨ s.tracker = .collecting kept) →
    let idle : State := { s with tracker := .hunt }
    ((kept ++ rest).length = 12 → (kept ++ rest).head? = some 0xA5 →
      (∀ h e, e.inRange → kept ++ rest = reportOf h e → s.present h = false) →
      exec (.trackReportArrival rest) s =
        .next { idle with lines := { s.lines with badTrackReports := bump s.lines.badTrackReports } }) ∧
    ∀ h e, e.inRange → s.present h = true → kept ++ rest = reportOf h e →
      let q := (s.head h).seq
      let track := (s.head h).track
      let counted (f : HeadCounters → HeadCounters) : Host.Outcome State Fault Refusal :=
        .next (idle.onLog h fun l => { l with counters := f l.counters })
      exec (.trackReportArrival rest) s =
        if !((q.state == .approach && q.direction == .forward) || q.state == .spinup || q.state.inMaterial) then
          .next idle
        else if e.quality < 4 then counted fun c => { c with trackLowQuality := bump c.trackLowQuality }
        else if e.station ≤ track.toolStation then counted fun c => { c with trackStale := bump c.trackStale }
        else if track.queue.getLast?.any (fun l => e.station < l.station) then
          counted fun c => { c with trackOutOfOrder := bump c.trackOutOfOrder }
        else if track.queue.getLast?.any (fun l => e.station < l.station + (s.head h).tool.trackPitch) then .next idle
        else if 128 ≤ track.queue.length then counted fun c => { c with trackFull := bump c.trackFull }
        else .next ((idle.onTrack h fun t => { t with queue := t.queue ++ [e] }).onLog h fun l =>
          { l with counters := { l.counters with trackAccepted := bump l.counters.trackAccepted } })

/-! ### The head sample -/

/-- Every head sample of a present head (R127, R128, R130, R132, R136, R137, R112): each channel is converted with the
settings as they stand, with its grace count (R133); each fault onset is counted and recorded; the drive inputs are
read, at-speed in SPINUP only (log 32); the tool station and the seam origin are taken (log 10); and the outputs are
presented as the blocks hold them at its end. Of the other head only the sequencer state, the governor's items and the
log may change. -/
def Obligations.HeadSampleConverts : Prop :=
  ∀ (h : Head) (inp : SampleInput) (order : SampleOrder) (s : State), s.pins.reset = false → s.present h = true →
    inp.wellFormed = true →
    let bad (c : HeadChannel) : Bool := match c with
      | .force => !inp.force.connected || inp.force.reading ≤ -2000 || 8000 ≤ inp.force.reading
      | .torque => !inp.torque.connected || inp.torque.reading ≤ -500 || 6500 ≤ inp.torque.reading
      | .temp => !inp.temp.connected || inp.temp.reading ≤ -50 || 850 ≤ inp.temp.reading
      | .depth => !inp.depth.connected || inp.depth.jumped
    let onsets : List HeadChannel :=
      [HeadChannel.force, .torque, .temp, .depth].filter fun c => bad c && !((s.head h).front.get c).fault
    ∃ t, exec (.headSample h inp order) s = .next t ∧ SameRest s t ∧ t.port = s.port ∧
      (t.head h.other).plan = (s.head h.other).plan ∧ (t.head h.other).reg = (s.head h.other).reg ∧
      (t.head h.other).track = (s.head h.other).track ∧ (t.head h.other).front = (s.head h.other).front ∧
      (t.head h.other).drives = (s.head h.other).drives ∧ (t.head h.other).applied = (s.head h.other).applied ∧
      (t.head h.other).profiles = (s.head h.other).profiles ∧
      (t.head h).profiles = (s.head h).profiles ∧
      (t.head h).drives =
        ⟨inp.spindleReady, if s.headState h = .spinup then inp.atSpeed else (s.head h).drives.atSpeed, inp.plungeReady,
          inp.lateralReady, inp.travelReady⟩ ∧
      (∀ tool, (s.head h).profiles.tool = some tool → (t.head h).seq.originTaken = (tool.seamOrigin : Int)) ∧
      (t.head h).track.toolStation = t.toolStation h ∧
      (t.head h).applied = ⟨(t.head h).seq.spindle, (t.head h).seq.depth, (t.head h).track.lateralCommand⟩ ∧
      (t.head h).log.counters.sensorFaults = bump^[onsets.length] (s.head h).log.counters.sensorFaults ∧
      (CommonRoom s → ∀ c ∈ onsets, ∃ kind, faultOf inp c = some kind ∧
        Recorded h (.sensorFault (nameOf c) kind (readingOf inp c) ((s.head h).front.get c).substituteOn
          (s.headState h)) t) ∧
      ∀ c, (let old := (s.head h).front.get c
        let new := (t.head h).front.get c
        new.raw = readingOf inp c ∧ new.valid = !bad c ∧ new.fault = (bad c || (c == .depth && old.fault)) ∧
        new.overrideOn = old.overrideOn ∧ new.overrideOffset = old.overrideOffset ∧
        new.substituteOn = old.substituteOn ∧ new.substitute = old.substitute ∧
        (c ≠ .force ∨ s.headState h ≠ .calibrating → new.offset = old.offset) ∧
        new.effective =
          (if old.substituteOn then old.substitute
           else if new.fault then old.lastValid
           else max (scaleOf c).effLo (min (scaleOf c).effHi
             (new.raw + if old.overrideOn then old.overrideOffset else old.offset))) ∧
        new.grace = (if (c = .torque ∨ c = .temp) ∧ (s.headState h).inMaterial ∧ bad c ∧ !old.substituteOn then
            min (old.grace + 1) 250 else 0) ∧
        new.lastValid = if old.substituteOn || !new.fault then new.effective else old.lastValid)

/-- What the sequencer does of its own at a head sample outside WELD and PAUSE. In a non-engaged state other than
CALIBRATING, with TOOL loaded and no fault (R31, R30), a command deeper than the clearance height is raised by the ramp
at the retract rate, its accumulator set to 499 at the first such sample (how that is known: the model's choice, log
20), and any other command is held. In SPINUP, PLUNGE and DWELL the timers run down by 2 ms, the plunge ramp moves
unless the force exceeds the plunge force limit, and the head stays only while nothing ends the state (R38, R40 to R42).
In EXIT and INTERRUPTING the tool is raised and the state ends at the clearance height (R44, R47). In CALIBRATING a
valid FORCE reading is added and an invalid one aborts (R154, R156). That with split on an end of SPINUP, PLUNGE or
DWELL, a complete retract and the 256th reading are left to their own rows, sent next, is the model's choice (log 4). -/
def Obligations.SequencerWorksAtSample : Prop :=
  (∀ (h : Head) (inp : SampleInput) (order : SampleOrder) (tool : ToolSet) (s : State), s.pins.reset = false →
     s.present h = true → (s.headState h).engaged = false → s.headState h ≠ .calibrating →
     (s.head h).profiles.tool = some tool → (∀ c, faultOf inp c = none) →
     let q := (s.head h).seq
     let goal : Int := -(tool.clearance : Int)
     let sum := (if q.raising then q.rampAcc else 499) + tool.retractRate
     let depth := if goal < q.depth then max goal (q.depth - (sum / 500 : Nat)) else q.depth
     ∃ t, exec (.headSample h inp order) s = .next t ∧ t.gov = s.gov ∧ t.head h.other = s.head h.other ∧
       (t.head h).seq = { q with
         originTaken := (tool.seamOrigin : Nat)
         depth := depth
         rampAcc := if goal < q.depth then sum % 500 else q.rampAcc
         raising := decide (goal < depth) } ∧
       (t.head h).plan = (s.head h).plan ∧ (t.head h).log = (s.head h).log ∧
       (t.head h).travel = (s.head h).travel ∧ (t.head h).reg = { (s.head h).reg with forceRun := 0 } ∧
       (t.head h).track.lateralCommand = (s.head h).track.lateralCommand) ∧
  ∀ (h : Head) (inp : SampleInput) (order : SampleOrder) (s : State), s.pins.reset = false → s.present h = true →
    ∃ t, exec (.headSample h inp order) s = .next t ∧
    let q := (s.head h).seq
    let tool := (s.head h).tool
    let u := t.head h
    let spindle : Prop := ∀ g, (s.head h).plan.inForce = some g → u.seq.spindle = g.spindle
    let first : Prop := order.acts.head? = some .sequence ∧ order.split = false
    let ended : HeadState := if q.kind = .fresh then .ready else .interrupted
    let plunged := if (tool.plungeForceLimit : Int) < u.front.force.effective then (q.rampAcc, q.depth)
      else rampedTo q.rampAcc q.depth tool.plungeDepth tool.plungeRate
    let raised := rampedTo q.rampAcc q.depth (-(tool.clearance : Int)) tool.retractRate
    let clear : Prop := raised.2 = -(tool.clearance : Int) ∧ order.split = false
    (s.headState h = .spinup →
      (t.headState h = .spinup → u.seq.spinupTimer = q.spinupTimer - 2 ∧ u.seq.depth = q.depth ∧
        u.seq.spindle = q.spindle ∧ (order.split = false → inp.atSpeed = false ∧ 2 < q.spinupTimer)) ∧
      (first → inp.atSpeed = true → t.headState h = .plunge) ∧
      (first → inp.atSpeed = false → q.spinupTimer ≤ 2 → t.headState h = ended ∧ u.seq.spindle = 0)) ∧
    (s.headState h = .plunge →
      (t.headState h = .plunge → u.seq.plungeTimer = q.plungeTimer - 2 ∧ (u.seq.rampAcc, u.seq.depth) = plunged ∧
        spindle ∧ (order.split = false → plunged.2 ≠ (tool.plungeDepth : Int) ∧ 2 < q.plungeTimer)) ∧
      (first → plunged.2 = (tool.plungeDepth : Int) →
        u.seq.dwellTimer = (tool.dwell : Int) ∧ (t.headState h = .dwell ∨ t.headState h = .interrupting)) ∧
      (first → plunged.2 ≠ (tool.plungeDepth : Int) → q.plungeTimer ≤ 2 →
        t.headState h = .interrupting ∧ u.seq.cause = some .plungeTimeout)) ∧
    (s.headState h = .dwell →
      (t.headState h = .dwell → u.seq.dwellTimer = q.dwellTimer - 2 ∧ u.seq.depth = q.depth ∧ spindle ∧
        (order.split = false → 2 < q.dwellTimer)) ∧
      (first → q.dwellTimer ≤ 2 → t.headState h ≠ .dwell ∧ u.seq.weldEntry = t.toolStation h)) ∧
    (s.headState h = .exit →
      (u.seq.rampAcc, u.seq.depth) = raised ∧
      (clear → t.headState h = (if q.budget = 0 then .calDue else .ready) ∧ u.seq.spindle = 0) ∧
      (¬clear → t.headState h = .exit ∧ u.seq.spindle = if inp.spindleReady then q.spindle else 0)) ∧
    (s.headState h = .interrupting →
      (u.seq.rampAcc, u.seq.depth) = raised ∧
      (clear → t.headState h = .interrupted ∧ u.seq.spindle = 0 ∧ u.track.queue = []) ∧
      (¬clear → t.headState h = .interrupting ∧ u.seq.spindle = if inp.spindleReady then q.spindle else 0)) ∧
    (s.headState h = .calibrating → q.OriginKept →
      (u.front.force.valid = false → t.headState h = q.origin ∧ u.seq.cal = ⟨none, 0, 0, 0, 0⟩) ∧
      (u.front.force.valid = true → q.cal.count < 255 ∨ q.cal.count = 255 ∧ order.split = true →
        t.headState h = .calibrating ∧
        u.seq.cal = ⟨q.cal.origin, q.cal.count + 1, q.cal.sum + u.front.force.raw,
          if q.cal.count = 0 then u.front.force.raw else min q.cal.least u.front.force.raw,
          if q.cal.count = 0 then u.front.force.raw else max q.cal.greatest u.front.force.raw⟩) ∧
      (u.front.force.valid = true → q.cal.count = 255 → order.split = false →
        t.headState h = q.origin ∨ t.headState h = .ready))

/-- A head sample in WELD or PAUSE with a segment in force, in every order that takes the regulator's work first (R64 to
R71, R76, R77): the thermal factor, the target force, the error, the increment rounded half away from zero, the slew,
the entry clamp of the first sample, and the depth window; a saturated sample in the segment's count and in the counter;
the excursion run, its peak and its latch; an excursion has its record and its count at the sample with split off, and
with split on it is held, as found, for its own row, which is the model's choice (log 4); and, while the head keeps its
state, the spindle command of the segment in force (R29), that of a segment newly in force where the order puts the
station check first. -/
def Obligations.WeldSampleRegulates : Prop :=
  ∀ (h : Head) (inp : SampleInput) (order : SampleOrder) (g : Segment) (s : State), s.pins.reset = false →
    s.present h = true → (s.headState h).welding = true → (s.head h).plan.inForce = some g →
    (order.acts = [] ∨ order.acts.head? = some .regulator) →
    ∃ t, exec (.headSample h inp order) s = .next t ∧
      (let r := (s.head h).regulator
       let x := (s.head h).reg
       let u := t.head h
       let factor : Int :=
         if u.front.temp.effective ≤ r.softTemp then 1000
         else max 700 (1000 - r.thermalSlope * (u.front.temp.effective - r.softTemp))
       let full : Int := g.force * factor / 1000
       let target : Int := if s.headState h = .pause then full * r.pauseFactor / 1000 else full
       let e : Int := target - max (-1000) (min 7000 u.front.force.effective)
       let prev : Int := if x.firstSample then e else x.ePrev
       let n : Int := r.kp * (e - prev) + r.ki * e
       let window (d : Int) : Int := max (g.windowMin : Int) (min (g.windowMax : Int) d)
       let entry : Int := if x.firstSample then window (s.head h).seq.depth else (s.head h).seq.depth
       ∃ i : Int, 2 * (256 * i - n).natAbs ≤ 256 ∧ (2 * (256 * i - n).natAbs = 256 → n.natAbs < 256 * i.natAbs) ∧
         (let limited : Int := max (-(r.slew : Int)) (min (r.slew : Int) i)
          let saturated : Bool := entry ≠ (s.head h).seq.depth ∨ window (entry + limited) ≠ entry + limited
          let beyond : Bool := r.excursionBand < e.natAbs
          let run : Nat := if beyond then min (x.excursionRun + 1) 65535 else 0
          let latch : Bool := beyond && x.excursionLatch
          let peak : Nat := if beyond then max x.excursionPeak e.natAbs else 0
          let due : Bool := r.excursionLength < run && !latch
          let found : Excursion :=
            ⟨⟨g.id, some g.zone⟩, s.headState h, peak, run, decide (e < 0), t.toolStation h⟩
          u.reg.target = target ∧ u.reg.ePrev = e ∧ u.reg.firstSample = false ∧
          u.seq.depth = window (entry + limited) ∧
          u.reg.slewLimited = decide (limited ≠ i) ∧
          u.reg.saturated = saturated ∧
          u.log.counters.saturatedSamples =
            (if saturated then bump (s.head h).log.counters.saturatedSamples
             else (s.head h).log.counters.saturatedSamples) ∧
          (u.plan.queue = (s.head h).plan.queue →
            u.reg.saturationCount = if saturated then min (x.saturationCount + 1) 65535 else x.saturationCount) ∧
          u.reg.excursionRun = run ∧
          u.reg.excursionPeak = peak ∧
          u.reg.excursionLatch = (latch || due) ∧
          u.log.counters.excursions =
            (if due && !order.split then bump (s.head h).log.counters.excursions
             else (s.head h).log.counters.excursions) ∧
          u.reg.excursionsHeld = x.excursionsHeld ++ (if due && order.split then [found] else []) ∧
          (CommonRoom s → due = true → order.split = false →
            Recorded h (.excursion ⟨g.id, some g.zone⟩ (s.headState h) peak run (decide (e < 0)) (t.toolStation h)) t) ∧
          ∀ n, t.headState h = s.headState h → u.plan.inForce = some n → n = g ∨ order.acts = [] →
            u.seq.spindle = n.spindle))

/-- The plan store's work at a head sample. First, the station check at a head sample in WELD whose order takes it first,
or as the default order does, at which no force limit is taken before it (R10 to R12, R16, R17, R44). The segments of the queue whose end is not ahead of the tool
are completed up to an EXIT segment: each leaves the queue, is retained, and has its SEGMENT_END record, the first with
the saturation count (R14, R72); only an EXCURSION of the same sample may stand before them. A completed EXIT segment
ends the seam: SEAM_END, EXIT with a new ramp, the spindle held, the lookahead queue emptied, the gantry stopped. A
CONTINUE segment that empties the queue starves the head, with STARVED; the distance used is taken anew, and an
exhausted allowance interrupts with PLAN_STARVED. Every record that names a segment holds its zone (R14). The model's
choices in it: SEAM_END takes its slot of the pool before the other head's PAUSE_BEGIN (log 16), and of a head starved
before the sample the stations are checked before its allowance (log 45). Second, in every order: a sample in another
state completes no segment and leaves queue and retained segment as they were, but for the sample that ends the dwell of
a re-entry (DwellEndsInWeld); and in PAUSE a starved head has its distance used taken anew and its allowance tested,
while a head that is not starved does not become so, which is the model's choice (log 46). -/
def Obligations.WeldSampleChecksStation : Prop :=
 (∀ (h : Head) (inp : SampleInput) (order : SampleOrder) (gone rest : List Segment) (s : State),
     s.pins.reset = false → s.present h = true → s.headState h = .weld → (s.head h).plan.inForce.isSome = true →
     (order.acts.head? = some .station ∨ order.acts = []) → (s.head h).plan.queue = gone ++ rest →
     ∃ t, exec (.headSample h inp order) s = .next t ∧
     let p := (s.head h).plan
     let log := (s.head h).log
     let u := t.head h
     let tool := t.toolStation h
     let stop (g : Segment) : Int := ((g.start + g.length : Nat) : Int)
     let exits : Bool := gone.getLast?.any fun g => g.endAction == .exit
     let count : Nat := if order.acts = [] ∧ u.reg.saturated = true then min ((s.head h).reg.saturationCount + 1) 65535
       else (s.head h).reg.saturationCount
     let starves : Option Int := if exits then none else match p.starved with
       | some v => some v.nominalEnd
       | none => if rest = [] then gone.getLast?.map stop else none
     let last : List RecordBody := match gone.getLast? with
       | some g => if exits then [.seamEnd ⟨g.id, some g.zone⟩ (s.head h).seq.kind tool]
           else if rest = [] ∧ p.starved = none then [.starved (stop g) ⟨g.id, some g.zone⟩] else []
       | none => []
     let records : List RecordBody := (gone.zipIdx.map fun x => .segmentEnd x.1.id x.1.zone x.1.endAction (stop x.1) tool
       (if x.2 = 0 then count else 0) (!x.1.tracking && (x.1.zone == .body || x.1.zone == .clampGap))) ++ last
     let limit : Bool := (s.head h).limits.forceMax < u.front.force.effective && 2 ≤ (s.head h).reg.forceRun
     (∀ g ∈ gone, stop g ≤ tool) → (∀ g ∈ gone.dropLast, g.endAction = .carryOn) →
     (exits = true ∨ ∀ n, rest.head? = some n → tool < stop n) →
     (order.acts.head? = some .station ∨ order.split = true ∨ limit = false) →
       u.plan.queue = rest ∧ u.plan.retained = (if gone = [] then p.retained else gone.getLast?) ∧
       u.log.counters.segmentsCompleted = bump^[gone.length] log.counters.segmentsCompleted ∧
       ((∀ c, faultOf inp c = none) → ∃ before : List RecordBody,
         (before = [] ∨ order.acts = [] ∧ order.split = false ∧
           ∃ named st peak run sign, before = [.excursion named st peak run sign tool]) ∧
         (logAll h (before ++ records) s).queue <+: u.log.queue) ∧
       (exits = true → t.headState h = .exit ∧ u.plan.starved = none ∧ u.seq.rampAcc = 499 ∧
         u.seq.spindle = (s.head h).seq.spindle ∧ u.log.counters.seamsCompleted = bump log.counters.seamsCompleted ∧
         u.track.queue = [] ∧ u.track.activeFirst = false ∧ u.track.gapSlow = false ∧ u.track.mismatchLatch = false ∧
         u.travel = ⟨0, 0, 0⟩ ∧ t.gov.speed = 0 ∧ (s.headState h.other = .weld → t.headState h.other = .pause)) ∧
       (exits = false → starves = none → u.plan.starved = none) ∧
       ∀ e, starves = some e →
         if ((s.head h).travelSet.starvationAllowance : Int) ≤ tool - e then
           t.headState h = .interrupting ∧ u.seq.cause = some .planStarved ∧ u.seq.interruptStation = tool ∧
           u.plan.starved = none ∧ u.log.counters.seamsInterrupted = bump log.counters.seamsInterrupted
         else t.headState h = .weld → u.plan.starved = some ⟨e, tool - e⟩) ∧
  ∀ (h : Head) (inp : SampleInput) (order : SampleOrder) (s : State), s.pins.reset = false → s.present h = true →
    s.headState h ≠ .weld →
    ∃ t, exec (.headSample h inp order) s = .next t ∧
    let p := (s.head h).plan
    let u := t.head h
    let tool := t.toolStation h
    ((s.headState h = .dwell → (s.head h).seq.kind = .fresh ∨ t.headState h = .dwell) →
      u.plan.queue = p.queue ∧ u.plan.retained = p.retained ∧
      u.log.counters.segmentsCompleted = (s.head h).log.counters.segmentsCompleted) ∧
    (s.headState h = .pause →
      (t.headState h = .pause ∨ t.headState h = .interrupting) ∧
      (t.headState h = .interrupting → u.plan.starved = none) ∧
      (p.starved = none → u.plan.starved = none) ∧
      ∀ v, p.starved = some v →
        let allowance : Int := (s.head h).travelSet.starvationAllowance
        (t.headState h = .pause →
          u.plan.starved = some ⟨v.nominalEnd, tool - v.nominalEnd⟩ ∧ tool - v.nominalEnd < allowance) ∧
        (allowance ≤ tool - v.nominalEnd → order.acts.head? = some .station →
          u.seq.cause = some .planStarved ∧ u.seq.interruptStation = tool ∧
          u.log.counters.seamsInterrupted = bump (s.head h).log.counters.seamsInterrupted))

/-- The tracking unit's work at a head sample that completes no segment, in every order (R115 to R124). In every state
the queue is trimmed. In WELD and PAUSE the first entry behind the tool becomes active, with its gap and mismatch
checks; the lateral target follows the active entry and the command moves by the slew; in WELD on a tracked segment the
loss distance is computed. A gap stop or a loss leaves the head in INTERRUPTING, under its own cause where the unit
works first; what is found is recorded and counted even where another condition is taken first. In SPINUP, PLUNGE and
DWELL the target follows the first entry behind the tool, which does not become active; in every other state target and
command are held; and the queue is empty where the sample ends a start, enters EXIT or reaches INTERRUPTED (R116). (That
the unit steers and keeps its state as in WELD where a condition has moved the head out first, and that out of SPINUP,
PLUNGE and DWELL it then steers or holds as the order has it, are the model's choices, log 42.) -/
def Obligations.TrackingWorksAtSample : Prop :=
 (∀ (h : Head) (inp : SampleInput) (order : SampleOrder) (gone q : List TrackEntry) (g : Segment) (s : State),
     s.pins.reset = false → s.present h = true → (s.headState h).welding = true →
     (s.head h).plan.inForce = some g → (s.head h).track.queue = gone ++ q →
     ∃ t, exec (.headSample h inp order) s = .next t ∧
     let x := (s.head h).track
     let u := t.head h
     let tool := t.toolStation h
     let entry := (s.head h).seq.weldEntry
     let slew : Int := (s.head h).regulator.lateralSlew
     let kept : Bool := x.activeFirst && gone.isEmpty
     let due : Option TrackEntry := if kept then none else q.head?.filter fun e => e.station ≤ tool
     let active : Option TrackEntry := if kept then q.head? else due
     let wide (e : TrackEntry) : Bool := (s.head h).limits.gapLimit < e.gap
     let uneven (e : TrackEntry) : Bool := (s.head h).limits.mismatchLimit < e.mismatch.natAbs
     let stop : Bool := g.gapAction == .stop && due.any wide
     let reference : Int := match active with
       | some e => max e.station entry
       | none => entry
     let tested : Bool := s.headState h == .weld && g.tracking
     let lost : Bool := tested && ((s.head h).travelSet.trackHold : Int) < tool - reference
     let target : Int := if g.tracking then (active.map TrackEntry.offset).getD x.lateralTarget else x.lateralTarget
     (s.headState h = .weld → ∀ n, (s.head h).plan.queue.head? = some n → tool < ((n.start + n.length : Nat) : Int)) →
     (∀ e ∈ q.tail, tool < e.station) → (gone = [] ∨ ∃ e, q.head? = some e ∧ e.station ≤ tool) →
       u.track =
         { queue := q
           activeFirst := kept || due.isSome
           toolStation := tool
           lateralTarget := target
           lateralCommand := max (x.lateralCommand - slew) (min (x.lateralCommand + slew) target)
           gapSlow := match due with
             | some e => wide e && (g.gapAction == .slow || x.gapSlow)
             | none => x.gapSlow
           mismatchLatch := match due with
             | some e => uneven e
             | none => x.mismatchLatch
           lossDistance := if tested then tool - reference else x.lossDistance } ∧
       u.log.counters.trackLosses =
         (if lost then bump (s.head h).log.counters.trackLosses else (s.head h).log.counters.trackLosses) ∧
       (stop || lost → t.headState h = .interrupting) ∧
       (stop || lost → order.acts.head? = some .track → u.seq.interruptStation = tool ∧
         u.seq.cause = some (if stop && (order.gapFirst || !lost) then .gap else .trackLoss)) ∧
       (CommonRoom s →
         (∀ e, due = some e → wide e = true → g.gapAction = .stop ∨ x.gapSlow = false →
           Recorded h (.gap ⟨g.id, some g.zone⟩ tool e.station e.gap g.gapAction) t) ∧
         (∀ e, due = some e → uneven e = true → x.mismatchLatch = false →
           Recorded h (.mismatch ⟨g.id, some g.zone⟩ tool e.station e.mismatch) t) ∧
         (lost = true → Recorded h (.trackLoss ⟨g.id, some g.zone⟩ tool reference (tool - reference)) t))) ∧
  ∀ (h : Head) (inp : SampleInput) (order : SampleOrder) (gone q : List TrackEntry) (s : State),
    s.pins.reset = false → s.present h = true → (s.headState h).welding = false →
    (s.head h).track.queue = gone ++ q →
    ∃ t, exec (.headSample h inp order) s = .next t ∧
    let st := s.headState h
    let x := (s.head h).track
    let u := t.head h
    let tool := t.toolStation h
    let slew : Int := (s.head h).regulator.lateralSlew
    let settles (v : HeadState) : Bool := v == .spinup || v == .plunge || v == .dwell
    let emptied : Bool := t.headState h == .exit && st != .exit || t.headState h == .interrupted && st == .interrupting ||
      st.starting && !(t.headState h).starting && t.headState h != .plunge
    let held : Tracking :=
      { x with queue := q, activeFirst := x.activeFirst && gone.isEmpty, toolStation := tool }
    let steered : Tracking :=
      let entry : Option TrackEntry := q.head?.filter fun e => e.station ≤ tool
      let target : Int := if (s.head h).plan.inForce.any Segment.tracking then
        (entry.map TrackEntry.offset).getD x.lateralTarget else x.lateralTarget
      { held with
        lateralTarget := target
        lateralCommand := max (x.lateralCommand - slew) (min (x.lateralCommand + slew) target) }
    let left (v : Tracking) : Tracking :=
      if emptied then { v with queue := [], activeFirst := false, gapSlow := false, mismatchLatch := false } else v
    (∀ e ∈ q.tail, tool < e.station) → (gone = [] ∨ ∃ e, q.head? = some e ∧ e.station ≤ tool) →
      (settles st = false → u.track = left held) ∧
      (settles st = true → u.plan.inForce = (s.head h).plan.inForce →
        if settles (t.headState h) || (t.headState h).welding then u.track = left steered
        else (s.head h).plan.inForce.isSome = true → u.track = left held ∨ u.track = left steered)

/-- The sample accumulator and the pitch mark at every head sample (R162 to R164). In WELD and PAUSE, while the head
stays there, the accumulator takes the sample's values; in WELD a sample that has reached the mark emits the SAMPLE
record, clears the accumulator and computes the next mark on the grid of the WELD entry station, its pitch doubled when
the level has reached the threshold. An order that takes the log's work right behind the regulator's emits at a reached
mark whatever takes the head out of WELD at the same sample; a head that has left before the log's work gives no sample
and no record and keeps accumulator and mark (R164). Which of the two is the order's, the model's choice (logs 1, 42). In
every state but DWELL, WELD and PAUSE both stay. -/
def Obligations.AccumulatorTakesSamples : Prop :=
  ∀ (h : Head) (inp : SampleInput) (order : SampleOrder) (s : State), s.pins.reset = false → s.present h = true →
    SettingsLaw s →
    ∃ t, exec (.headSample h inp order) s = .next t ∧
    let a := (s.head h).log.acc
    let mark := (s.head h).log.nextMark
    let entry := (s.head h).seq.weldEntry
    let u := t.head h
    let tool := t.toolStation h
    let reached : Bool := s.headState h == .weld && mark.any fun m => m.station ≤ tool
    let total (gapSlow starved : Bool) : SampleAccumulator :=
      { count := a.count + 1
        forceSum := a.forceSum + u.front.force.effective
        depthSum := a.depthSum + u.seq.depth
        torqueSum := a.torqueSum + u.front.torque.effective
        forceLeast := if a.count = 0 then u.front.force.effective else min a.forceLeast u.front.force.effective
        forceGreatest := if a.count = 0 then u.front.force.effective else max a.forceGreatest u.front.force.effective
        tempGreatest := if a.count = 0 then u.front.temp.effective else max a.tempGreatest u.front.temp.effective
        flags := ⟨a.flags.saturated || u.reg.saturated, a.flags.slewLimited || u.reg.slewLimited,
          a.flags.substitution || (u.front.force.overrideOn || u.front.force.substituteOn ||
            u.front.torque.overrideOn || u.front.torque.substituteOn || u.front.temp.overrideOn ||
            u.front.temp.substituteOn),
          a.flags.gapSlow || gapSlow, a.flags.starved || starved⟩ }
    let whole : SampleAccumulator := total u.track.gapSlow u.plan.starved.isSome
    let body (m : PitchMark) (v : SampleAccumulator) (lateral : Int) : RecordBody :=
      .sample m.station (min v.count 65535) (v.forceSum / v.count) v.forceLeast v.forceGreatest (v.depthSum / v.count)
        (v.torqueSum / v.count) v.tempGreatest v.flags s.gov.speed lateral
    let restarted (m : Option PitchMark) (doubled : Bool) : Prop :=
      u.log.acc = ⟨0, 0, 0, 0, 0, 0, 0, ⟨false, false, false, false, false⟩⟩ ∧
      (let pitch : Int := if doubled then 2 * (t.settings.pitch : Int) else t.settings.pitch
       ∃ k : Int, 1 ≤ k ∧ m = some ⟨entry + k * pitch, doubled⟩ ∧ tool < entry + k * pitch ∧
         (k = 1 ∨ entry + (k - 1) * pitch ≤ tool))
    let lastly : Bool := !order.acts.contains .log
    let atOnce : Bool := decide (order.acts.take 2 = [.regulator, .log])
    (s.headState h ≠ .dwell → (s.headState h).welding = false → u.log.acc = a ∧ u.log.nextMark = mark) ∧
    ((s.headState h).welding = true → (t.headState h).welding = true → reached = false →
      u.log.acc = whole ∧ u.log.nextMark = mark) ∧
    ((s.headState h).welding = true → (t.headState h).welding = false → reached = false →
      u.log.nextMark = mark ∧ (u.log.acc = a ∨ ∃ gapSlow starved, u.log.acc.flags = (total gapSlow starved).flags ∧
        u.log.acc.count = a.count + 1) ∧
      (atOnce = true → ∃ gapSlow starved, u.log.acc = total gapSlow starved ∧
        (t.headState h = .interrupting → gapSlow = u.track.gapSlow) ∧
        ((s.head h).plan.starved.isSome = true → starved = true))) ∧
    ∀ m, reached = true → mark = some m →
      (lastly = true → (t.headState h).welding = true →
        restarted u.log.nextMark (decide (t.threshold h ≤ t.level h)) ∧
        (CommonRoom s → ∃ r, u.log.queue.getLast? = some r ∧ r.coalesced = m.coalesced ∧
          r.body = body m whole u.track.lateralCommand)) ∧
      ((t.headState h).welding = true ∨ atOnce = true →
        (∃ doubled, restarted u.log.nextMark doubled ∧ (doubled = true → t.threshold h ≤ t.level h) ∧
          (s.threshold h ≤ s.level h → doubled = true)) ∧
        (CommonRoom s → ∃ r ∈ u.log.queue, r.coalesced = m.coalesced ∧ ∃ gapSlow starved lateral,
          r.body = body m (total gapSlow starved) lateral ∧
          ((t.headState h).welding = true → gapSlow = u.track.gapSlow ∧ starved = u.plan.starved.isSome) ∧
          (t.headState h = .interrupting → gapSlow = u.track.gapSlow) ∧
          ((s.head h).plan.starved.isSome = true → starved = true) ∧
          (atOnce = true → lateral = (s.head h).track.lateralCommand))) ∧
      ((t.headState h).welding = false → (∃ doubled, restarted u.log.nextMark doubled) ∨
        u.log.acc = a ∧ u.log.nextMark = mark)

/-- The continuous checks at a head sample, in every order (R46, R79, R80, R133, R39). In the in-material states the
force-limit run counts the samples above the force max, and a torque, temperature, drive or sensor condition, a run of
three or an exhausted grace leaves the head in INTERRUPTING, unless the end of its seam was taken first; the piece of
work that comes first gives the cause, with its record (its segment id as before starvation ends: the model's choice,
log 15). That with split on a run of three and an exhausted grace interrupt by their own rows, sent next, and not within
the sample, is the model's choice too (log 4). Without any of these no other cause is given than those of plunge, plan
and tracking. In APPROACH and SPINUP a drive or sensor fault ends the start with its reason. -/
def Obligations.ContinuousChecksInterrupt : Prop :=
  ∀ (h : Head) (inp : SampleInput) (order : SampleOrder) (s : State), s.pins.reset = false → s.present h = true →
    ∃ t, exec (.headSample h inp order) s = .next t ∧
    let st := s.headState h
    let q := (s.head h).seq
    let limits := (s.head h).limits
    let u := t.head h
    let tool := t.toolStation h
    let ended : HeadState := if q.kind = .fresh then .ready else .interrupted
    let failing : FaultCheck → Bool := fun c => match c with
      | .torque => (limits.torqueMax : Int) ≤ u.front.torque.effective
      | .temp => (limits.tempMax : Int) < u.front.temp.effective
      | .drive => !(inp.spindleReady && inp.plungeReady && inp.lateralReady)
      | .travelDrive => !inp.travelReady
      | .sensor => u.front.force.fault || u.front.depth.fault || s.gantry.fault
    let cause : FaultCheck → Cause := fun c => match c with
      | .torque => .torqueLimit
      | .temp => .tempLimit
      | .drive => .drive
      | .travelDrive => .travelDrive
      | .sensor => .sensor
    let above : Bool := (limits.forceMax : Int) < u.front.force.effective
    let limit : Bool := above && 2 ≤ (s.head h).reg.forceRun && !order.split
    let spent : Bool := (u.front.torque.grace == 250 || u.front.temp.grace == 250) && !order.split
    let interrupted (c : Cause) : Prop := t.headState h = .interrupting ∧ u.seq.cause = some c ∧
      u.seq.interruptStation = tool ∧ (CommonRoom s → ∃ named, NamesInForce s h named ∧
        Recorded h (.interrupt c tool named q.kind st q.depth) t)
    (st.inMaterial = true →
      ((t.headState h).inMaterial = true → u.reg.forceRun = if above then min ((s.head h).reg.forceRun + 1) 3 else 0) ∧
      ((∃ c, failing c = true) ∨ limit = true ∨ spent = true →
        t.headState h = .interrupting ∨ t.headState h = .exit) ∧
      (∀ c, order.acts.head? = some (.check c) → failing c = true → interrupted (cause c)) ∧
      (order.acts.head? = some .forceRun → limit = true → interrupted .forceLimit) ∧
      (order.acts.head? = some .grace → spent = true → interrupted .sensor) ∧
      ((∀ c, failing c = false) → limit = false → spent = false → t.headState h = .interrupting →
        u.seq.cause = some .plungeTimeout ∨ u.seq.cause = some .planStarved ∨ u.seq.cause = some .gap ∨
        u.seq.cause = some .trackLoss)) ∧
    (st.inMaterial = false → u.reg.forceRun = 0) ∧
    (st.starting = true → ∀ c reason,
      (c, reason) ∈ [(FaultCheck.drive, StartFailure.drive), (.travelDrive, .travelDrive), (.sensor, .sensor)] →
      failing c = true →
      (t.headState h = ended ∨ st = .spinup ∧ t.headState h = .plunge) ∧
      (order.acts.head? = some (.check c) → t.headState h = ended ∧ u.seq.spindle = 0 ∧ u.track.queue = [] ∧
        (CommonRoom s → Recorded h (.startFailed reason q.kind st tool) t)))

/-- SPINUP and PLUNGE. SPINUP (R38, R34, R40): at speed the head plunges, a fresh seam using one of its budget, with the
plunge timer and a new ramp; not at speed with the timer run out the start fails with reason SPINUP_TIMEOUT. The row
reads the input of the latest sample (the model's choice, log 4). A complete plunge (R41, R42): the head goes to DWELL
with the dwell timer running, and PLUNGE_DONE carries the segment in force, the kind, the plunge station, the depth and
the time spent. -/
def Obligations.SpinupAndPlungeEnd : Prop :=
  (∀ (h : Head) (s : State), s.pins.reset = false → s.present h = true → s.headState h = .spinup →
     ((s.head h).drives.atSpeed = true →
       ∃ t, exec (.atSpeed h) s = .next t ∧ SameRest s t ∧ t.port = s.port ∧ HoldTaken h .plunge s t ∧
         t.head h = { s.head h with
           seq := { (s.head h).seq with
             state := .plunge
             raising := false
             budget := if (s.head h).seq.kind = .fresh then (s.head h).seq.budget - 1 else (s.head h).seq.budget
             plungeTimer := ((s.head h).tool.plungeTimeout * 100 : Nat)
             rampAcc := 499 }
           travel := ⟨0, 0, 0⟩ }) ∧
     ((s.head h).drives.atSpeed = false → (s.head h).seq.spinupTimer ≤ 0 →
       ∃ t, exec (.spinupTimeout h) s = .next t ∧
         StartEnded h (logWith h (.startFailed .spinupTimeout (s.head h).seq.kind .spinup (s.toolStation h)) s) s t)) ∧
  ∀ (h : Head) (s : State), s.pins.reset = false → s.present h = true → s.headState h = .plunge →
    (s.head h).seq.depth = ((s.head h).tool.plungeDepth : Int) →
    ∃ t named, exec (.plungeDone h) s = .next t ∧ NamesInForce s h named ∧ SameRest s t ∧ t.port = s.port ∧
      HoldTaken h .dwell s t ∧
      t.head h = { s.head h with
        seq := { (s.head h).seq with state := .dwell, raising := false, dwellTimer := ((s.head h).tool.dwell : Int) }
        travel := ⟨0, 0, 0⟩
        log := logWith h (.plungeDone named (s.head h).seq.kind (s.head h).seq.plungeStation (s.head h).seq.depth
          (((s.head h).tool.plungeTimeout * 100 : Nat) - (s.head h).seq.plungeTimer : Int).toNat) s }

/-- An elapsed dwell (R42, R43, R63, R162): the head enters WELD with its entry station, the prepared regulator, a clear
accumulator and the first pitch mark one effective pitch on. A re-entry makes the plan store's check at the entry (R22,
R54). With segments left, the first of them ending ahead, it does no more. Behind a retained segment with an empty queue
the head starves at once with a STARVED record. Segments that end behind the tool are completed with their SEGMENT_END
records, up to an EXIT segment, which ends the seam, to one that ends ahead, or to an empty queue, which starves the
head, or interrupts it where the allowance is exhausted. The model's choices in it: the check, its allowance included,
is made at the entry itself (log 18), the mark's level does not count its records (log 41), and SEAM_END takes its slot
of the pool before the other head's PAUSE_BEGIN (log 16). -/
def Obligations.DwellEndsInWeld : Prop :=
  ∀ (h : Head) (s : State), s.pins.reset = false → s.present h = true → s.headState h = .dwell →
    (s.head h).seq.dwellTimer ≤ 0 →
    let doubled : Bool := decide (s.threshold h ≤ s.level h)
    let pitch : Nat := if doubled then 2 * s.settings.pitch else s.settings.pitch
    let log : HeadLog := { (s.head h).log with
      acc := SampleAccumulator.clear, nextMark := some ⟨s.toolStation h + pitch, doubled⟩ }
    let welding : HeadUnit := { s.head h with
      seq := { (s.head h).seq with state := .weld, raising := false, weldEntry := s.toolStation h }
      reg := { (s.head h).reg with
        firstSample := true, target := 0, saturated := false, slewLimited := false, saturationCount := 0
        excursionRun := 0, excursionPeak := 0, excursionLatch := false }
      travel := ⟨(s.head h).travel.permitted, 0, 0⟩
      log := log }
    ∃ t, exec (.dwellElapsed h) s = .next t ∧ SameRest s t ∧
      ((s.head h).seq.kind = .fresh ∨
          (∃ g rest, (s.head h).plan.queue = g :: rest ∧ s.toolStation h < ((g.start + g.length : Nat) : Int)) →
        t.port = s.port ∧ t.gov = s.gov.taken ∧ t.head h.other = s.head h.other ∧ t.head h = welding) ∧
      (∀ g, (s.head h).seq.kind = .reentry → (s.head h).plan.queue = [] → (s.head h).plan.retained = some g →
        let e : Int := ((g.start + g.length : Nat) : Int)
        t.port = s.port ∧ t.gov = s.gov.taken ∧ t.head h.other = s.head h.other ∧
        t.head h = { welding with
          plan := { (s.head h).plan with starved := some ⟨e, s.toolStation h - e⟩ }
          log := logWith h (.starved e ⟨g.id, some g.zone⟩) (s.onHead h fun u => { u with log := log }) }) ∧
      ∀ gone rest : List Segment, (s.head h).seq.kind = .reentry → (s.head h).plan.queue = gone ++ rest → gone ≠ [] →
        (s.head h).plan.starved = none →
        let tool := s.toolStation h
        let u := t.head h
        let stop (g : Segment) : Int := ((g.start + g.length : Nat) : Int)
        let exits : Bool := gone.getLast?.any fun g => g.endAction == .exit
        let last : List RecordBody := match gone.getLast? with
          | some g => if exits then [.seamEnd ⟨g.id, some g.zone⟩ .reentry tool]
              else if rest = [] then [.starved (stop g) ⟨g.id, some g.zone⟩] else []
          | none => []
        let records : List RecordBody := (gone.map fun g => .segmentEnd g.id g.zone g.endAction (stop g) tool 0
          (!g.tracking && (g.zone == .body || g.zone == .clampGap))) ++ last
        let m := s.onHead h fun u => { u with log := log }
        (∀ g ∈ gone, stop g ≤ tool) → (∀ g ∈ gone.dropLast, g.endAction = .carryOn) →
        (exits = true ∨ ∀ n, rest.head? = some n → tool < stop n) →
          t.port = s.port ∧ u.plan.queue = rest ∧ u.plan.retained = gone.getLast? ∧ u.seq.weldEntry = tool ∧
          u.reg = welding.reg ∧ u.log.acc = log.acc ∧ u.log.nextMark = log.nextMark ∧
          u.log.counters.segmentsCompleted = bump^[gone.length] (s.head h).log.counters.segmentsCompleted ∧
          (logAll h records m).queue <+: u.log.queue ∧
          (exits = true → t.headState h = .exit ∧ u.plan.starved = none ∧ u.seq.rampAcc = 499 ∧
            u.seq.spindle = (s.head h).seq.spindle ∧ u.track = (s.head h).track.emptied ∧ u.travel = ⟨0, 0, 0⟩ ∧
            u.log.counters.seamsCompleted = bump (s.head h).log.counters.seamsCompleted ∧ t.gov.speed = 0) ∧
          (exits = false → rest ≠ [] → t.headState h = .weld ∧ u.plan.starved = none) ∧
          ∀ g, exits = false → rest = [] → gone.getLast? = some g →
            if ((s.head h).travelSet.starvationAllowance : Int) ≤ tool - stop g then
              t.headState h = .interrupting ∧ u.seq.cause = some .planStarved ∧ u.seq.interruptStation = tool ∧
              u.plan.starved = none
            else t.headState h = .weld ∧ u.plan.starved = some ⟨stop g, tool - stop g⟩

/-- The conditions that are rows of their own and interrupt a head (R41, R80, R103, R133), each in its states: the
head enters INTERRUPTING with its cause (R45). The model's choices in it: the INTERRUPT record carries the segment in
force before starvation ends (log 15) and follows the other head's PAUSE_BEGIN (log 16). -/
def Obligations.ConditionsInterrupt : Prop :=
  ∀ (h : Head) (s : State), s.pins.reset = false → s.present h = true →
    (s.headState h = .plunge → (s.head h).seq.depth ≠ ((s.head h).tool.plungeDepth : Int) →
      (s.head h).seq.plungeTimer ≤ 0 →
      ∃ t, exec (.plungeTimeout h) s = .next t ∧ Interrupted h .plungeTimeout s t) ∧
    ((s.headState h).inMaterial = true → (s.head h).reg.forceRun = 3 →
      ∃ t, exec (.forceLimit h) s = .next t ∧ Interrupted h .forceLimit s t) ∧
    ((s.headState h).inMaterial = true →
      (s.head h).front.torque.grace = 250 ∨ (s.head h).front.temp.grace = 250 →
      ∃ t, exec (.graceExhausted h) s = .next t ∧ Interrupted h .sensor s t) ∧
    (s.headState h = .pause → s.anyHold = true → (s.head h).travel.pauseTimer = 0 →
      ∃ t, exec (.pauseLimit h) s = .next t ∧ Interrupted h .pauseLimit s t)

/-- A complete retract (R44, R47, R48, R116): the spindle command is 0; from EXIT the head goes to READY, or to
CAL_DUE with a budget of 0; from INTERRUPTING to INTERRUPTED with its lookahead queue emptied. The output is released
unless the other head is engaged (R85). -/
def Obligations.RetractsEnd : Prop :=
  ∀ (h : Head) (s : State), s.pins.reset = false → s.present h = true →
    (s.head h).seq.depth = -((s.head h).tool.clearance : Int) →
    (s.headState h = .exit →
      ∃ t, exec (.exitRetractComplete h) s = .next t ∧ SameRest s t ∧ t.port = s.port ∧
        t.gov = s.gov.left (s.headState h.other).engaged ∧ t.head h.other = s.head h.other ∧
        t.head h = { s.head h with
          seq := { (s.head h).seq with
            state := if (s.head h).seq.budget = 0 then .calDue else .ready, spindle := 0 }
          travel := ⟨0, 0, 0⟩ }) ∧
    (s.headState h = .interrupting →
      ∃ t, exec (.interruptingRetractComplete h) s = .next t ∧ SameRest s t ∧ t.port = s.port ∧
        t.gov = s.gov.left (s.headState h.other).engaged ∧ t.head h.other = s.head h.other ∧
        t.head h = { s.head h with
          seq := { (s.head h).seq with state := .interrupted, spindle := 0 }
          track := (s.head h).track.emptied
          travel := ⟨0, 0, 0⟩ })

/-- The row EXCURSION (R77): where the samples have held no excursion for it nothing changes; otherwise the oldest held
one, once, has its EXCURSION record with the segment, state, peak, run, sign and tool station of the sample that found
it, and its count, whatever the head's state has become. That an excursion is recorded at this row and not at its sample
when split is on is the model's choice (log 4). -/
def Obligations.ExcursionReportedOnce : Prop :=
  ∀ (h : Head) (s : State), s.pins.reset = false → s.present h = true →
    ((s.head h).reg.excursionsHeld = [] → exec (.excursion h) s = .next s) ∧
    ∀ x rest, (s.head h).reg.excursionsHeld = x :: rest →
      ∃ t, exec (.excursion h) s = .next t ∧ SameRest s t ∧ t.port = s.port ∧ t.gov = s.gov ∧
        t.head h.other = s.head h.other ∧
        t.head h = { s.head h with
          reg := { (s.head h).reg with excursionsHeld := rest }
          log := logCounted h (.excursion x.segment x.state x.peak x.run x.negative x.tool)
            (fun c => { c with excursions := bump c.excursions }) s }

/-- The 256 readings of a calibration are judged (R155): offset, budget and ceiling, CAL_DONE and READY (or back to
INTERRUPTED) on success; CAL_FAILED with OFFSET_RANGE before SPREAD, and back to the origin state, on failure. The
accumulator is left clear, which is the model's choice (log 23). -/
def Obligations.CalibrationJudgedByReadings : Prop :=
  ∀ (h : Head) (s : State), s.pins.reset = false → s.present h = true → s.headState h = .calibrating →
    (s.head h).seq.cal.count = 256 → (s.head h).seq.OriginKept →
    let q := (s.head h).seq
    let mean : Int := q.cal.sum.tdiv 256
    let spread : Int := q.cal.greatest - q.cal.least
    let budget := (s.head h).travelSet.calibrationBudget
    ∃ t, exec (.calibrationJudged h) s = .next t ∧ SameRest s t ∧ t.port = s.port ∧
      t.gov = s.gov.left (s.headState h.other).engaged ∧ t.head h.other = s.head h.other ∧
      (mean.natAbs ≤ 1000 → spread ≤ 40 →
        t.head h = { s.head h with
          seq := { q with
            state := if q.origin = .interrupted then .interrupted else .ready
            budget := budget, ceiling := budget, cal := ⟨none, 0, 0, 0, 0⟩ }
          front := { (s.head h).front with force := { (s.head h).front.force with offset := -mean } }
          travel := ⟨0, 0, 0⟩
          log := logWith h (.calDone mean spread (-mean) budget) s }) ∧
      (1000 < mean.natAbs ∨ 40 < spread →
        t.head h = { s.head h with
          seq := { q with state := q.origin, cal := ⟨none, 0, 0, 0, 0⟩ }
          travel := ⟨0, 0, 0⟩
          log := logWith h
            (.calFailed (if 1000 < mean.natAbs then .offsetRange else .spread) 256 mean spread) s })

/-! ### The governor -/

/-- Every governor update (R127, R128, R130, R132, R136, R98): the GANTRY channel is converted, an invalid count
latching its fault and holding the last valid position; a fault onset is counted and recorded at each present head; the
drive's ready input is read and the bed end computed. The rest is the frame: of each head only the items of a state
change may change, the permitted speed and the pause items, starvation and the log; and while the output is released no
command moves and no condition is raised. The permitted speed of a head in WELD or PAUSE that stays there is that of R91
by its segment in force, gap-slow flag and torque, also beside the other head's weld or approach; that of any other head
is 0. -/
def Obligations.GovernorUpdateConverts : Prop :=
  ∀ (inp : UpdateInput) (order : UpdateOrder) (s : State), s.pins.reset = false →
    0 ≤ inp.gantry.count → inp.gantry.count ≤ 400000 →
    let old := s.gantry
    let bad : Bool := !inp.gantry.connected || inp.gantry.jumped
    let kind : FaultKind := if inp.gantry.connected then .quadrature else .disconnected
    let onset : Bool := bad && !old.fault
    let fault : Bool := bad || old.fault
    let effective : Int :=
      if old.substituteOn then old.substitute
      else if fault then old.lastValid
      else max 0 (min 400000 (inp.gantry.count + if old.overrideOn then old.overrideOffset else old.offset))
    ∃ t, exec (.governorUpdate inp order) s = .next t ∧
      t.gantry = { old with
        raw := inp.gantry.count, valid := !bad, fault := fault, effective := effective
        lastValid := if old.substituteOn || !fault then effective else old.lastValid } ∧
      t.gov.travelReady = inp.travelReady ∧ t.gov.owned = s.gov.owned ∧ t.gov.bedEnd = s.effectiveBedEnd ∧
      t.settings = s.settings ∧ t.lines = s.lines ∧ t.tracker = s.tracker ∧ t.pins = s.pins ∧ t.straps = s.straps ∧
      t.pending = s.pending ∧ t.port = s.port ∧
      ∀ h,
        let a := s.head h
        let u := t.head h
        u.profiles = a.profiles ∧ u.front = a.front ∧ u.drives = a.drives ∧ u.applied = a.applied ∧ u.reg = a.reg ∧
        u.track = a.track ∧ u.plan = { a.plan with starved := u.plan.starved } ∧
        u.seq = { a.seq with
          state := u.seq.state, raising := u.seq.raising, spindle := u.seq.spindle
          plungeStation := u.seq.plungeStation, spinupTimer := u.seq.spinupTimer, cause := u.seq.cause
          interruptStation := u.seq.interruptStation, rampAcc := u.seq.rampAcc } ∧
        u.log.acc = a.log.acc ∧ u.log.nextMark = a.log.nextMark ∧ a.log.queue <+: u.log.queue ∧
        u.log.counters.sensorFaults =
          (if onset = true ∧ s.present h = true then bump a.log.counters.sensorFaults
           else a.log.counters.sensorFaults) ∧
        (CommonRoom s → onset = true → s.present h = true →
          Recorded h (.sensorFault .gantry kind inp.gantry.count old.substituteOn (s.headState h)) t) ∧
        (s.gov.owned = false → t.gov = { s.gov with travelReady := inp.travelReady, bedEnd := s.effectiveBedEnd } ∧
          u = { a with travel := { a.travel with permitted := u.travel.permitted }, log := u.log } ∧
          (s.demand h ≠ .advance → u.travel.permitted = 0) ∧ (onset = false → u.log = a.log)) ∧
        ((s.headState h).welding = false ∨ (t.headState h).welding = false → u.travel.permitted = 0) ∧
        ∀ g, a.plan.inForce = some g → (s.headState h).welding = true → (t.headState h).welding = true →
          a.limits.torqueSoft < a.limits.torqueMax →
          let base : Int := if a.track.gapSlow then (g.cap : Int) / 2 else g.cap
          let soft : Int := a.limits.torqueSoft
          let hard : Int := a.limits.torqueMax
          let torque := a.front.torque.effective
          (u.travel.permitted : Int) =
            max (a.travelSet.minWeldSpeed : Int)
              (min base (if soft < torque then base * (hard - torque) / (hard - soft) else base))

/-- The pauses at a governor update. Under a HOLD (R86, R87, R102, R103) the commanded speed is 0 and the direction kept;
a head in PAUSE whose timer has more than 10 ms left runs it down by 10 ms and stays, one whose timer runs out is
interrupted with PAUSE_LIMIT, with split on by its own row, sent next, which is the model's choice (log 4); and a head
found in WELD pauses. Without a HOLD (R104), short of the bed end and with no approach that could bring one, a head in
PAUSE returns to WELD with its PAUSE_END record and its pause items at 0. At or beyond the bed end with the direction
FORWARD (R99), with or without a HOLD, each head in WELD or PAUSE, one or both, is interrupted with BED_END, unless a
pause that runs out at the same update takes it first with PAUSE_LIMIT; its INTERRUPT record may come from WELD or from
PAUSE, by the order (logs 2, 38), and names the segment in force before starvation ends (log 15). -/
def Obligations.HoldUpdateRunsPauses : Prop :=
  (∀ (inp : UpdateInput) (order : UpdateOrder) (s : State), s.pins.reset = false → s.gov.owned = true →
    s.anyHold = true →
    ∃ t, exec (.governorUpdate inp order) s = .next t ∧ t.gov.owned = true ∧ t.gov.speed = 0 ∧
      t.gov.direction = s.gov.direction ∧
      ∀ h, s.headState h = .pause → 10 < (s.head h).travel.pauseTimer →
        (∀ e, s.effectiveBedEnd = some e → t.gantry.effective < (e : Int)) →
        t.headState h = .pause ∧ (t.head h).travel.pauseTimer = (s.head h).travel.pauseTimer - 10 ∧
        (t.head h).travel.pauseElapsed = (s.head h).travel.pauseElapsed + 10) ∧
  (∀ (inp : UpdateInput) (order : UpdateOrder) (s : State), s.pins.reset = false → s.gov.owned = true →
    s.anyHold = true →
    ∃ t, exec (.governorUpdate inp order) s = .next t ∧
      ∀ h, s.present h = true → (∀ e, s.effectiveBedEnd = some e → t.gantry.effective < (e : Int)) →
        (s.headState h = .weld → t.headState h = .pause ∧
          (t.head h).travel.pauseTimer = (s.head h).travelSet.pauseAllowance * 100 ∧
          (t.head h).travel.pauseElapsed = 0 ∧ (t.head h).log.counters.pauses = bump (s.head h).log.counters.pauses) ∧
        (s.headState h = .pause → (s.head h).travel.pauseTimer ≤ 10 →
          if order.split then t.headState h = .pause ∧ (t.head h).travel.pauseTimer = 0
          else t.headState h = .interrupting ∧ (t.head h).seq.cause = some .pauseLimit ∧
            (t.head h).log.counters.pauseLimitInterrupts = bump (s.head h).log.counters.pauseLimitInterrupts)) ∧
  (∀ (h : Head) (inp : UpdateInput) (order : UpdateOrder) (s : State), s.pins.reset = false → s.gov.owned = true →
    s.present h = true → s.headState h = .pause → s.anyHold = false → s.demand h.other ≠ .approach →
    ∃ t, exec (.governorUpdate inp order) s = .next t ∧
      ((∀ e, s.effectiveBedEnd = some e → t.gantry.effective < (e : Int)) →
        t.headState h = .weld ∧ (t.head h).travel.pauseTimer = 0 ∧ (t.head h).travel.pauseElapsed = 0 ∧
        (CommonRoom s → ∃ named, NamesInForce s h named ∧
          Recorded h (.pauseEnd named (t.toolStation h) (s.head h).travel.pauseElapsed) t))) ∧
  ∀ (inp : UpdateInput) (order : UpdateOrder) (e : Nat) (s : State), s.pins.reset = false → s.gov.owned = true →
    s.effectiveBedEnd = some e → (s.anyHold = true → s.gov.direction = .forward) →
    ∃ t, exec (.governorUpdate inp order) s = .next t ∧
      ∀ h, s.present h = true → (s.headState h).welding = true → (e : Int) ≤ t.gantry.effective →
        t.gov.speed = 0 ∧ t.headState h = .interrupting ∧ (t.head h).seq.interruptStation = t.toolStation h ∧
        (t.head h).travel = ⟨0, 0, 0⟩ ∧
        (t.head h).log.counters.seamsInterrupted = bump (s.head h).log.counters.seamsInterrupted ∧
        ((t.head h).seq.cause = some .bedEnd ∨ (t.head h).seq.cause = some .pauseLimit ∧ s.headState h = .pause ∧
          s.anyHold = true ∧ (s.head h).travel.pauseTimer ≤ 10 ∧ order.split = false) ∧
        (CommonRoom s → ∃ cause named left, (t.head h).seq.cause = some cause ∧ NamesInForce s h named ∧
          (left = .weld ∨ left = .pause) ∧
          Recorded h (.interrupt cause (t.toolStation h) named (s.head h).seq.kind left (s.head h).seq.depth) t)

/-- A governor update with one welding head (R87 to R89, R91, R93, R98, R99): with no other demand, a good gantry
conversion, the drive ready and the direction FORWARD. Short of the bed end the permitted speed is that of R91, the
target is the lesser of it and the braking speed toward the bed end, and the command rises by at most the ramp's step or
falls at once. At or beyond it the command is 0 and the head is interrupted with BED_END. -/
def Obligations.AdvanceUpdateMovesGantry : Prop :=
  ∀ (h : Head) (inp : UpdateInput) (order : UpdateOrder) (g : Segment) (e : Nat) (s : State), s.pins.reset = false →
    s.gov.owned = true → s.headState h = .weld → s.demand h.other = .idle → s.gov.direction = .forward →
    (s.head h).plan.inForce = some g → s.effectiveBedEnd = some e →
    inp.gantry.connected = true → inp.gantry.jumped = false → inp.travelReady = true →
    0 ≤ inp.gantry.count → inp.gantry.count ≤ 400000 → s.gantry.fault = false →
    s.gantry.substituteOn = false → s.gantry.overrideOn = false → s.gantry.offset = 0 →
    (s.head h).limits.torqueSoft < (s.head h).limits.torqueMax →
    ((e : Int) ≤ inp.gantry.count → ∃ t, exec (.governorUpdate inp order) s = .next t ∧ t.gov.speed = 0 ∧
      t.gov.direction = .forward ∧ t.gov.owned = true ∧ t.headState h = .interrupting ∧
      (t.head h).seq.cause = some .bedEnd ∧ (t.head h).seq.interruptStation = t.toolStation h) ∧
    (inp.gantry.count < (e : Int) →
    let u := s.head h
    let base : Nat := if u.track.gapSlow then g.cap / 2 else g.cap
    let soft : Int := u.limits.torqueSoft
    let hard : Int := u.limits.torqueMax
    let derated : Int := if soft < u.front.torque.effective
      then (base : Int) * (hard - u.front.torque.effective) / (hard - soft) else base
    let a := u.travelSet.acceleration
    ∃ v root target : Nat, ∃ t : State, exec (.governorUpdate inp order) s = .next t ∧
      (v : Int) = max (u.travelSet.minWeldSpeed : Int) (min (base : Int) derated) ∧
      root * root ≤ 2 * a * ((e : Int) - inp.gantry.count).toNat / 10 ∧
      2 * a * ((e : Int) - inp.gantry.count).toNat / 10 < (root + 1) * (root + 1) ∧
      target = min v (60 * root) ∧
      t.gov.speed =
        (if s.gov.speed < target then min target (s.gov.speed + max 1 (a * 6 / 10)) else target) ∧
      t.gov.direction = .forward ∧ t.gov.owned = true ∧ (t.head h).travel.permitted = v ∧
      t.headState h = .weld)

/-- An arrival (R37, R38, R94): a head in APPROACH within 1.0 mm of its target, or past it, records its plunge station
and goes to SPINUP with the segment's spindle speed and the spin-up timer; its HOLD is taken at once. That this holds
for a target at or up to 1.0 mm beyond the bed end too (log 39), and for a reverse approach beside another demand (log
44), is the model's choice. -/
def Obligations.ArrivalSpinsUp : Prop :=
  ∀ (h : Head) (g : Segment) (s : State), s.pins.reset = false → s.present h = true → s.headState h = .approach →
    (s.head h).plan.inForce = some g →
    (let target : Int := (s.head h).tool.seamOrigin + (s.head h).seq.target
     if (s.head h).seq.direction = .forward then target - s.gantry.effective ≤ 10
     else s.gantry.effective - target ≤ 10) →
    ∃ t, exec (.arrival h) s = .next t ∧ SameRest s t ∧ t.port = s.port ∧ HoldTaken h .spinup s t ∧
      t.head h = { s.head h with
        seq := { (s.head h).seq with
          state := .spinup, raising := false, plungeStation := s.toolStation h
          spinupTimer := ((s.head h).travelSet.spinupTimeout * 100 : Nat), spindle := g.spindle }
        travel := ⟨0, 0, 0⟩ }

/-! ### Computations -/

/-- The creation of a record (R165, R166, R167): it takes the head's next number; it is stored at the tail of the
queue in a common slot while one is free, an event record else in a reserved slot of its head while one is free, with
LOSS_BEFORE as loss-pending stood; otherwise it is dropped, counted, and loss-pending is set. Nothing else changes. -/
def Obligations.RecordCreatedInPool : Prop :=
  ∀ (h : Head) (b : RecordBody) (coalesced : Bool) (s : State), s.present h = true →
    let l := (s.head h).log
    let common := (s.unitA.log.queue.countP fun r => !r.reserved) + (s.unitB.log.queue.countP fun r => !r.reserved)
    let mine := l.queue.countP fun r => r.reserved
    let stored (reserved : Bool) : HeadLog :=
      { l with queue := l.queue ++ [⟨b, l.seq, l.lossPending, coalesced, reserved⟩], seq := l.seq + 1
               lossPending := false }
    let dropped : HeadLog :=
      { l with seq := l.seq + 1, lossPending := true
               counters := { l.counters with recordsLost := min (l.counters.recordsLost + 1) 4294967295 } }
    createRecord h b coalesced s = s.onHead h fun u =>
      { u with log := if common < 960 then stored false
                      else if b.isSample = false ∧ mine < 32 then stored true else dropped }

/-- The thermal factor and the target force (R64, R65): the factor is 1000 up to the soft temperature and falls by the
slope above it, not below 700; the target force lies within the bounds of R65. -/
def Obligations.TargetForceWithinBounds : Prop :=
  ∀ (r : RegulatorSet) (t : Int) (force : Nat), r.pauseFactor ≤ 1000 → 500 ≤ r.pauseFactor →
    (t ≤ r.softTemp → thermalFactor r t = 1000) ∧
    ((r.softTemp : Int) < t → thermalFactor r t = max 700 (1000 - (r.thermalSlope : Int) * (t - r.softTemp))) ∧
    700 ≤ thermalFactor r t ∧ thermalFactor r t ≤ 1000 ∧
    (targetForce r false t force : Int) = (force : Int) * thermalFactor r t / 1000 ∧
    (targetForce r true t force : Int) = (force : Int) * thermalFactor r t / 1000 * r.pauseFactor / 1000 ∧
    force * 700 / 1000 ≤ targetForce r false t force ∧ targetForce r false t force ≤ force ∧
    force * 700 / 1000 * 500 / 1000 ≤ targetForce r true t force ∧ targetForce r true t force ≤ force

/-- A governor update without a HOLD, with a head engaged, in every order (R87 to R90, R93 to R97, R99 to R101). The
wanted direction is REVERSE only for an approach in reverse with no head welding. A drive not ready, a GANTRY fault or a
reverse approach beside another demand stands the gantry and keeps the direction; a turn stands it first; a target
within 1.0 mm, or the bed end, stops it, and the head that has arrived goes to SPINUP. Otherwise the command takes the
ramp toward the least of its limits: the permitted speed of each welding head, the approach speed of each approaching
head where none is welding, the braking speed toward each approach target and, forward, toward the bed end. That a
target up to 1.0 mm beyond the bed end is reached is the model's choice (log 39), and so is that a blocked reverse
approach within 1.0 mm of its target is (log 44). The permitted speed that this update gives a welding head is pinned by
GovernorUpdateConverts. -/
def Obligations.GovernorUpdateMovesGantry : Prop :=
  ∀ (inp : UpdateInput) (order : UpdateOrder) (s : State), s.pins.reset = false → s.gov.owned = true →
    s.anyHold = false → s.anyEngaged = true →
    ∃ t, exec (.governorUpdate inp order) s = .next t ∧
    let at_ : Int := t.gantry.effective
    let left (h : Head) : Int :=
      let target : Int := (s.head h).tool.seamOrigin + (s.head h).seq.target
      if (s.head h).seq.direction = .forward then target - at_ else at_ - target
    let approaching (h : Head) : Bool := s.headState h == .approach
    let reverse (h : Head) : Bool := approaching h && (s.head h).seq.direction == .reverse
    let welding : Bool := (s.headState .a).welding || (s.headState .b).welding
    let wanted : Direction := if !welding && (reverse .a || reverse .b) then .reverse else .forward
    let blocked : Bool := (reverse .a && (s.headState .b).engaged) || (reverse .b && (s.headState .a).engaged)
    let stopped : Bool := !inp.travelReady || t.gantry.fault || blocked
    let beyond : Bool := wanted == .forward && s.effectiveBedEnd.any fun e => (e : Int) ≤ at_
    let arrived (h : Head) : Bool := approaching h && left h ≤ 10
    let engaged := [Head.a, Head.b].filter fun h => (s.headState h).engaged
    let braking (a : Nat) (d : Int) : Nat := 60 * Nat.sqrt (2 * a * d.toNat / 10)
    (stopped = true → t.gov.speed = 0 ∧ t.gov.direction = s.gov.direction) ∧
    (stopped = false → t.gov.direction = wanted) ∧
    (stopped = false → wanted ≠ s.gov.direction ∨ beyond = true ∨ arrived .a = true ∨ arrived .b = true →
      t.gov.speed = 0) ∧
    (∀ h, arrived h = true → order.split = false → t.headState h = .spinup) ∧
    (stopped = false → wanted = s.gov.direction → beyond = false → arrived .a = false → arrived .b = false →
      ∃ a target : Nat, (∃ h ∈ engaged, a = (s.head h).travelSet.acceleration) ∧
        (∀ h ∈ engaged, a ≤ (s.head h).travelSet.acceleration) ∧
        (let limits : List Nat :=
            (engaged.flatMap fun h =>
              if approaching h then (if welding then [] else [(s.head h).travelSet.approachSpeed]) ++ [braking a (left h)]
              else [(t.head h).travel.permitted]) ++
            (if wanted = .forward then (s.effectiveBedEnd.map fun e => braking a ((e : Int) - at_)).toList else [])
         target ∈ limits ∧ ∀ l ∈ limits, target ≤ l) ∧
        t.gov.speed = if s.gov.speed < target then min target (s.gov.speed + max 1 (a * 6 / 10)) else target)

end
end

