-- ==== Sys2Proof/Laws/State.lean ====
section
/-! SUPPORT. What each update of State leaves and sets, one lemma per field: no proof need unfold a record update. -/

namespace Sys2Proof.Machine

@[simp] theorem other_other (h : Head) : h.other.other = h := by cases h <;> rfl
@[simp] theorem other_ne (h : Head) : h.other ≠ h := by cases h <;> decide
@[simp] theorem ne_other (h : Head) : h ≠ h.other := by cases h <;> decide

/-- The two heads: the given one and the other. -/
theorem head_cases (h k : Head) : k = h ∨ k = h.other := by cases h <;> cases k <;> decide

/-! ### One head's unit -/

@[simp] theorem onHead_self (h : Head) (f : HeadUnit → HeadUnit) (s : State) :
    (s.onHead h f).head h = f (s.head h) := by cases h <;> rfl
@[simp] theorem onHead_other (h : Head) (f : HeadUnit → HeadUnit) (s : State) :
    (s.onHead h f).head h.other = s.head h.other := by cases h <;> rfl
@[simp] theorem onHead_of_other (h : Head) (f : HeadUnit → HeadUnit) (s : State) :
    (s.onHead h.other f).head h = s.head h := by cases h <;> rfl
@[simp] theorem onHead_gov (h : Head) (f : HeadUnit → HeadUnit) (s : State) : (s.onHead h f).gov = s.gov := by
  cases h <;> rfl
@[simp] theorem onHead_gantry (h : Head) (f : HeadUnit → HeadUnit) (s : State) : (s.onHead h f).gantry = s.gantry := by
  cases h <;> rfl
@[simp] theorem onHead_settings (h : Head) (f : HeadUnit → HeadUnit) (s : State) : (s.onHead h f).settings = s.settings := by
  cases h <;> rfl
@[simp] theorem onHead_lines (h : Head) (f : HeadUnit → HeadUnit) (s : State) : (s.onHead h f).lines = s.lines := by
  cases h <;> rfl
@[simp] theorem onHead_port (h : Head) (f : HeadUnit → HeadUnit) (s : State) : (s.onHead h f).port = s.port := by
  cases h <;> rfl
@[simp] theorem onHead_tracker (h : Head) (f : HeadUnit → HeadUnit) (s : State) : (s.onHead h f).tracker = s.tracker := by
  cases h <;> rfl
@[simp] theorem onHead_pins (h : Head) (f : HeadUnit → HeadUnit) (s : State) : (s.onHead h f).pins = s.pins := by
  cases h <;> rfl
@[simp] theorem onHead_straps (h : Head) (f : HeadUnit → HeadUnit) (s : State) : (s.onHead h f).straps = s.straps := by
  cases h <;> rfl
@[simp] theorem onHead_free (h : Head) (f : HeadUnit → HeadUnit) (s : State) : (s.onHead h f).free = s.free := by
  cases h <;> rfl
@[simp] theorem onHead_pending (h : Head) (f : HeadUnit → HeadUnit) (s : State) : (s.onHead h f).pending = s.pending := by
  cases h <;> rfl
@[simp] theorem onHead_present (h k : Head) (f : HeadUnit → HeadUnit) (s : State) :
    (s.onHead h f).present k = s.present k := by cases h <;> cases k <;> rfl

/-! ### onSeq -/

@[simp] theorem onSeq_self (h : Head) (f : Sequencer → Sequencer) (s : State) :
    (s.onSeq h f).head h = { s.head h with seq := f (s.head h).seq } := by cases h <;> rfl
@[simp] theorem onSeq_other (h : Head) (f : Sequencer → Sequencer) (s : State) :
    (s.onSeq h f).head h.other = s.head h.other := by cases h <;> rfl
@[simp] theorem onSeq_of_other (h : Head) (f : Sequencer → Sequencer) (s : State) :
    (s.onSeq h.other f).head h = s.head h := by cases h <;> rfl
@[simp] theorem onSeq_gov (h : Head) (f : Sequencer → Sequencer) (s : State) : (s.onSeq h f).gov = s.gov := by
  cases h <;> rfl
@[simp] theorem onSeq_gantry (h : Head) (f : Sequencer → Sequencer) (s : State) : (s.onSeq h f).gantry = s.gantry := by
  cases h <;> rfl
@[simp] theorem onSeq_settings (h : Head) (f : Sequencer → Sequencer) (s : State) : (s.onSeq h f).settings = s.settings := by
  cases h <;> rfl
@[simp] theorem onSeq_lines (h : Head) (f : Sequencer → Sequencer) (s : State) : (s.onSeq h f).lines = s.lines := by
  cases h <;> rfl
@[simp] theorem onSeq_port (h : Head) (f : Sequencer → Sequencer) (s : State) : (s.onSeq h f).port = s.port := by
  cases h <;> rfl
@[simp] theorem onSeq_tracker (h : Head) (f : Sequencer → Sequencer) (s : State) : (s.onSeq h f).tracker = s.tracker := by
  cases h <;> rfl
@[simp] theorem onSeq_pins (h : Head) (f : Sequencer → Sequencer) (s : State) : (s.onSeq h f).pins = s.pins := by
  cases h <;> rfl
@[simp] theorem onSeq_straps (h : Head) (f : Sequencer → Sequencer) (s : State) : (s.onSeq h f).straps = s.straps := by
  cases h <;> rfl
@[simp] theorem onSeq_free (h : Head) (f : Sequencer → Sequencer) (s : State) : (s.onSeq h f).free = s.free := by
  cases h <;> rfl
@[simp] theorem onSeq_pending (h : Head) (f : Sequencer → Sequencer) (s : State) : (s.onSeq h f).pending = s.pending := by
  cases h <;> rfl
@[simp] theorem onSeq_present (h k : Head) (f : Sequencer → Sequencer) (s : State) :
    (s.onSeq h f).present k = s.present k := by cases h <;> cases k <;> rfl
@[simp] theorem onSeq_head_plan (h k : Head) (f : Sequencer → Sequencer) (s : State) :
    ((s.onSeq h f).head k).plan = (s.head k).plan := by cases h <;> cases k <;> rfl
@[simp] theorem onSeq_head_reg (h k : Head) (f : Sequencer → Sequencer) (s : State) :
    ((s.onSeq h f).head k).reg = (s.head k).reg := by cases h <;> cases k <;> rfl
@[simp] theorem onSeq_head_track (h k : Head) (f : Sequencer → Sequencer) (s : State) :
    ((s.onSeq h f).head k).track = (s.head k).track := by cases h <;> cases k <;> rfl
@[simp] theorem onSeq_head_front (h k : Head) (f : Sequencer → Sequencer) (s : State) :
    ((s.onSeq h f).head k).front = (s.head k).front := by cases h <;> cases k <;> rfl
@[simp] theorem onSeq_head_profiles (h k : Head) (f : Sequencer → Sequencer) (s : State) :
    ((s.onSeq h f).head k).profiles = (s.head k).profiles := by cases h <;> cases k <;> rfl
@[simp] theorem onSeq_head_travel (h k : Head) (f : Sequencer → Sequencer) (s : State) :
    ((s.onSeq h f).head k).travel = (s.head k).travel := by cases h <;> cases k <;> rfl
@[simp] theorem onSeq_head_log (h k : Head) (f : Sequencer → Sequencer) (s : State) :
    ((s.onSeq h f).head k).log = (s.head k).log := by cases h <;> cases k <;> rfl
@[simp] theorem onSeq_head_drives (h k : Head) (f : Sequencer → Sequencer) (s : State) :
    ((s.onSeq h f).head k).drives = (s.head k).drives := by cases h <;> cases k <;> rfl
@[simp] theorem onSeq_head_applied (h k : Head) (f : Sequencer → Sequencer) (s : State) :
    ((s.onSeq h f).head k).applied = (s.head k).applied := by cases h <;> cases k <;> rfl
@[simp] theorem onSeq_commonUsed (h : Head) (f : Sequencer → Sequencer) (s : State) :
    (s.onSeq h f).commonUsed = s.commonUsed := by cases h <;> rfl
@[simp] theorem onSeq_level (h k : Head) (f : Sequencer → Sequencer) (s : State) :
    (s.onSeq h f).level k = s.level k := by cases h <;> cases k <;> rfl

/-! ### onPlan -/

@[simp] theorem onPlan_self (h : Head) (f : PlanStore → PlanStore) (s : State) :
    (s.onPlan h f).head h = { s.head h with plan := f (s.head h).plan } := by cases h <;> rfl
@[simp] theorem onPlan_other (h : Head) (f : PlanStore → PlanStore) (s : State) :
    (s.onPlan h f).head h.other = s.head h.other := by cases h <;> rfl
@[simp] theorem onPlan_of_other (h : Head) (f : PlanStore → PlanStore) (s : State) :
    (s.onPlan h.other f).head h = s.head h := by cases h <;> rfl
@[simp] theorem onPlan_gov (h : Head) (f : PlanStore → PlanStore) (s : State) : (s.onPlan h f).gov = s.gov := by
  cases h <;> rfl
@[simp] theorem onPlan_gantry (h : Head) (f : PlanStore → PlanStore) (s : State) : (s.onPlan h f).gantry = s.gantry := by
  cases h <;> rfl
@[simp] theorem onPlan_settings (h : Head) (f : PlanStore → PlanStore) (s : State) : (s.onPlan h f).settings = s.settings := by
  cases h <;> rfl
@[simp] theorem onPlan_lines (h : Head) (f : PlanStore → PlanStore) (s : State) : (s.onPlan h f).lines = s.lines := by
  cases h <;> rfl
@[simp] theorem onPlan_port (h : Head) (f : PlanStore → PlanStore) (s : State) : (s.onPlan h f).port = s.port := by
  cases h <;> rfl
@[simp] theorem onPlan_tracker (h : Head) (f : PlanStore → PlanStore) (s : State) : (s.onPlan h f).tracker = s.tracker := by
  cases h <;> rfl
@[simp] theorem onPlan_pins (h : Head) (f : PlanStore → PlanStore) (s : State) : (s.onPlan h f).pins = s.pins := by
  cases h <;> rfl
@[simp] theorem onPlan_straps (h : Head) (f : PlanStore → PlanStore) (s : State) : (s.onPlan h f).straps = s.straps := by
  cases h <;> rfl
@[simp] theorem onPlan_free (h : Head) (f : PlanStore → PlanStore) (s : State) : (s.onPlan h f).free = s.free := by
  cases h <;> rfl
@[simp] theorem onPlan_pending (h : Head) (f : PlanStore → PlanStore) (s : State) : (s.onPlan h f).pending = s.pending := by
  cases h <;> rfl
@[simp] theorem onPlan_present (h k : Head) (f : PlanStore → PlanStore) (s : State) :
    (s.onPlan h f).present k = s.present k := by cases h <;> cases k <;> rfl
@[simp] theorem onPlan_head_seq (h k : Head) (f : PlanStore → PlanStore) (s : State) :
    ((s.onPlan h f).head k).seq = (s.head k).seq := by cases h <;> cases k <;> rfl
@[simp] theorem onPlan_head_reg (h k : Head) (f : PlanStore → PlanStore) (s : State) :
    ((s.onPlan h f).head k).reg = (s.head k).reg := by cases h <;> cases k <;> rfl
@[simp] theorem onPlan_head_track (h k : Head) (f : PlanStore → PlanStore) (s : State) :
    ((s.onPlan h f).head k).track = (s.head k).track := by cases h <;> cases k <;> rfl
@[simp] theorem onPlan_head_front (h k : Head) (f : PlanStore → PlanStore) (s : State) :
    ((s.onPlan h f).head k).front = (s.head k).front := by cases h <;> cases k <;> rfl
@[simp] theorem onPlan_head_profiles (h k : Head) (f : PlanStore → PlanStore) (s : State) :
    ((s.onPlan h f).head k).profiles = (s.head k).profiles := by cases h <;> cases k <;> rfl
@[simp] theorem onPlan_head_travel (h k : Head) (f : PlanStore → PlanStore) (s : State) :
    ((s.onPlan h f).head k).travel = (s.head k).travel := by cases h <;> cases k <;> rfl
@[simp] theorem onPlan_head_log (h k : Head) (f : PlanStore → PlanStore) (s : State) :
    ((s.onPlan h f).head k).log = (s.head k).log := by cases h <;> cases k <;> rfl
@[simp] theorem onPlan_head_drives (h k : Head) (f : PlanStore → PlanStore) (s : State) :
    ((s.onPlan h f).head k).drives = (s.head k).drives := by cases h <;> cases k <;> rfl
@[simp] theorem onPlan_head_applied (h k : Head) (f : PlanStore → PlanStore) (s : State) :
    ((s.onPlan h f).head k).applied = (s.head k).applied := by cases h <;> cases k <;> rfl
@[simp] theorem onPlan_headState (h k : Head) (f : PlanStore → PlanStore) (s : State) :
    (s.onPlan h f).headState k = s.headState k := by cases h <;> cases k <;> rfl
@[simp] theorem onPlan_toolStation (h k : Head) (f : PlanStore → PlanStore) (s : State) :
    (s.onPlan h f).toolStation k = s.toolStation k := by cases h <;> cases k <;> rfl
@[simp] theorem onPlan_commonUsed (h : Head) (f : PlanStore → PlanStore) (s : State) :
    (s.onPlan h f).commonUsed = s.commonUsed := by cases h <;> rfl
@[simp] theorem onPlan_level (h k : Head) (f : PlanStore → PlanStore) (s : State) :
    (s.onPlan h f).level k = s.level k := by cases h <;> cases k <;> rfl

/-! ### onReg -/

@[simp] theorem onReg_self (h : Head) (f : Regulator → Regulator) (s : State) :
    (s.onReg h f).head h = { s.head h with reg := f (s.head h).reg } := by cases h <;> rfl
@[simp] theorem onReg_other (h : Head) (f : Regulator → Regulator) (s : State) :
    (s.onReg h f).head h.other = s.head h.other := by cases h <;> rfl
@[simp] theorem onReg_of_other (h : Head) (f : Regulator → Regulator) (s : State) :
    (s.onReg h.other f).head h = s.head h := by cases h <;> rfl
@[simp] theorem onReg_gov (h : Head) (f : Regulator → Regulator) (s : State) : (s.onReg h f).gov = s.gov := by
  cases h <;> rfl
@[simp] theorem onReg_gantry (h : Head) (f : Regulator → Regulator) (s : State) : (s.onReg h f).gantry = s.gantry := by
  cases h <;> rfl
@[simp] theorem onReg_settings (h : Head) (f : Regulator → Regulator) (s : State) : (s.onReg h f).settings = s.settings := by
  cases h <;> rfl
@[simp] theorem onReg_lines (h : Head) (f : Regulator → Regulator) (s : State) : (s.onReg h f).lines = s.lines := by
  cases h <;> rfl
@[simp] theorem onReg_port (h : Head) (f : Regulator → Regulator) (s : State) : (s.onReg h f).port = s.port := by
  cases h <;> rfl
@[simp] theorem onReg_tracker (h : Head) (f : Regulator → Regulator) (s : State) : (s.onReg h f).tracker = s.tracker := by
  cases h <;> rfl
@[simp] theorem onReg_pins (h : Head) (f : Regulator → Regulator) (s : State) : (s.onReg h f).pins = s.pins := by
  cases h <;> rfl
@[simp] theorem onReg_straps (h : Head) (f : Regulator → Regulator) (s : State) : (s.onReg h f).straps = s.straps := by
  cases h <;> rfl
@[simp] theorem onReg_free (h : Head) (f : Regulator → Regulator) (s : State) : (s.onReg h f).free = s.free := by
  cases h <;> rfl
@[simp] theorem onReg_pending (h : Head) (f : Regulator → Regulator) (s : State) : (s.onReg h f).pending = s.pending := by
  cases h <;> rfl
@[simp] theorem onReg_present (h k : Head) (f : Regulator → Regulator) (s : State) :
    (s.onReg h f).present k = s.present k := by cases h <;> cases k <;> rfl
@[simp] theorem onReg_head_seq (h k : Head) (f : Regulator → Regulator) (s : State) :
    ((s.onReg h f).head k).seq = (s.head k).seq := by cases h <;> cases k <;> rfl
@[simp] theorem onReg_head_plan (h k : Head) (f : Regulator → Regulator) (s : State) :
    ((s.onReg h f).head k).plan = (s.head k).plan := by cases h <;> cases k <;> rfl
@[simp] theorem onReg_head_track (h k : Head) (f : Regulator → Regulator) (s : State) :
    ((s.onReg h f).head k).track = (s.head k).track := by cases h <;> cases k <;> rfl
@[simp] theorem onReg_head_front (h k : Head) (f : Regulator → Regulator) (s : State) :
    ((s.onReg h f).head k).front = (s.head k).front := by cases h <;> cases k <;> rfl
@[simp] theorem onReg_head_profiles (h k : Head) (f : Regulator → Regulator) (s : State) :
    ((s.onReg h f).head k).profiles = (s.head k).profiles := by cases h <;> cases k <;> rfl
@[simp] theorem onReg_head_travel (h k : Head) (f : Regulator → Regulator) (s : State) :
    ((s.onReg h f).head k).travel = (s.head k).travel := by cases h <;> cases k <;> rfl
@[simp] theorem onReg_head_log (h k : Head) (f : Regulator → Regulator) (s : State) :
    ((s.onReg h f).head k).log = (s.head k).log := by cases h <;> cases k <;> rfl
@[simp] theorem onReg_head_drives (h k : Head) (f : Regulator → Regulator) (s : State) :
    ((s.onReg h f).head k).drives = (s.head k).drives := by cases h <;> cases k <;> rfl
@[simp] theorem onReg_head_applied (h k : Head) (f : Regulator → Regulator) (s : State) :
    ((s.onReg h f).head k).applied = (s.head k).applied := by cases h <;> cases k <;> rfl
@[simp] theorem onReg_headState (h k : Head) (f : Regulator → Regulator) (s : State) :
    (s.onReg h f).headState k = s.headState k := by cases h <;> cases k <;> rfl
@[simp] theorem onReg_toolStation (h k : Head) (f : Regulator → Regulator) (s : State) :
    (s.onReg h f).toolStation k = s.toolStation k := by cases h <;> cases k <;> rfl
@[simp] theorem onReg_commonUsed (h : Head) (f : Regulator → Regulator) (s : State) :
    (s.onReg h f).commonUsed = s.commonUsed := by cases h <;> rfl
@[simp] theorem onReg_level (h k : Head) (f : Regulator → Regulator) (s : State) :
    (s.onReg h f).level k = s.level k := by cases h <;> cases k <;> rfl

/-! ### onTrack -/

@[simp] theorem onTrack_self (h : Head) (f : Tracking → Tracking) (s : State) :
    (s.onTrack h f).head h = { s.head h with track := f (s.head h).track } := by cases h <;> rfl
@[simp] theorem onTrack_other (h : Head) (f : Tracking → Tracking) (s : State) :
    (s.onTrack h f).head h.other = s.head h.other := by cases h <;> rfl
@[simp] theorem onTrack_of_other (h : Head) (f : Tracking → Tracking) (s : State) :
    (s.onTrack h.other f).head h = s.head h := by cases h <;> rfl
@[simp] theorem onTrack_gov (h : Head) (f : Tracking → Tracking) (s : State) : (s.onTrack h f).gov = s.gov := by
  cases h <;> rfl
@[simp] theorem onTrack_gantry (h : Head) (f : Tracking → Tracking) (s : State) : (s.onTrack h f).gantry = s.gantry := by
  cases h <;> rfl
@[simp] theorem onTrack_settings (h : Head) (f : Tracking → Tracking) (s : State) : (s.onTrack h f).settings = s.settings := by
  cases h <;> rfl
@[simp] theorem onTrack_lines (h : Head) (f : Tracking → Tracking) (s : State) : (s.onTrack h f).lines = s.lines := by
  cases h <;> rfl
@[simp] theorem onTrack_port (h : Head) (f : Tracking → Tracking) (s : State) : (s.onTrack h f).port = s.port := by
  cases h <;> rfl
@[simp] theorem onTrack_tracker (h : Head) (f : Tracking → Tracking) (s : State) : (s.onTrack h f).tracker = s.tracker := by
  cases h <;> rfl
@[simp] theorem onTrack_pins (h : Head) (f : Tracking → Tracking) (s : State) : (s.onTrack h f).pins = s.pins := by
  cases h <;> rfl
@[simp] theorem onTrack_straps (h : Head) (f : Tracking → Tracking) (s : State) : (s.onTrack h f).straps = s.straps := by
  cases h <;> rfl
@[simp] theorem onTrack_free (h : Head) (f : Tracking → Tracking) (s : State) : (s.onTrack h f).free = s.free := by
  cases h <;> rfl
@[simp] theorem onTrack_pending (h : Head) (f : Tracking → Tracking) (s : State) : (s.onTrack h f).pending = s.pending := by
  cases h <;> rfl
@[simp] theorem onTrack_present (h k : Head) (f : Tracking → Tracking) (s : State) :
    (s.onTrack h f).present k = s.present k := by cases h <;> cases k <;> rfl
@[simp] theorem onTrack_head_seq (h k : Head) (f : Tracking → Tracking) (s : State) :
    ((s.onTrack h f).head k).seq = (s.head k).seq := by cases h <;> cases k <;> rfl
@[simp] theorem onTrack_head_plan (h k : Head) (f : Tracking → Tracking) (s : State) :
    ((s.onTrack h f).head k).plan = (s.head k).plan := by cases h <;> cases k <;> rfl
@[simp] theorem onTrack_head_reg (h k : Head) (f : Tracking → Tracking) (s : State) :
    ((s.onTrack h f).head k).reg = (s.head k).reg := by cases h <;> cases k <;> rfl
@[simp] theorem onTrack_head_front (h k : Head) (f : Tracking → Tracking) (s : State) :
    ((s.onTrack h f).head k).front = (s.head k).front := by cases h <;> cases k <;> rfl
@[simp] theorem onTrack_head_profiles (h k : Head) (f : Tracking → Tracking) (s : State) :
    ((s.onTrack h f).head k).profiles = (s.head k).profiles := by cases h <;> cases k <;> rfl
@[simp] theorem onTrack_head_travel (h k : Head) (f : Tracking → Tracking) (s : State) :
    ((s.onTrack h f).head k).travel = (s.head k).travel := by cases h <;> cases k <;> rfl
@[simp] theorem onTrack_head_log (h k : Head) (f : Tracking → Tracking) (s : State) :
    ((s.onTrack h f).head k).log = (s.head k).log := by cases h <;> cases k <;> rfl
@[simp] theorem onTrack_head_drives (h k : Head) (f : Tracking → Tracking) (s : State) :
    ((s.onTrack h f).head k).drives = (s.head k).drives := by cases h <;> cases k <;> rfl
@[simp] theorem onTrack_head_applied (h k : Head) (f : Tracking → Tracking) (s : State) :
    ((s.onTrack h f).head k).applied = (s.head k).applied := by cases h <;> cases k <;> rfl
@[simp] theorem onTrack_headState (h k : Head) (f : Tracking → Tracking) (s : State) :
    (s.onTrack h f).headState k = s.headState k := by cases h <;> cases k <;> rfl
@[simp] theorem onTrack_toolStation (h k : Head) (f : Tracking → Tracking) (s : State) :
    (s.onTrack h f).toolStation k = s.toolStation k := by cases h <;> cases k <;> rfl
@[simp] theorem onTrack_commonUsed (h : Head) (f : Tracking → Tracking) (s : State) :
    (s.onTrack h f).commonUsed = s.commonUsed := by cases h <;> rfl
@[simp] theorem onTrack_level (h k : Head) (f : Tracking → Tracking) (s : State) :
    (s.onTrack h f).level k = s.level k := by cases h <;> cases k <;> rfl

/-! ### onFront -/

@[simp] theorem onFront_self (h : Head) (f : FrontEnd → FrontEnd) (s : State) :
    (s.onFront h f).head h = { s.head h with front := f (s.head h).front } := by cases h <;> rfl
@[simp] theorem onFront_other (h : Head) (f : FrontEnd → FrontEnd) (s : State) :
    (s.onFront h f).head h.other = s.head h.other := by cases h <;> rfl
@[simp] theorem onFront_of_other (h : Head) (f : FrontEnd → FrontEnd) (s : State) :
    (s.onFront h.other f).head h = s.head h := by cases h <;> rfl
@[simp] theorem onFront_gov (h : Head) (f : FrontEnd → FrontEnd) (s : State) : (s.onFront h f).gov = s.gov := by
  cases h <;> rfl
@[simp] theorem onFront_gantry (h : Head) (f : FrontEnd → FrontEnd) (s : State) : (s.onFront h f).gantry = s.gantry := by
  cases h <;> rfl
@[simp] theorem onFront_settings (h : Head) (f : FrontEnd → FrontEnd) (s : State) : (s.onFront h f).settings = s.settings := by
  cases h <;> rfl
@[simp] theorem onFront_lines (h : Head) (f : FrontEnd → FrontEnd) (s : State) : (s.onFront h f).lines = s.lines := by
  cases h <;> rfl
@[simp] theorem onFront_port (h : Head) (f : FrontEnd → FrontEnd) (s : State) : (s.onFront h f).port = s.port := by
  cases h <;> rfl
@[simp] theorem onFront_tracker (h : Head) (f : FrontEnd → FrontEnd) (s : State) : (s.onFront h f).tracker = s.tracker := by
  cases h <;> rfl
@[simp] theorem onFront_pins (h : Head) (f : FrontEnd → FrontEnd) (s : State) : (s.onFront h f).pins = s.pins := by
  cases h <;> rfl
@[simp] theorem onFront_straps (h : Head) (f : FrontEnd → FrontEnd) (s : State) : (s.onFront h f).straps = s.straps := by
  cases h <;> rfl
@[simp] theorem onFront_free (h : Head) (f : FrontEnd → FrontEnd) (s : State) : (s.onFront h f).free = s.free := by
  cases h <;> rfl
@[simp] theorem onFront_pending (h : Head) (f : FrontEnd → FrontEnd) (s : State) : (s.onFront h f).pending = s.pending := by
  cases h <;> rfl
@[simp] theorem onFront_present (h k : Head) (f : FrontEnd → FrontEnd) (s : State) :
    (s.onFront h f).present k = s.present k := by cases h <;> cases k <;> rfl
@[simp] theorem onFront_head_seq (h k : Head) (f : FrontEnd → FrontEnd) (s : State) :
    ((s.onFront h f).head k).seq = (s.head k).seq := by cases h <;> cases k <;> rfl
@[simp] theorem onFront_head_plan (h k : Head) (f : FrontEnd → FrontEnd) (s : State) :
    ((s.onFront h f).head k).plan = (s.head k).plan := by cases h <;> cases k <;> rfl
@[simp] theorem onFront_head_reg (h k : Head) (f : FrontEnd → FrontEnd) (s : State) :
    ((s.onFront h f).head k).reg = (s.head k).reg := by cases h <;> cases k <;> rfl
@[simp] theorem onFront_head_track (h k : Head) (f : FrontEnd → FrontEnd) (s : State) :
    ((s.onFront h f).head k).track = (s.head k).track := by cases h <;> cases k <;> rfl
@[simp] theorem onFront_head_profiles (h k : Head) (f : FrontEnd → FrontEnd) (s : State) :
    ((s.onFront h f).head k).profiles = (s.head k).profiles := by cases h <;> cases k <;> rfl
@[simp] theorem onFront_head_travel (h k : Head) (f : FrontEnd → FrontEnd) (s : State) :
    ((s.onFront h f).head k).travel = (s.head k).travel := by cases h <;> cases k <;> rfl
@[simp] theorem onFront_head_log (h k : Head) (f : FrontEnd → FrontEnd) (s : State) :
    ((s.onFront h f).head k).log = (s.head k).log := by cases h <;> cases k <;> rfl
@[simp] theorem onFront_head_drives (h k : Head) (f : FrontEnd → FrontEnd) (s : State) :
    ((s.onFront h f).head k).drives = (s.head k).drives := by cases h <;> cases k <;> rfl
@[simp] theorem onFront_head_applied (h k : Head) (f : FrontEnd → FrontEnd) (s : State) :
    ((s.onFront h f).head k).applied = (s.head k).applied := by cases h <;> cases k <;> rfl
@[simp] theorem onFront_headState (h k : Head) (f : FrontEnd → FrontEnd) (s : State) :
    (s.onFront h f).headState k = s.headState k := by cases h <;> cases k <;> rfl
@[simp] theorem onFront_toolStation (h k : Head) (f : FrontEnd → FrontEnd) (s : State) :
    (s.onFront h f).toolStation k = s.toolStation k := by cases h <;> cases k <;> rfl
@[simp] theorem onFront_commonUsed (h : Head) (f : FrontEnd → FrontEnd) (s : State) :
    (s.onFront h f).commonUsed = s.commonUsed := by cases h <;> rfl
@[simp] theorem onFront_level (h k : Head) (f : FrontEnd → FrontEnd) (s : State) :
    (s.onFront h f).level k = s.level k := by cases h <;> cases k <;> rfl

/-! ### onProfiles -/

@[simp] theorem onProfiles_self (h : Head) (f : ProfileStore → ProfileStore) (s : State) :
    (s.onProfiles h f).head h = { s.head h with profiles := f (s.head h).profiles } := by cases h <;> rfl
@[simp] theorem onProfiles_other (h : Head) (f : ProfileStore → ProfileStore) (s : State) :
    (s.onProfiles h f).head h.other = s.head h.other := by cases h <;> rfl
@[simp] theorem onProfiles_of_other (h : Head) (f : ProfileStore → ProfileStore) (s : State) :
    (s.onProfiles h.other f).head h = s.head h := by cases h <;> rfl
@[simp] theorem onProfiles_gov (h : Head) (f : ProfileStore → ProfileStore) (s : State) : (s.onProfiles h f).gov = s.gov := by
  cases h <;> rfl
@[simp] theorem onProfiles_gantry (h : Head) (f : ProfileStore → ProfileStore) (s : State) : (s.onProfiles h f).gantry = s.gantry := by
  cases h <;> rfl
@[simp] theorem onProfiles_settings (h : Head) (f : ProfileStore → ProfileStore) (s : State) : (s.onProfiles h f).settings = s.settings := by
  cases h <;> rfl
@[simp] theorem onProfiles_lines (h : Head) (f : ProfileStore → ProfileStore) (s : State) : (s.onProfiles h f).lines = s.lines := by
  cases h <;> rfl
@[simp] theorem onProfiles_port (h : Head) (f : ProfileStore → ProfileStore) (s : State) : (s.onProfiles h f).port = s.port := by
  cases h <;> rfl
@[simp] theorem onProfiles_tracker (h : Head) (f : ProfileStore → ProfileStore) (s : State) : (s.onProfiles h f).tracker = s.tracker := by
  cases h <;> rfl
@[simp] theorem onProfiles_pins (h : Head) (f : ProfileStore → ProfileStore) (s : State) : (s.onProfiles h f).pins = s.pins := by
  cases h <;> rfl
@[simp] theorem onProfiles_straps (h : Head) (f : ProfileStore → ProfileStore) (s : State) : (s.onProfiles h f).straps = s.straps := by
  cases h <;> rfl
@[simp] theorem onProfiles_free (h : Head) (f : ProfileStore → ProfileStore) (s : State) : (s.onProfiles h f).free = s.free := by
  cases h <;> rfl
@[simp] theorem onProfiles_pending (h : Head) (f : ProfileStore → ProfileStore) (s : State) : (s.onProfiles h f).pending = s.pending := by
  cases h <;> rfl
@[simp] theorem onProfiles_present (h k : Head) (f : ProfileStore → ProfileStore) (s : State) :
    (s.onProfiles h f).present k = s.present k := by cases h <;> cases k <;> rfl
@[simp] theorem onProfiles_head_seq (h k : Head) (f : ProfileStore → ProfileStore) (s : State) :
    ((s.onProfiles h f).head k).seq = (s.head k).seq := by cases h <;> cases k <;> rfl
@[simp] theorem onProfiles_head_plan (h k : Head) (f : ProfileStore → ProfileStore) (s : State) :
    ((s.onProfiles h f).head k).plan = (s.head k).plan := by cases h <;> cases k <;> rfl
@[simp] theorem onProfiles_head_reg (h k : Head) (f : ProfileStore → ProfileStore) (s : State) :
    ((s.onProfiles h f).head k).reg = (s.head k).reg := by cases h <;> cases k <;> rfl
@[simp] theorem onProfiles_head_track (h k : Head) (f : ProfileStore → ProfileStore) (s : State) :
    ((s.onProfiles h f).head k).track = (s.head k).track := by cases h <;> cases k <;> rfl
@[simp] theorem onProfiles_head_front (h k : Head) (f : ProfileStore → ProfileStore) (s : State) :
    ((s.onProfiles h f).head k).front = (s.head k).front := by cases h <;> cases k <;> rfl
@[simp] theorem onProfiles_head_travel (h k : Head) (f : ProfileStore → ProfileStore) (s : State) :
    ((s.onProfiles h f).head k).travel = (s.head k).travel := by cases h <;> cases k <;> rfl
@[simp] theorem onProfiles_head_log (h k : Head) (f : ProfileStore → ProfileStore) (s : State) :
    ((s.onProfiles h f).head k).log = (s.head k).log := by cases h <;> cases k <;> rfl
@[simp] theorem onProfiles_head_drives (h k : Head) (f : ProfileStore → ProfileStore) (s : State) :
    ((s.onProfiles h f).head k).drives = (s.head k).drives := by cases h <;> cases k <;> rfl
@[simp] theorem onProfiles_head_applied (h k : Head) (f : ProfileStore → ProfileStore) (s : State) :
    ((s.onProfiles h f).head k).applied = (s.head k).applied := by cases h <;> cases k <;> rfl
@[simp] theorem onProfiles_headState (h k : Head) (f : ProfileStore → ProfileStore) (s : State) :
    (s.onProfiles h f).headState k = s.headState k := by cases h <;> cases k <;> rfl
@[simp] theorem onProfiles_toolStation (h k : Head) (f : ProfileStore → ProfileStore) (s : State) :
    (s.onProfiles h f).toolStation k = s.toolStation k := by cases h <;> cases k <;> rfl
@[simp] theorem onProfiles_commonUsed (h : Head) (f : ProfileStore → ProfileStore) (s : State) :
    (s.onProfiles h f).commonUsed = s.commonUsed := by cases h <;> rfl
@[simp] theorem onProfiles_level (h k : Head) (f : ProfileStore → ProfileStore) (s : State) :
    (s.onProfiles h f).level k = s.level k := by cases h <;> cases k <;> rfl

/-! ### onTravel -/

@[simp] theorem onTravel_self (h : Head) (f : HeadTravel → HeadTravel) (s : State) :
    (s.onTravel h f).head h = { s.head h with travel := f (s.head h).travel } := by cases h <;> rfl
@[simp] theorem onTravel_other (h : Head) (f : HeadTravel → HeadTravel) (s : State) :
    (s.onTravel h f).head h.other = s.head h.other := by cases h <;> rfl
@[simp] theorem onTravel_of_other (h : Head) (f : HeadTravel → HeadTravel) (s : State) :
    (s.onTravel h.other f).head h = s.head h := by cases h <;> rfl
@[simp] theorem onTravel_gov (h : Head) (f : HeadTravel → HeadTravel) (s : State) : (s.onTravel h f).gov = s.gov := by
  cases h <;> rfl
@[simp] theorem onTravel_gantry (h : Head) (f : HeadTravel → HeadTravel) (s : State) : (s.onTravel h f).gantry = s.gantry := by
  cases h <;> rfl
@[simp] theorem onTravel_settings (h : Head) (f : HeadTravel → HeadTravel) (s : State) : (s.onTravel h f).settings = s.settings := by
  cases h <;> rfl
@[simp] theorem onTravel_lines (h : Head) (f : HeadTravel → HeadTravel) (s : State) : (s.onTravel h f).lines = s.lines := by
  cases h <;> rfl
@[simp] theorem onTravel_port (h : Head) (f : HeadTravel → HeadTravel) (s : State) : (s.onTravel h f).port = s.port := by
  cases h <;> rfl
@[simp] theorem onTravel_tracker (h : Head) (f : HeadTravel → HeadTravel) (s : State) : (s.onTravel h f).tracker = s.tracker := by
  cases h <;> rfl
@[simp] theorem onTravel_pins (h : Head) (f : HeadTravel → HeadTravel) (s : State) : (s.onTravel h f).pins = s.pins := by
  cases h <;> rfl
@[simp] theorem onTravel_straps (h : Head) (f : HeadTravel → HeadTravel) (s : State) : (s.onTravel h f).straps = s.straps := by
  cases h <;> rfl
@[simp] theorem onTravel_free (h : Head) (f : HeadTravel → HeadTravel) (s : State) : (s.onTravel h f).free = s.free := by
  cases h <;> rfl
@[simp] theorem onTravel_pending (h : Head) (f : HeadTravel → HeadTravel) (s : State) : (s.onTravel h f).pending = s.pending := by
  cases h <;> rfl
@[simp] theorem onTravel_present (h k : Head) (f : HeadTravel → HeadTravel) (s : State) :
    (s.onTravel h f).present k = s.present k := by cases h <;> cases k <;> rfl
@[simp] theorem onTravel_head_seq (h k : Head) (f : HeadTravel → HeadTravel) (s : State) :
    ((s.onTravel h f).head k).seq = (s.head k).seq := by cases h <;> cases k <;> rfl
@[simp] theorem onTravel_head_plan (h k : Head) (f : HeadTravel → HeadTravel) (s : State) :
    ((s.onTravel h f).head k).plan = (s.head k).plan := by cases h <;> cases k <;> rfl
@[simp] theorem onTravel_head_reg (h k : Head) (f : HeadTravel → HeadTravel) (s : State) :
    ((s.onTravel h f).head k).reg = (s.head k).reg := by cases h <;> cases k <;> rfl
@[simp] theorem onTravel_head_track (h k : Head) (f : HeadTravel → HeadTravel) (s : State) :
    ((s.onTravel h f).head k).track = (s.head k).track := by cases h <;> cases k <;> rfl
@[simp] theorem onTravel_head_front (h k : Head) (f : HeadTravel → HeadTravel) (s : State) :
    ((s.onTravel h f).head k).front = (s.head k).front := by cases h <;> cases k <;> rfl
@[simp] theorem onTravel_head_profiles (h k : Head) (f : HeadTravel → HeadTravel) (s : State) :
    ((s.onTravel h f).head k).profiles = (s.head k).profiles := by cases h <;> cases k <;> rfl
@[simp] theorem onTravel_head_log (h k : Head) (f : HeadTravel → HeadTravel) (s : State) :
    ((s.onTravel h f).head k).log = (s.head k).log := by cases h <;> cases k <;> rfl
@[simp] theorem onTravel_head_drives (h k : Head) (f : HeadTravel → HeadTravel) (s : State) :
    ((s.onTravel h f).head k).drives = (s.head k).drives := by cases h <;> cases k <;> rfl
@[simp] theorem onTravel_head_applied (h k : Head) (f : HeadTravel → HeadTravel) (s : State) :
    ((s.onTravel h f).head k).applied = (s.head k).applied := by cases h <;> cases k <;> rfl
@[simp] theorem onTravel_headState (h k : Head) (f : HeadTravel → HeadTravel) (s : State) :
    (s.onTravel h f).headState k = s.headState k := by cases h <;> cases k <;> rfl
@[simp] theorem onTravel_toolStation (h k : Head) (f : HeadTravel → HeadTravel) (s : State) :
    (s.onTravel h f).toolStation k = s.toolStation k := by cases h <;> cases k <;> rfl
@[simp] theorem onTravel_commonUsed (h : Head) (f : HeadTravel → HeadTravel) (s : State) :
    (s.onTravel h f).commonUsed = s.commonUsed := by cases h <;> rfl
@[simp] theorem onTravel_level (h k : Head) (f : HeadTravel → HeadTravel) (s : State) :
    (s.onTravel h f).level k = s.level k := by cases h <;> cases k <;> rfl

/-! ### onLog -/

@[simp] theorem onLog_self (h : Head) (f : HeadLog → HeadLog) (s : State) :
    (s.onLog h f).head h = { s.head h with log := f (s.head h).log } := by cases h <;> rfl
@[simp] theorem onLog_other (h : Head) (f : HeadLog → HeadLog) (s : State) :
    (s.onLog h f).head h.other = s.head h.other := by cases h <;> rfl
@[simp] theorem onLog_of_other (h : Head) (f : HeadLog → HeadLog) (s : State) :
    (s.onLog h.other f).head h = s.head h := by cases h <;> rfl
@[simp] theorem onLog_gov (h : Head) (f : HeadLog → HeadLog) (s : State) : (s.onLog h f).gov = s.gov := by
  cases h <;> rfl
@[simp] theorem onLog_gantry (h : Head) (f : HeadLog → HeadLog) (s : State) : (s.onLog h f).gantry = s.gantry := by
  cases h <;> rfl
@[simp] theorem onLog_settings (h : Head) (f : HeadLog → HeadLog) (s : State) : (s.onLog h f).settings = s.settings := by
  cases h <;> rfl
@[simp] theorem onLog_lines (h : Head) (f : HeadLog → HeadLog) (s : State) : (s.onLog h f).lines = s.lines := by
  cases h <;> rfl
@[simp] theorem onLog_port (h : Head) (f : HeadLog → HeadLog) (s : State) : (s.onLog h f).port = s.port := by
  cases h <;> rfl
@[simp] theorem onLog_tracker (h : Head) (f : HeadLog → HeadLog) (s : State) : (s.onLog h f).tracker = s.tracker := by
  cases h <;> rfl
@[simp] theorem onLog_pins (h : Head) (f : HeadLog → HeadLog) (s : State) : (s.onLog h f).pins = s.pins := by
  cases h <;> rfl
@[simp] theorem onLog_straps (h : Head) (f : HeadLog → HeadLog) (s : State) : (s.onLog h f).straps = s.straps := by
  cases h <;> rfl
@[simp] theorem onLog_free (h : Head) (f : HeadLog → HeadLog) (s : State) : (s.onLog h f).free = s.free := by
  cases h <;> rfl
@[simp] theorem onLog_pending (h : Head) (f : HeadLog → HeadLog) (s : State) : (s.onLog h f).pending = s.pending := by
  cases h <;> rfl
@[simp] theorem onLog_present (h k : Head) (f : HeadLog → HeadLog) (s : State) :
    (s.onLog h f).present k = s.present k := by cases h <;> cases k <;> rfl
@[simp] theorem onLog_head_seq (h k : Head) (f : HeadLog → HeadLog) (s : State) :
    ((s.onLog h f).head k).seq = (s.head k).seq := by cases h <;> cases k <;> rfl
@[simp] theorem onLog_head_plan (h k : Head) (f : HeadLog → HeadLog) (s : State) :
    ((s.onLog h f).head k).plan = (s.head k).plan := by cases h <;> cases k <;> rfl
@[simp] theorem onLog_head_reg (h k : Head) (f : HeadLog → HeadLog) (s : State) :
    ((s.onLog h f).head k).reg = (s.head k).reg := by cases h <;> cases k <;> rfl
@[simp] theorem onLog_head_track (h k : Head) (f : HeadLog → HeadLog) (s : State) :
    ((s.onLog h f).head k).track = (s.head k).track := by cases h <;> cases k <;> rfl
@[simp] theorem onLog_head_front (h k : Head) (f : HeadLog → HeadLog) (s : State) :
    ((s.onLog h f).head k).front = (s.head k).front := by cases h <;> cases k <;> rfl
@[simp] theorem onLog_head_profiles (h k : Head) (f : HeadLog → HeadLog) (s : State) :
    ((s.onLog h f).head k).profiles = (s.head k).profiles := by cases h <;> cases k <;> rfl
@[simp] theorem onLog_head_travel (h k : Head) (f : HeadLog → HeadLog) (s : State) :
    ((s.onLog h f).head k).travel = (s.head k).travel := by cases h <;> cases k <;> rfl
@[simp] theorem onLog_head_drives (h k : Head) (f : HeadLog → HeadLog) (s : State) :
    ((s.onLog h f).head k).drives = (s.head k).drives := by cases h <;> cases k <;> rfl
@[simp] theorem onLog_head_applied (h k : Head) (f : HeadLog → HeadLog) (s : State) :
    ((s.onLog h f).head k).applied = (s.head k).applied := by cases h <;> cases k <;> rfl
@[simp] theorem onLog_headState (h k : Head) (f : HeadLog → HeadLog) (s : State) :
    (s.onLog h f).headState k = s.headState k := by cases h <;> cases k <;> rfl
@[simp] theorem onLog_toolStation (h k : Head) (f : HeadLog → HeadLog) (s : State) :
    (s.onLog h f).toolStation k = s.toolStation k := by cases h <;> cases k <;> rfl

@[simp] theorem onSeq_headState_self (h : Head) (f : Sequencer → Sequencer) (s : State) :
    (s.onSeq h f).headState h = (f (s.head h).seq).state := by cases h <;> rfl
@[simp] theorem onSeq_headState_other (h : Head) (f : Sequencer → Sequencer) (s : State) :
    (s.onSeq h f).headState h.other = s.headState h.other := by cases h <;> rfl

/-! ### Governor, port, line counters, the free-value counter -/

@[simp] theorem onGov_self (f : Governor → Governor) (s : State) : (s.onGov f).gov = f s.gov := rfl
@[simp] theorem onGov_head (f : Governor → Governor) (s : State) (h : Head) : (s.onGov f).head h = s.head h := by cases h <;> rfl
@[simp] theorem onGov_headState (f : Governor → Governor) (s : State) (h : Head) : (s.onGov f).headState h = s.headState h := by
  cases h <;> rfl
@[simp] theorem onGov_present (f : Governor → Governor) (s : State) (h : Head) : (s.onGov f).present h = s.present h := by
  cases h <;> rfl
@[simp] theorem onGov_toolStation (f : Governor → Governor) (s : State) (h : Head) : (s.onGov f).toolStation h = s.toolStation h := by
  cases h <;> rfl
@[simp] theorem onGov_commonUsed (f : Governor → Governor) (s : State) : (s.onGov f).commonUsed = s.commonUsed := rfl
@[simp] theorem onGov_gantry (f : Governor → Governor) (s : State) : (s.onGov f).gantry = s.gantry := rfl
@[simp] theorem onGov_settings (f : Governor → Governor) (s : State) : (s.onGov f).settings = s.settings := rfl
@[simp] theorem onGov_lines (f : Governor → Governor) (s : State) : (s.onGov f).lines = s.lines := rfl
@[simp] theorem onGov_port (f : Governor → Governor) (s : State) : (s.onGov f).port = s.port := rfl
@[simp] theorem onGov_tracker (f : Governor → Governor) (s : State) : (s.onGov f).tracker = s.tracker := rfl
@[simp] theorem onGov_pins (f : Governor → Governor) (s : State) : (s.onGov f).pins = s.pins := rfl
@[simp] theorem onGov_straps (f : Governor → Governor) (s : State) : (s.onGov f).straps = s.straps := rfl
@[simp] theorem onGov_free (f : Governor → Governor) (s : State) : (s.onGov f).free = s.free := rfl
@[simp] theorem onGov_pending (f : Governor → Governor) (s : State) : (s.onGov f).pending = s.pending := rfl

@[simp] theorem onPort_self (f : Port → Port) (s : State) : (s.onPort f).port = f s.port := rfl
@[simp] theorem onPort_head (f : Port → Port) (s : State) (h : Head) : (s.onPort f).head h = s.head h := by cases h <;> rfl
@[simp] theorem onPort_headState (f : Port → Port) (s : State) (h : Head) : (s.onPort f).headState h = s.headState h := by
  cases h <;> rfl
@[simp] theorem onPort_present (f : Port → Port) (s : State) (h : Head) : (s.onPort f).present h = s.present h := by
  cases h <;> rfl
@[simp] theorem onPort_toolStation (f : Port → Port) (s : State) (h : Head) : (s.onPort f).toolStation h = s.toolStation h := by
  cases h <;> rfl
@[simp] theorem onPort_commonUsed (f : Port → Port) (s : State) : (s.onPort f).commonUsed = s.commonUsed := rfl
@[simp] theorem onPort_gov (f : Port → Port) (s : State) : (s.onPort f).gov = s.gov := rfl
@[simp] theorem onPort_gantry (f : Port → Port) (s : State) : (s.onPort f).gantry = s.gantry := rfl
@[simp] theorem onPort_settings (f : Port → Port) (s : State) : (s.onPort f).settings = s.settings := rfl
@[simp] theorem onPort_lines (f : Port → Port) (s : State) : (s.onPort f).lines = s.lines := rfl
@[simp] theorem onPort_tracker (f : Port → Port) (s : State) : (s.onPort f).tracker = s.tracker := rfl
@[simp] theorem onPort_pins (f : Port → Port) (s : State) : (s.onPort f).pins = s.pins := rfl
@[simp] theorem onPort_straps (f : Port → Port) (s : State) : (s.onPort f).straps = s.straps := rfl
@[simp] theorem onPort_free (f : Port → Port) (s : State) : (s.onPort f).free = s.free := rfl
@[simp] theorem onPort_pending (f : Port → Port) (s : State) : (s.onPort f).pending = s.pending := rfl

@[simp] theorem onLines_self (f : LineCounters → LineCounters) (s : State) : (s.onLines f).lines = f s.lines := rfl
@[simp] theorem onLines_head (f : LineCounters → LineCounters) (s : State) (h : Head) : (s.onLines f).head h = s.head h := by cases h <;> rfl
@[simp] theorem onLines_headState (f : LineCounters → LineCounters) (s : State) (h : Head) : (s.onLines f).headState h = s.headState h := by
  cases h <;> rfl
@[simp] theorem onLines_present (f : LineCounters → LineCounters) (s : State) (h : Head) : (s.onLines f).present h = s.present h := by
  cases h <;> rfl
@[simp] theorem onLines_toolStation (f : LineCounters → LineCounters) (s : State) (h : Head) : (s.onLines f).toolStation h = s.toolStation h := by
  cases h <;> rfl
@[simp] theorem onLines_commonUsed (f : LineCounters → LineCounters) (s : State) : (s.onLines f).commonUsed = s.commonUsed := rfl
@[simp] theorem onLines_gov (f : LineCounters → LineCounters) (s : State) : (s.onLines f).gov = s.gov := rfl
@[simp] theorem onLines_gantry (f : LineCounters → LineCounters) (s : State) : (s.onLines f).gantry = s.gantry := rfl
@[simp] theorem onLines_settings (f : LineCounters → LineCounters) (s : State) : (s.onLines f).settings = s.settings := rfl
@[simp] theorem onLines_port (f : LineCounters → LineCounters) (s : State) : (s.onLines f).port = s.port := rfl
@[simp] theorem onLines_tracker (f : LineCounters → LineCounters) (s : State) : (s.onLines f).tracker = s.tracker := rfl
@[simp] theorem onLines_pins (f : LineCounters → LineCounters) (s : State) : (s.onLines f).pins = s.pins := rfl
@[simp] theorem onLines_straps (f : LineCounters → LineCounters) (s : State) : (s.onLines f).straps = s.straps := rfl
@[simp] theorem onLines_free (f : LineCounters → LineCounters) (s : State) : (s.onLines f).free = s.free := rfl
@[simp] theorem onLines_pending (f : LineCounters → LineCounters) (s : State) : (s.onLines f).pending = s.pending := rfl

@[simp] theorem tick_head (s : State) (h : Head) : s.tick.head h = s.head h := by cases h <;> rfl
@[simp] theorem tick_headState (s : State) (h : Head) : s.tick.headState h = s.headState h := by cases h <;> rfl
@[simp] theorem tick_present (s : State) (h : Head) : s.tick.present h = s.present h := by cases h <;> rfl
@[simp] theorem tick_toolStation (s : State) (h : Head) : s.tick.toolStation h = s.toolStation h := by cases h <;> rfl
@[simp] theorem tick_commonUsed (s : State) : s.tick.commonUsed = s.commonUsed := rfl
@[simp] theorem tick_gov (s : State) : s.tick.gov = s.gov := rfl
@[simp] theorem tick_gantry (s : State) : s.tick.gantry = s.gantry := rfl
@[simp] theorem tick_settings (s : State) : s.tick.settings = s.settings := rfl
@[simp] theorem tick_lines (s : State) : s.tick.lines = s.lines := rfl
@[simp] theorem tick_port (s : State) : s.tick.port = s.port := rfl
@[simp] theorem tick_tracker (s : State) : s.tick.tracker = s.tracker := rfl
@[simp] theorem tick_pins (s : State) : s.tick.pins = s.pins := rfl
@[simp] theorem tick_straps (s : State) : s.tick.straps = s.straps := rfl
@[simp] theorem tick_pending (s : State) : s.tick.pending = s.pending := rfl

/-- Two states whose units and device fields agree are equal. -/
theorem State.ext_heads {s t : State} (ha : t.head .a = s.head .a) (hb : t.head .b = s.head .b) (hg : t.gov = s.gov)
    (hn : t.gantry = s.gantry) (hs : t.settings = s.settings) (hl : t.lines = s.lines) (hp : t.port = s.port)
    (ht : t.tracker = s.tracker) (hi : t.pins = s.pins) (hr : t.straps = s.straps) (hf : t.free = s.free)
    (hq : t.pending = s.pending) : t = s := by
  cases s; cases t; simp_all [State.head]

end Sys2Proof.Machine
end

