-- ==== Sys2Proof/Laws/Ops.lean ====
section
/-! SUPPORT. What each shared operation of Machine/Ops.lean can do, said once: the fields it leaves, and one lemma for
what it changes. Proofs about commands cite these and need not unfold the operations. -/

namespace Sys2Proof.Machine

/-! ### countHead: what it leaves -/

@[simp] theorem countHead_gantry (h : Head) (f : HeadCounters → HeadCounters) (s : State) : (countHead h f s).gantry = s.gantry := by
  unfold countHead; split <;> simp
@[simp] theorem countHead_settings (h : Head) (f : HeadCounters → HeadCounters) (s : State) : (countHead h f s).settings = s.settings := by
  unfold countHead; split <;> simp
@[simp] theorem countHead_lines (h : Head) (f : HeadCounters → HeadCounters) (s : State) : (countHead h f s).lines = s.lines := by
  unfold countHead; split <;> simp
@[simp] theorem countHead_port (h : Head) (f : HeadCounters → HeadCounters) (s : State) : (countHead h f s).port = s.port := by
  unfold countHead; split <;> simp
@[simp] theorem countHead_tracker (h : Head) (f : HeadCounters → HeadCounters) (s : State) : (countHead h f s).tracker = s.tracker := by
  unfold countHead; split <;> simp
@[simp] theorem countHead_pins (h : Head) (f : HeadCounters → HeadCounters) (s : State) : (countHead h f s).pins = s.pins := by
  unfold countHead; split <;> simp
@[simp] theorem countHead_straps (h : Head) (f : HeadCounters → HeadCounters) (s : State) : (countHead h f s).straps = s.straps := by
  unfold countHead; split <;> simp
@[simp] theorem countHead_pending (h : Head) (f : HeadCounters → HeadCounters) (s : State) : (countHead h f s).pending = s.pending := by
  unfold countHead; split <;> simp
@[simp] theorem countHead_gov (h : Head) (f : HeadCounters → HeadCounters) (s : State) : (countHead h f s).gov = s.gov := by
  unfold countHead; split <;> simp
@[simp] theorem countHead_free (h : Head) (f : HeadCounters → HeadCounters) (s : State) : (countHead h f s).free = s.free := by
  unfold countHead; split <;> simp
@[simp] theorem countHead_present (h : Head) (f : HeadCounters → HeadCounters) (s : State) (k : Head) : (countHead h f s).present k = s.present k := by
  cases k <;> simp [State.present]
@[simp] theorem countHead_head_seq (h : Head) (f : HeadCounters → HeadCounters) (s : State) (k : Head) : ((countHead h f s).head k).seq = (s.head k).seq := by
  unfold countHead; split <;> simp
@[simp] theorem countHead_head_plan (h : Head) (f : HeadCounters → HeadCounters) (s : State) (k : Head) : ((countHead h f s).head k).plan = (s.head k).plan := by
  unfold countHead; split <;> simp
@[simp] theorem countHead_head_reg (h : Head) (f : HeadCounters → HeadCounters) (s : State) (k : Head) : ((countHead h f s).head k).reg = (s.head k).reg := by
  unfold countHead; split <;> simp
@[simp] theorem countHead_head_track (h : Head) (f : HeadCounters → HeadCounters) (s : State) (k : Head) : ((countHead h f s).head k).track = (s.head k).track := by
  unfold countHead; split <;> simp
@[simp] theorem countHead_head_front (h : Head) (f : HeadCounters → HeadCounters) (s : State) (k : Head) : ((countHead h f s).head k).front = (s.head k).front := by
  unfold countHead; split <;> simp
@[simp] theorem countHead_head_drives (h : Head) (f : HeadCounters → HeadCounters) (s : State) (k : Head) : ((countHead h f s).head k).drives = (s.head k).drives := by
  unfold countHead; split <;> simp
@[simp] theorem countHead_head_applied (h : Head) (f : HeadCounters → HeadCounters) (s : State) (k : Head) : ((countHead h f s).head k).applied = (s.head k).applied := by
  unfold countHead; split <;> simp
@[simp] theorem countHead_head_profiles (h : Head) (f : HeadCounters → HeadCounters) (s : State) (k : Head) : ((countHead h f s).head k).profiles = (s.head k).profiles := by
  unfold countHead; split <;> simp
@[simp] theorem countHead_head_travel (h : Head) (f : HeadCounters → HeadCounters) (s : State) (k : Head) : ((countHead h f s).head k).travel = (s.head k).travel := by
  unfold countHead; split <;> simp
@[simp] theorem countHead_other (h : Head) (f : HeadCounters → HeadCounters) (s : State) : (countHead h f s).head h.other = s.head h.other := by
  unfold countHead; split <;> simp
@[simp] theorem countHead_headState (h : Head) (f : HeadCounters → HeadCounters) (s : State) (k : Head) : (countHead h f s).headState k = s.headState k := by
  simp [State.headState]
@[simp] theorem countHead_toolStation (h : Head) (f : HeadCounters → HeadCounters) (s : State) (k : Head) : (countHead h f s).toolStation k = s.toolStation k := by
  simp [State.toolStation]

/-! ### createRecord: what it leaves -/

@[simp] theorem createRecord_gantry (h : Head) (b : RecordBody) (co : Bool) (s : State) : (createRecord h b co s).gantry = s.gantry := by
  unfold createRecord; split <;> [split <;> simp; rfl]
@[simp] theorem createRecord_settings (h : Head) (b : RecordBody) (co : Bool) (s : State) : (createRecord h b co s).settings = s.settings := by
  unfold createRecord; split <;> [split <;> simp; rfl]
@[simp] theorem createRecord_lines (h : Head) (b : RecordBody) (co : Bool) (s : State) : (createRecord h b co s).lines = s.lines := by
  unfold createRecord; split <;> [split <;> simp; rfl]
@[simp] theorem createRecord_port (h : Head) (b : RecordBody) (co : Bool) (s : State) : (createRecord h b co s).port = s.port := by
  unfold createRecord; split <;> [split <;> simp; rfl]
@[simp] theorem createRecord_tracker (h : Head) (b : RecordBody) (co : Bool) (s : State) : (createRecord h b co s).tracker = s.tracker := by
  unfold createRecord; split <;> [split <;> simp; rfl]
@[simp] theorem createRecord_pins (h : Head) (b : RecordBody) (co : Bool) (s : State) : (createRecord h b co s).pins = s.pins := by
  unfold createRecord; split <;> [split <;> simp; rfl]
@[simp] theorem createRecord_straps (h : Head) (b : RecordBody) (co : Bool) (s : State) : (createRecord h b co s).straps = s.straps := by
  unfold createRecord; split <;> [split <;> simp; rfl]
@[simp] theorem createRecord_pending (h : Head) (b : RecordBody) (co : Bool) (s : State) : (createRecord h b co s).pending = s.pending := by
  unfold createRecord; split <;> [split <;> simp; rfl]
@[simp] theorem createRecord_gov (h : Head) (b : RecordBody) (co : Bool) (s : State) : (createRecord h b co s).gov = s.gov := by
  unfold createRecord; split <;> [split <;> simp; rfl]
@[simp] theorem createRecord_free (h : Head) (b : RecordBody) (co : Bool) (s : State) : (createRecord h b co s).free = s.free := by
  unfold createRecord; split <;> [split <;> simp; rfl]
@[simp] theorem createRecord_present (h : Head) (b : RecordBody) (co : Bool) (s : State) (k : Head) : (createRecord h b co s).present k = s.present k := by
  cases k <;> simp [State.present]
@[simp] theorem createRecord_head_seq (h : Head) (b : RecordBody) (co : Bool) (s : State) (k : Head) : ((createRecord h b co s).head k).seq = (s.head k).seq := by
  unfold createRecord; split <;> [split <;> simp; rfl]
@[simp] theorem createRecord_head_plan (h : Head) (b : RecordBody) (co : Bool) (s : State) (k : Head) : ((createRecord h b co s).head k).plan = (s.head k).plan := by
  unfold createRecord; split <;> [split <;> simp; rfl]
@[simp] theorem createRecord_head_reg (h : Head) (b : RecordBody) (co : Bool) (s : State) (k : Head) : ((createRecord h b co s).head k).reg = (s.head k).reg := by
  unfold createRecord; split <;> [split <;> simp; rfl]
@[simp] theorem createRecord_head_track (h : Head) (b : RecordBody) (co : Bool) (s : State) (k : Head) : ((createRecord h b co s).head k).track = (s.head k).track := by
  unfold createRecord; split <;> [split <;> simp; rfl]
@[simp] theorem createRecord_head_front (h : Head) (b : RecordBody) (co : Bool) (s : State) (k : Head) : ((createRecord h b co s).head k).front = (s.head k).front := by
  unfold createRecord; split <;> [split <;> simp; rfl]
@[simp] theorem createRecord_head_drives (h : Head) (b : RecordBody) (co : Bool) (s : State) (k : Head) : ((createRecord h b co s).head k).drives = (s.head k).drives := by
  unfold createRecord; split <;> [split <;> simp; rfl]
@[simp] theorem createRecord_head_applied (h : Head) (b : RecordBody) (co : Bool) (s : State) (k : Head) : ((createRecord h b co s).head k).applied = (s.head k).applied := by
  unfold createRecord; split <;> [split <;> simp; rfl]
@[simp] theorem createRecord_head_profiles (h : Head) (b : RecordBody) (co : Bool) (s : State) (k : Head) : ((createRecord h b co s).head k).profiles = (s.head k).profiles := by
  unfold createRecord; split <;> [split <;> simp; rfl]
@[simp] theorem createRecord_head_travel (h : Head) (b : RecordBody) (co : Bool) (s : State) (k : Head) : ((createRecord h b co s).head k).travel = (s.head k).travel := by
  unfold createRecord; split <;> [split <;> simp; rfl]
@[simp] theorem createRecord_other (h : Head) (b : RecordBody) (co : Bool) (s : State) : (createRecord h b co s).head h.other = s.head h.other := by
  unfold createRecord; split <;> [split <;> simp; rfl]
@[simp] theorem createRecord_headState (h : Head) (b : RecordBody) (co : Bool) (s : State) (k : Head) : (createRecord h b co s).headState k = s.headState k := by
  simp [State.headState]
@[simp] theorem createRecord_toolStation (h : Head) (b : RecordBody) (co : Bool) (s : State) (k : Head) : (createRecord h b co s).toolStation k = s.toolStation k := by
  simp [State.toolStation]

/-! ### reportInForce: what it leaves -/

@[simp] theorem reportInForce_gantry (h : Head) (body : SegmentRef → RecordBody) (s : State) : (reportInForce h body s).gantry = s.gantry := by
  unfold reportInForce; split <;> simp
@[simp] theorem reportInForce_settings (h : Head) (body : SegmentRef → RecordBody) (s : State) : (reportInForce h body s).settings = s.settings := by
  unfold reportInForce; split <;> simp
@[simp] theorem reportInForce_lines (h : Head) (body : SegmentRef → RecordBody) (s : State) : (reportInForce h body s).lines = s.lines := by
  unfold reportInForce; split <;> simp
@[simp] theorem reportInForce_port (h : Head) (body : SegmentRef → RecordBody) (s : State) : (reportInForce h body s).port = s.port := by
  unfold reportInForce; split <;> simp
@[simp] theorem reportInForce_tracker (h : Head) (body : SegmentRef → RecordBody) (s : State) : (reportInForce h body s).tracker = s.tracker := by
  unfold reportInForce; split <;> simp
@[simp] theorem reportInForce_pins (h : Head) (body : SegmentRef → RecordBody) (s : State) : (reportInForce h body s).pins = s.pins := by
  unfold reportInForce; split <;> simp
@[simp] theorem reportInForce_straps (h : Head) (body : SegmentRef → RecordBody) (s : State) : (reportInForce h body s).straps = s.straps := by
  unfold reportInForce; split <;> simp
@[simp] theorem reportInForce_pending (h : Head) (body : SegmentRef → RecordBody) (s : State) : (reportInForce h body s).pending = s.pending := by
  unfold reportInForce; split <;> simp
@[simp] theorem reportInForce_gov (h : Head) (body : SegmentRef → RecordBody) (s : State) : (reportInForce h body s).gov = s.gov := by
  unfold reportInForce; split <;> simp
@[simp] theorem reportInForce_present (h : Head) (body : SegmentRef → RecordBody) (s : State) (k : Head) : (reportInForce h body s).present k = s.present k := by
  cases k <;> simp [State.present]
@[simp] theorem reportInForce_head_seq (h : Head) (body : SegmentRef → RecordBody) (s : State) (k : Head) : ((reportInForce h body s).head k).seq = (s.head k).seq := by
  unfold reportInForce; split <;> simp
@[simp] theorem reportInForce_head_plan (h : Head) (body : SegmentRef → RecordBody) (s : State) (k : Head) : ((reportInForce h body s).head k).plan = (s.head k).plan := by
  unfold reportInForce; split <;> simp
@[simp] theorem reportInForce_head_reg (h : Head) (body : SegmentRef → RecordBody) (s : State) (k : Head) : ((reportInForce h body s).head k).reg = (s.head k).reg := by
  unfold reportInForce; split <;> simp
@[simp] theorem reportInForce_head_track (h : Head) (body : SegmentRef → RecordBody) (s : State) (k : Head) : ((reportInForce h body s).head k).track = (s.head k).track := by
  unfold reportInForce; split <;> simp
@[simp] theorem reportInForce_head_front (h : Head) (body : SegmentRef → RecordBody) (s : State) (k : Head) : ((reportInForce h body s).head k).front = (s.head k).front := by
  unfold reportInForce; split <;> simp
@[simp] theorem reportInForce_head_drives (h : Head) (body : SegmentRef → RecordBody) (s : State) (k : Head) : ((reportInForce h body s).head k).drives = (s.head k).drives := by
  unfold reportInForce; split <;> simp
@[simp] theorem reportInForce_head_applied (h : Head) (body : SegmentRef → RecordBody) (s : State) (k : Head) : ((reportInForce h body s).head k).applied = (s.head k).applied := by
  unfold reportInForce; split <;> simp
@[simp] theorem reportInForce_head_profiles (h : Head) (body : SegmentRef → RecordBody) (s : State) (k : Head) : ((reportInForce h body s).head k).profiles = (s.head k).profiles := by
  unfold reportInForce; split <;> simp
@[simp] theorem reportInForce_head_travel (h : Head) (body : SegmentRef → RecordBody) (s : State) (k : Head) : ((reportInForce h body s).head k).travel = (s.head k).travel := by
  unfold reportInForce; split <;> simp
@[simp] theorem reportInForce_other (h : Head) (body : SegmentRef → RecordBody) (s : State) : (reportInForce h body s).head h.other = s.head h.other := by
  unfold reportInForce; split <;> simp
@[simp] theorem reportInForce_headState (h : Head) (body : SegmentRef → RecordBody) (s : State) (k : Head) : (reportInForce h body s).headState k = s.headState k := by
  simp [State.headState]
@[simp] theorem reportInForce_toolStation (h : Head) (body : SegmentRef → RecordBody) (s : State) (k : Head) : (reportInForce h body s).toolStation k = s.toolStation k := by
  simp [State.toolStation]

/-! ### pauseBegin: what it leaves -/

@[simp] theorem pauseBegin_gantry (h : Head) (s : State) : (pauseBegin h s).gantry = s.gantry := by
  unfold pauseBegin; split <;> simp
@[simp] theorem pauseBegin_settings (h : Head) (s : State) : (pauseBegin h s).settings = s.settings := by
  unfold pauseBegin; split <;> simp
@[simp] theorem pauseBegin_lines (h : Head) (s : State) : (pauseBegin h s).lines = s.lines := by
  unfold pauseBegin; split <;> simp
@[simp] theorem pauseBegin_port (h : Head) (s : State) : (pauseBegin h s).port = s.port := by
  unfold pauseBegin; split <;> simp
@[simp] theorem pauseBegin_tracker (h : Head) (s : State) : (pauseBegin h s).tracker = s.tracker := by
  unfold pauseBegin; split <;> simp
@[simp] theorem pauseBegin_pins (h : Head) (s : State) : (pauseBegin h s).pins = s.pins := by
  unfold pauseBegin; split <;> simp
@[simp] theorem pauseBegin_straps (h : Head) (s : State) : (pauseBegin h s).straps = s.straps := by
  unfold pauseBegin; split <;> simp
@[simp] theorem pauseBegin_pending (h : Head) (s : State) : (pauseBegin h s).pending = s.pending := by
  unfold pauseBegin; split <;> simp
@[simp] theorem pauseBegin_gov (h : Head) (s : State) : (pauseBegin h s).gov = s.gov := by
  unfold pauseBegin; split <;> simp
@[simp] theorem pauseBegin_present (h : Head) (s : State) (k : Head) : (pauseBegin h s).present k = s.present k := by
  cases k <;> simp [State.present]
@[simp] theorem pauseBegin_head_plan (h : Head) (s : State) (k : Head) : ((pauseBegin h s).head k).plan = (s.head k).plan := by
  unfold pauseBegin; split <;> simp
@[simp] theorem pauseBegin_head_reg (h : Head) (s : State) (k : Head) : ((pauseBegin h s).head k).reg = (s.head k).reg := by
  unfold pauseBegin; split <;> simp
@[simp] theorem pauseBegin_head_track (h : Head) (s : State) (k : Head) : ((pauseBegin h s).head k).track = (s.head k).track := by
  unfold pauseBegin; split <;> simp
@[simp] theorem pauseBegin_head_front (h : Head) (s : State) (k : Head) : ((pauseBegin h s).head k).front = (s.head k).front := by
  unfold pauseBegin; split <;> simp
@[simp] theorem pauseBegin_head_drives (h : Head) (s : State) (k : Head) : ((pauseBegin h s).head k).drives = (s.head k).drives := by
  unfold pauseBegin; split <;> simp
@[simp] theorem pauseBegin_head_applied (h : Head) (s : State) (k : Head) : ((pauseBegin h s).head k).applied = (s.head k).applied := by
  unfold pauseBegin; split <;> simp
@[simp] theorem pauseBegin_head_profiles (h : Head) (s : State) (k : Head) : ((pauseBegin h s).head k).profiles = (s.head k).profiles := by
  unfold pauseBegin; split <;> simp
@[simp] theorem pauseBegin_other (h : Head) (s : State) : (pauseBegin h s).head h.other = s.head h.other := by
  unfold pauseBegin; split <;> simp

/-! ### takeHold: what it leaves -/

@[simp] theorem takeHold_gantry (h : Head) (s : State) : (takeHold h s).gantry = s.gantry := by
  simp [takeHold]
@[simp] theorem takeHold_settings (h : Head) (s : State) : (takeHold h s).settings = s.settings := by
  simp [takeHold]
@[simp] theorem takeHold_lines (h : Head) (s : State) : (takeHold h s).lines = s.lines := by
  simp [takeHold]
@[simp] theorem takeHold_port (h : Head) (s : State) : (takeHold h s).port = s.port := by
  simp [takeHold]
@[simp] theorem takeHold_tracker (h : Head) (s : State) : (takeHold h s).tracker = s.tracker := by
  simp [takeHold]
@[simp] theorem takeHold_pins (h : Head) (s : State) : (takeHold h s).pins = s.pins := by
  simp [takeHold]
@[simp] theorem takeHold_straps (h : Head) (s : State) : (takeHold h s).straps = s.straps := by
  simp [takeHold]
@[simp] theorem takeHold_pending (h : Head) (s : State) : (takeHold h s).pending = s.pending := by
  simp [takeHold]
@[simp] theorem takeHold_present (h : Head) (s : State) (k : Head) : (takeHold h s).present k = s.present k := by
  cases k <;> simp [State.present]
@[simp] theorem takeHold_head_plan (h : Head) (s : State) (k : Head) : ((takeHold h s).head k).plan = (s.head k).plan := by
  simp [takeHold]
@[simp] theorem takeHold_head_reg (h : Head) (s : State) (k : Head) : ((takeHold h s).head k).reg = (s.head k).reg := by
  simp [takeHold]
@[simp] theorem takeHold_head_track (h : Head) (s : State) (k : Head) : ((takeHold h s).head k).track = (s.head k).track := by
  simp [takeHold]
@[simp] theorem takeHold_head_front (h : Head) (s : State) (k : Head) : ((takeHold h s).head k).front = (s.head k).front := by
  simp [takeHold]
@[simp] theorem takeHold_head_drives (h : Head) (s : State) (k : Head) : ((takeHold h s).head k).drives = (s.head k).drives := by
  simp [takeHold]
@[simp] theorem takeHold_head_applied (h : Head) (s : State) (k : Head) : ((takeHold h s).head k).applied = (s.head k).applied := by
  simp [takeHold]
@[simp] theorem takeHold_head_profiles (h : Head) (s : State) (k : Head) : ((takeHold h s).head k).profiles = (s.head k).profiles := by
  simp [takeHold]

/-- A head that takes a change to HOLD is itself unchanged: the pause begins at the other one (R86). -/
@[simp] theorem takeHold_self (h : Head) (s : State) : (takeHold h s).head h = s.head h := by
  have := pauseBegin_other h.other (s.onGov fun g => { g with speed := 0 })
  simpa [takeHold] using this

/-! ### takeEngagement: what it leaves -/

@[simp] theorem takeEngagement_gantry (s : State) : (takeEngagement s).gantry = s.gantry := by
  unfold takeEngagement; split <;> split <;> rfl
@[simp] theorem takeEngagement_settings (s : State) : (takeEngagement s).settings = s.settings := by
  unfold takeEngagement; split <;> split <;> rfl
@[simp] theorem takeEngagement_lines (s : State) : (takeEngagement s).lines = s.lines := by
  unfold takeEngagement; split <;> split <;> rfl
@[simp] theorem takeEngagement_port (s : State) : (takeEngagement s).port = s.port := by
  unfold takeEngagement; split <;> split <;> rfl
@[simp] theorem takeEngagement_tracker (s : State) : (takeEngagement s).tracker = s.tracker := by
  unfold takeEngagement; split <;> split <;> rfl
@[simp] theorem takeEngagement_pins (s : State) : (takeEngagement s).pins = s.pins := by
  unfold takeEngagement; split <;> split <;> rfl
@[simp] theorem takeEngagement_straps (s : State) : (takeEngagement s).straps = s.straps := by
  unfold takeEngagement; split <;> split <;> rfl
@[simp] theorem takeEngagement_pending (s : State) : (takeEngagement s).pending = s.pending := by
  unfold takeEngagement; split <;> split <;> rfl
@[simp] theorem takeEngagement_free (s : State) : (takeEngagement s).free = s.free := by
  unfold takeEngagement; split <;> split <;> rfl
@[simp] theorem takeEngagement_present (s : State) (k : Head) : (takeEngagement s).present k = s.present k := by
  cases k <;> simp [State.present]

@[simp] theorem takeEngagement_head (s : State) (k : Head) : (takeEngagement s).head k = s.head k := by
  unfold takeEngagement; split <;> split <;> rfl
@[simp] theorem takeEngagement_headState (s : State) (k : Head) : (takeEngagement s).headState k = s.headState k := by
  simp [State.headState]
@[simp] theorem takeEngagement_toolStation (s : State) (k : Head) : (takeEngagement s).toolStation k = s.toolStation k := by
  simp [State.toolStation]

/-! ### setHeadState: what it leaves -/

@[simp] theorem setHeadState_gantry (h : Head) (st : HeadState) (s : State) : (setHeadState h st s).gantry = s.gantry := by
  unfold setHeadState; dsimp only; split <;> simp
@[simp] theorem setHeadState_settings (h : Head) (st : HeadState) (s : State) : (setHeadState h st s).settings = s.settings := by
  unfold setHeadState; dsimp only; split <;> simp
@[simp] theorem setHeadState_lines (h : Head) (st : HeadState) (s : State) : (setHeadState h st s).lines = s.lines := by
  unfold setHeadState; dsimp only; split <;> simp
@[simp] theorem setHeadState_port (h : Head) (st : HeadState) (s : State) : (setHeadState h st s).port = s.port := by
  unfold setHeadState; dsimp only; split <;> simp
@[simp] theorem setHeadState_tracker (h : Head) (st : HeadState) (s : State) : (setHeadState h st s).tracker = s.tracker := by
  unfold setHeadState; dsimp only; split <;> simp
@[simp] theorem setHeadState_pins (h : Head) (st : HeadState) (s : State) : (setHeadState h st s).pins = s.pins := by
  unfold setHeadState; dsimp only; split <;> simp
@[simp] theorem setHeadState_straps (h : Head) (st : HeadState) (s : State) : (setHeadState h st s).straps = s.straps := by
  unfold setHeadState; dsimp only; split <;> simp
@[simp] theorem setHeadState_pending (h : Head) (st : HeadState) (s : State) : (setHeadState h st s).pending = s.pending := by
  unfold setHeadState; dsimp only; split <;> simp
@[simp] theorem setHeadState_present (h : Head) (st : HeadState) (s : State) (k : Head) : (setHeadState h st s).present k = s.present k := by
  cases k <;> simp [State.present]
@[simp] theorem setHeadState_head_plan (h : Head) (st : HeadState) (s : State) (k : Head) : ((setHeadState h st s).head k).plan = (s.head k).plan := by
  unfold setHeadState; dsimp only; split <;> simp
@[simp] theorem setHeadState_head_reg (h : Head) (st : HeadState) (s : State) (k : Head) : ((setHeadState h st s).head k).reg = (s.head k).reg := by
  unfold setHeadState; dsimp only; split <;> simp
@[simp] theorem setHeadState_head_track (h : Head) (st : HeadState) (s : State) (k : Head) : ((setHeadState h st s).head k).track = (s.head k).track := by
  unfold setHeadState; dsimp only; split <;> simp
@[simp] theorem setHeadState_head_front (h : Head) (st : HeadState) (s : State) (k : Head) : ((setHeadState h st s).head k).front = (s.head k).front := by
  unfold setHeadState; dsimp only; split <;> simp
@[simp] theorem setHeadState_head_drives (h : Head) (st : HeadState) (s : State) (k : Head) : ((setHeadState h st s).head k).drives = (s.head k).drives := by
  unfold setHeadState; dsimp only; split <;> simp
@[simp] theorem setHeadState_head_applied (h : Head) (st : HeadState) (s : State) (k : Head) : ((setHeadState h st s).head k).applied = (s.head k).applied := by
  unfold setHeadState; dsimp only; split <;> simp
@[simp] theorem setHeadState_head_profiles (h : Head) (st : HeadState) (s : State) (k : Head) : ((setHeadState h st s).head k).profiles = (s.head k).profiles := by
  unfold setHeadState; dsimp only; split <;> simp

/-- The head that changes state: its state, its raise, and what the governor keeps of it (R28, R31, R91, R105). -/
theorem setHeadState_self (h : Head) (st : HeadState) (s : State) :
    (setHeadState h st s).head h =
      { s.head h with
        seq := { (s.head h).seq with state := st, raising := (s.head h).seq.raising && st.raises }
        travel := (s.head h).travel.entering st } := by
  unfold setHeadState; dsimp only; split <;> simp

@[simp] theorem setHeadState_headState (h : Head) (st : HeadState) (s : State) :
    (setHeadState h st s).headState h = st := by
  simp [State.headState, setHeadState_self]

/-- The other head, unless the change is one to HOLD (R86). -/
theorem setHeadState_other (h : Head) (st : HeadState) (s : State) (hn : ¬(st.demand = .hold ∧ s.demand h ≠ .hold)) :
    (setHeadState h st s).head h.other = s.head h.other := by
  unfold setHeadState; dsimp only; rw [if_neg hn]; simp

/-- A change to HOLD is one taken by the governor on the state with the head's change made (R86). -/
theorem setHeadState_hold (h : Head) (st : HeadState) (s : State) (hy : st.demand = .hold ∧ s.demand h ≠ .hold) :
    setHeadState h st s = takeHold h (takeEngagement ((s.onSeq h fun q =>
      { q with state := st, raising := q.raising && st.raises }).onTravel h fun t => t.entering st)) := by
  unfold setHeadState; dsimp only; rw [if_pos hy]

/-! ### emptyTrack: what it leaves -/

@[simp] theorem emptyTrack_gantry (h : Head) (s : State) : (emptyTrack h s).gantry = s.gantry := by
  simp [emptyTrack]
@[simp] theorem emptyTrack_settings (h : Head) (s : State) : (emptyTrack h s).settings = s.settings := by
  simp [emptyTrack]
@[simp] theorem emptyTrack_lines (h : Head) (s : State) : (emptyTrack h s).lines = s.lines := by
  simp [emptyTrack]
@[simp] theorem emptyTrack_port (h : Head) (s : State) : (emptyTrack h s).port = s.port := by
  simp [emptyTrack]
@[simp] theorem emptyTrack_tracker (h : Head) (s : State) : (emptyTrack h s).tracker = s.tracker := by
  simp [emptyTrack]
@[simp] theorem emptyTrack_pins (h : Head) (s : State) : (emptyTrack h s).pins = s.pins := by
  simp [emptyTrack]
@[simp] theorem emptyTrack_straps (h : Head) (s : State) : (emptyTrack h s).straps = s.straps := by
  simp [emptyTrack]
@[simp] theorem emptyTrack_pending (h : Head) (s : State) : (emptyTrack h s).pending = s.pending := by
  simp [emptyTrack]
@[simp] theorem emptyTrack_gov (h : Head) (s : State) : (emptyTrack h s).gov = s.gov := by
  simp [emptyTrack]
@[simp] theorem emptyTrack_free (h : Head) (s : State) : (emptyTrack h s).free = s.free := by
  simp [emptyTrack]
@[simp] theorem emptyTrack_present (h : Head) (s : State) (k : Head) : (emptyTrack h s).present k = s.present k := by
  cases k <;> simp [State.present]
@[simp] theorem emptyTrack_head_seq (h : Head) (s : State) (k : Head) : ((emptyTrack h s).head k).seq = (s.head k).seq := by
  simp [emptyTrack]
@[simp] theorem emptyTrack_head_plan (h : Head) (s : State) (k : Head) : ((emptyTrack h s).head k).plan = (s.head k).plan := by
  simp [emptyTrack]
@[simp] theorem emptyTrack_head_reg (h : Head) (s : State) (k : Head) : ((emptyTrack h s).head k).reg = (s.head k).reg := by
  simp [emptyTrack]
@[simp] theorem emptyTrack_head_front (h : Head) (s : State) (k : Head) : ((emptyTrack h s).head k).front = (s.head k).front := by
  simp [emptyTrack]
@[simp] theorem emptyTrack_head_drives (h : Head) (s : State) (k : Head) : ((emptyTrack h s).head k).drives = (s.head k).drives := by
  simp [emptyTrack]
@[simp] theorem emptyTrack_head_applied (h : Head) (s : State) (k : Head) : ((emptyTrack h s).head k).applied = (s.head k).applied := by
  simp [emptyTrack]
@[simp] theorem emptyTrack_head_profiles (h : Head) (s : State) (k : Head) : ((emptyTrack h s).head k).profiles = (s.head k).profiles := by
  simp [emptyTrack]
@[simp] theorem emptyTrack_head_travel (h : Head) (s : State) (k : Head) : ((emptyTrack h s).head k).travel = (s.head k).travel := by
  simp [emptyTrack]
@[simp] theorem emptyTrack_head_log (h : Head) (s : State) (k : Head) : ((emptyTrack h s).head k).log = (s.head k).log := by
  simp [emptyTrack]
@[simp] theorem emptyTrack_other (h : Head) (s : State) : (emptyTrack h s).head h.other = s.head h.other := by
  simp [emptyTrack]
@[simp] theorem emptyTrack_headState (h : Head) (s : State) (k : Head) : (emptyTrack h s).headState k = s.headState k := by
  simp [State.headState]
@[simp] theorem emptyTrack_toolStation (h : Head) (s : State) (k : Head) : (emptyTrack h s).toolStation k = s.toolStation k := by
  simp [State.toolStation]

/-! ### endStarvation: what it leaves -/

@[simp] theorem endStarvation_gantry (h : Head) (s : State) : (endStarvation h s).gantry = s.gantry := by
  simp [endStarvation]
@[simp] theorem endStarvation_settings (h : Head) (s : State) : (endStarvation h s).settings = s.settings := by
  simp [endStarvation]
@[simp] theorem endStarvation_lines (h : Head) (s : State) : (endStarvation h s).lines = s.lines := by
  simp [endStarvation]
@[simp] theorem endStarvation_port (h : Head) (s : State) : (endStarvation h s).port = s.port := by
  simp [endStarvation]
@[simp] theorem endStarvation_tracker (h : Head) (s : State) : (endStarvation h s).tracker = s.tracker := by
  simp [endStarvation]
@[simp] theorem endStarvation_pins (h : Head) (s : State) : (endStarvation h s).pins = s.pins := by
  simp [endStarvation]
@[simp] theorem endStarvation_straps (h : Head) (s : State) : (endStarvation h s).straps = s.straps := by
  simp [endStarvation]
@[simp] theorem endStarvation_pending (h : Head) (s : State) : (endStarvation h s).pending = s.pending := by
  simp [endStarvation]
@[simp] theorem endStarvation_gov (h : Head) (s : State) : (endStarvation h s).gov = s.gov := by
  simp [endStarvation]
@[simp] theorem endStarvation_free (h : Head) (s : State) : (endStarvation h s).free = s.free := by
  simp [endStarvation]
@[simp] theorem endStarvation_present (h : Head) (s : State) (k : Head) : (endStarvation h s).present k = s.present k := by
  cases k <;> simp [State.present]
@[simp] theorem endStarvation_head_seq (h : Head) (s : State) (k : Head) : ((endStarvation h s).head k).seq = (s.head k).seq := by
  simp [endStarvation]
@[simp] theorem endStarvation_head_reg (h : Head) (s : State) (k : Head) : ((endStarvation h s).head k).reg = (s.head k).reg := by
  simp [endStarvation]
@[simp] theorem endStarvation_head_track (h : Head) (s : State) (k : Head) : ((endStarvation h s).head k).track = (s.head k).track := by
  simp [endStarvation]
@[simp] theorem endStarvation_head_front (h : Head) (s : State) (k : Head) : ((endStarvation h s).head k).front = (s.head k).front := by
  simp [endStarvation]
@[simp] theorem endStarvation_head_drives (h : Head) (s : State) (k : Head) : ((endStarvation h s).head k).drives = (s.head k).drives := by
  simp [endStarvation]
@[simp] theorem endStarvation_head_applied (h : Head) (s : State) (k : Head) : ((endStarvation h s).head k).applied = (s.head k).applied := by
  simp [endStarvation]
@[simp] theorem endStarvation_head_profiles (h : Head) (s : State) (k : Head) : ((endStarvation h s).head k).profiles = (s.head k).profiles := by
  simp [endStarvation]
@[simp] theorem endStarvation_head_travel (h : Head) (s : State) (k : Head) : ((endStarvation h s).head k).travel = (s.head k).travel := by
  simp [endStarvation]
@[simp] theorem endStarvation_head_log (h : Head) (s : State) (k : Head) : ((endStarvation h s).head k).log = (s.head k).log := by
  simp [endStarvation]
@[simp] theorem endStarvation_other (h : Head) (s : State) : (endStarvation h s).head h.other = s.head h.other := by
  simp [endStarvation]
@[simp] theorem endStarvation_headState (h : Head) (s : State) (k : Head) : (endStarvation h s).headState k = s.headState k := by
  simp [State.headState]
@[simp] theorem endStarvation_toolStation (h : Head) (s : State) (k : Head) : (endStarvation h s).toolStation k = s.toolStation k := by
  simp [State.toolStation]

/-! ### startRamp: what it leaves -/

@[simp] theorem startRamp_gantry (h : Head) (s : State) : (startRamp h s).gantry = s.gantry := by
  simp [startRamp]
@[simp] theorem startRamp_settings (h : Head) (s : State) : (startRamp h s).settings = s.settings := by
  simp [startRamp]
@[simp] theorem startRamp_lines (h : Head) (s : State) : (startRamp h s).lines = s.lines := by
  simp [startRamp]
@[simp] theorem startRamp_port (h : Head) (s : State) : (startRamp h s).port = s.port := by
  simp [startRamp]
@[simp] theorem startRamp_tracker (h : Head) (s : State) : (startRamp h s).tracker = s.tracker := by
  simp [startRamp]
@[simp] theorem startRamp_pins (h : Head) (s : State) : (startRamp h s).pins = s.pins := by
  simp [startRamp]
@[simp] theorem startRamp_straps (h : Head) (s : State) : (startRamp h s).straps = s.straps := by
  simp [startRamp]
@[simp] theorem startRamp_pending (h : Head) (s : State) : (startRamp h s).pending = s.pending := by
  simp [startRamp]
@[simp] theorem startRamp_gov (h : Head) (s : State) : (startRamp h s).gov = s.gov := by
  simp [startRamp]
@[simp] theorem startRamp_free (h : Head) (s : State) : (startRamp h s).free = s.free := by
  simp [startRamp]
@[simp] theorem startRamp_present (h : Head) (s : State) (k : Head) : (startRamp h s).present k = s.present k := by
  cases k <;> simp [State.present]
@[simp] theorem startRamp_head_plan (h : Head) (s : State) (k : Head) : ((startRamp h s).head k).plan = (s.head k).plan := by
  simp [startRamp]
@[simp] theorem startRamp_head_reg (h : Head) (s : State) (k : Head) : ((startRamp h s).head k).reg = (s.head k).reg := by
  simp [startRamp]
@[simp] theorem startRamp_head_track (h : Head) (s : State) (k : Head) : ((startRamp h s).head k).track = (s.head k).track := by
  simp [startRamp]
@[simp] theorem startRamp_head_front (h : Head) (s : State) (k : Head) : ((startRamp h s).head k).front = (s.head k).front := by
  simp [startRamp]
@[simp] theorem startRamp_head_drives (h : Head) (s : State) (k : Head) : ((startRamp h s).head k).drives = (s.head k).drives := by
  simp [startRamp]
@[simp] theorem startRamp_head_applied (h : Head) (s : State) (k : Head) : ((startRamp h s).head k).applied = (s.head k).applied := by
  simp [startRamp]
@[simp] theorem startRamp_head_profiles (h : Head) (s : State) (k : Head) : ((startRamp h s).head k).profiles = (s.head k).profiles := by
  simp [startRamp]
@[simp] theorem startRamp_head_travel (h : Head) (s : State) (k : Head) : ((startRamp h s).head k).travel = (s.head k).travel := by
  simp [startRamp]
@[simp] theorem startRamp_head_log (h : Head) (s : State) (k : Head) : ((startRamp h s).head k).log = (s.head k).log := by
  simp [startRamp]
@[simp] theorem startRamp_other (h : Head) (s : State) : (startRamp h s).head h.other = s.head h.other := by
  simp [startRamp]

/-! ### reportInterrupt: what it leaves -/

@[simp] theorem reportInterrupt_gantry (h : Head) (c : Cause) (entry s : State) : (reportInterrupt h c entry s).gantry = s.gantry := by
  cases hf : (entry.head h).plan.inForce <;> simp [reportInterrupt, hf]
@[simp] theorem reportInterrupt_settings (h : Head) (c : Cause) (entry s : State) : (reportInterrupt h c entry s).settings = s.settings := by
  cases hf : (entry.head h).plan.inForce <;> simp [reportInterrupt, hf]
@[simp] theorem reportInterrupt_lines (h : Head) (c : Cause) (entry s : State) : (reportInterrupt h c entry s).lines = s.lines := by
  cases hf : (entry.head h).plan.inForce <;> simp [reportInterrupt, hf]
@[simp] theorem reportInterrupt_port (h : Head) (c : Cause) (entry s : State) : (reportInterrupt h c entry s).port = s.port := by
  cases hf : (entry.head h).plan.inForce <;> simp [reportInterrupt, hf]
@[simp] theorem reportInterrupt_tracker (h : Head) (c : Cause) (entry s : State) : (reportInterrupt h c entry s).tracker = s.tracker := by
  cases hf : (entry.head h).plan.inForce <;> simp [reportInterrupt, hf]
@[simp] theorem reportInterrupt_pins (h : Head) (c : Cause) (entry s : State) : (reportInterrupt h c entry s).pins = s.pins := by
  cases hf : (entry.head h).plan.inForce <;> simp [reportInterrupt, hf]
@[simp] theorem reportInterrupt_straps (h : Head) (c : Cause) (entry s : State) : (reportInterrupt h c entry s).straps = s.straps := by
  cases hf : (entry.head h).plan.inForce <;> simp [reportInterrupt, hf]
@[simp] theorem reportInterrupt_pending (h : Head) (c : Cause) (entry s : State) : (reportInterrupt h c entry s).pending = s.pending := by
  cases hf : (entry.head h).plan.inForce <;> simp [reportInterrupt, hf]
@[simp] theorem reportInterrupt_gov (h : Head) (c : Cause) (entry s : State) : (reportInterrupt h c entry s).gov = s.gov := by
  cases hf : (entry.head h).plan.inForce <;> simp [reportInterrupt, hf]
@[simp] theorem reportInterrupt_present (h : Head) (c : Cause) (entry s : State) (k : Head) : (reportInterrupt h c entry s).present k = s.present k := by
  cases k <;> simp [State.present]
@[simp] theorem reportInterrupt_head_seq (h : Head) (c : Cause) (entry s : State) (k : Head) : ((reportInterrupt h c entry s).head k).seq = (s.head k).seq := by
  cases hf : (entry.head h).plan.inForce <;> simp [reportInterrupt, hf]
@[simp] theorem reportInterrupt_head_plan (h : Head) (c : Cause) (entry s : State) (k : Head) : ((reportInterrupt h c entry s).head k).plan = (s.head k).plan := by
  cases hf : (entry.head h).plan.inForce <;> simp [reportInterrupt, hf]
@[simp] theorem reportInterrupt_head_reg (h : Head) (c : Cause) (entry s : State) (k : Head) : ((reportInterrupt h c entry s).head k).reg = (s.head k).reg := by
  cases hf : (entry.head h).plan.inForce <;> simp [reportInterrupt, hf]
@[simp] theorem reportInterrupt_head_track (h : Head) (c : Cause) (entry s : State) (k : Head) : ((reportInterrupt h c entry s).head k).track = (s.head k).track := by
  cases hf : (entry.head h).plan.inForce <;> simp [reportInterrupt, hf]
@[simp] theorem reportInterrupt_head_front (h : Head) (c : Cause) (entry s : State) (k : Head) : ((reportInterrupt h c entry s).head k).front = (s.head k).front := by
  cases hf : (entry.head h).plan.inForce <;> simp [reportInterrupt, hf]
@[simp] theorem reportInterrupt_head_drives (h : Head) (c : Cause) (entry s : State) (k : Head) : ((reportInterrupt h c entry s).head k).drives = (s.head k).drives := by
  cases hf : (entry.head h).plan.inForce <;> simp [reportInterrupt, hf]
@[simp] theorem reportInterrupt_head_applied (h : Head) (c : Cause) (entry s : State) (k : Head) : ((reportInterrupt h c entry s).head k).applied = (s.head k).applied := by
  cases hf : (entry.head h).plan.inForce <;> simp [reportInterrupt, hf]
@[simp] theorem reportInterrupt_head_profiles (h : Head) (c : Cause) (entry s : State) (k : Head) : ((reportInterrupt h c entry s).head k).profiles = (s.head k).profiles := by
  cases hf : (entry.head h).plan.inForce <;> simp [reportInterrupt, hf]
@[simp] theorem reportInterrupt_head_travel (h : Head) (c : Cause) (entry s : State) (k : Head) : ((reportInterrupt h c entry s).head k).travel = (s.head k).travel := by
  cases hf : (entry.head h).plan.inForce <;> simp [reportInterrupt, hf]
@[simp] theorem reportInterrupt_other (h : Head) (c : Cause) (entry s : State) : (reportInterrupt h c entry s).head h.other = s.head h.other := by
  cases hf : (entry.head h).plan.inForce <;> simp [reportInterrupt, hf]
@[simp] theorem reportInterrupt_headState (h : Head) (c : Cause) (entry s : State) (k : Head) : (reportInterrupt h c entry s).headState k = s.headState k := by
  simp [State.headState]
@[simp] theorem reportInterrupt_toolStation (h : Head) (c : Cause) (entry s : State) (k : Head) : (reportInterrupt h c entry s).toolStation k = s.toolStation k := by
  simp [State.toolStation]

/-! ### interruptHead: what it leaves -/

@[simp] theorem interruptHead_gantry (h : Head) (c : Cause) (s : State) : (interruptHead h c s).gantry = s.gantry := by
  unfold interruptHead; split <;> simp
@[simp] theorem interruptHead_settings (h : Head) (c : Cause) (s : State) : (interruptHead h c s).settings = s.settings := by
  unfold interruptHead; split <;> simp
@[simp] theorem interruptHead_lines (h : Head) (c : Cause) (s : State) : (interruptHead h c s).lines = s.lines := by
  unfold interruptHead; split <;> simp
@[simp] theorem interruptHead_port (h : Head) (c : Cause) (s : State) : (interruptHead h c s).port = s.port := by
  unfold interruptHead; split <;> simp
@[simp] theorem interruptHead_tracker (h : Head) (c : Cause) (s : State) : (interruptHead h c s).tracker = s.tracker := by
  unfold interruptHead; split <;> simp
@[simp] theorem interruptHead_pins (h : Head) (c : Cause) (s : State) : (interruptHead h c s).pins = s.pins := by
  unfold interruptHead; split <;> simp
@[simp] theorem interruptHead_straps (h : Head) (c : Cause) (s : State) : (interruptHead h c s).straps = s.straps := by
  unfold interruptHead; split <;> simp
@[simp] theorem interruptHead_pending (h : Head) (c : Cause) (s : State) : (interruptHead h c s).pending = s.pending := by
  unfold interruptHead; split <;> simp
@[simp] theorem interruptHead_present (h : Head) (c : Cause) (s : State) (k : Head) : (interruptHead h c s).present k = s.present k := by
  cases k <;> simp [State.present]
@[simp] theorem interruptHead_head_reg (h : Head) (c : Cause) (s : State) (k : Head) : ((interruptHead h c s).head k).reg = (s.head k).reg := by
  unfold interruptHead; split <;> simp
@[simp] theorem interruptHead_head_track (h : Head) (c : Cause) (s : State) (k : Head) : ((interruptHead h c s).head k).track = (s.head k).track := by
  unfold interruptHead; split <;> simp
@[simp] theorem interruptHead_head_front (h : Head) (c : Cause) (s : State) (k : Head) : ((interruptHead h c s).head k).front = (s.head k).front := by
  unfold interruptHead; split <;> simp
@[simp] theorem interruptHead_head_drives (h : Head) (c : Cause) (s : State) (k : Head) : ((interruptHead h c s).head k).drives = (s.head k).drives := by
  unfold interruptHead; split <;> simp
@[simp] theorem interruptHead_head_applied (h : Head) (c : Cause) (s : State) (k : Head) : ((interruptHead h c s).head k).applied = (s.head k).applied := by
  unfold interruptHead; split <;> simp
@[simp] theorem interruptHead_head_profiles (h : Head) (c : Cause) (s : State) (k : Head) : ((interruptHead h c s).head k).profiles = (s.head k).profiles := by
  unfold interruptHead; split <;> simp

/-! ### enterExit: what it leaves -/

@[simp] theorem enterExit_gantry (h : Head) (g : Segment) (s : State) : (enterExit h g s).gantry = s.gantry := by
  simp [enterExit]
@[simp] theorem enterExit_settings (h : Head) (g : Segment) (s : State) : (enterExit h g s).settings = s.settings := by
  simp [enterExit]
@[simp] theorem enterExit_lines (h : Head) (g : Segment) (s : State) : (enterExit h g s).lines = s.lines := by
  simp [enterExit]
@[simp] theorem enterExit_port (h : Head) (g : Segment) (s : State) : (enterExit h g s).port = s.port := by
  simp [enterExit]
@[simp] theorem enterExit_tracker (h : Head) (g : Segment) (s : State) : (enterExit h g s).tracker = s.tracker := by
  simp [enterExit]
@[simp] theorem enterExit_pins (h : Head) (g : Segment) (s : State) : (enterExit h g s).pins = s.pins := by
  simp [enterExit]
@[simp] theorem enterExit_straps (h : Head) (g : Segment) (s : State) : (enterExit h g s).straps = s.straps := by
  simp [enterExit]
@[simp] theorem enterExit_pending (h : Head) (g : Segment) (s : State) : (enterExit h g s).pending = s.pending := by
  simp [enterExit]
@[simp] theorem enterExit_present (h : Head) (g : Segment) (s : State) (k : Head) : (enterExit h g s).present k = s.present k := by
  cases k <;> simp [State.present]
@[simp] theorem enterExit_head_reg (h : Head) (g : Segment) (s : State) (k : Head) : ((enterExit h g s).head k).reg = (s.head k).reg := by
  simp [enterExit]
@[simp] theorem enterExit_head_front (h : Head) (g : Segment) (s : State) (k : Head) : ((enterExit h g s).head k).front = (s.head k).front := by
  simp [enterExit]
@[simp] theorem enterExit_head_drives (h : Head) (g : Segment) (s : State) (k : Head) : ((enterExit h g s).head k).drives = (s.head k).drives := by
  simp [enterExit]
@[simp] theorem enterExit_head_applied (h : Head) (g : Segment) (s : State) (k : Head) : ((enterExit h g s).head k).applied = (s.head k).applied := by
  simp [enterExit]
@[simp] theorem enterExit_head_profiles (h : Head) (g : Segment) (s : State) (k : Head) : ((enterExit h g s).head k).profiles = (s.head k).profiles := by
  simp [enterExit]

/-! ### enterInterrupted: what it leaves -/

@[simp] theorem enterInterrupted_gantry (h : Head) (s : State) : (enterInterrupted h s).gantry = s.gantry := by
  simp [enterInterrupted]
@[simp] theorem enterInterrupted_settings (h : Head) (s : State) : (enterInterrupted h s).settings = s.settings := by
  simp [enterInterrupted]
@[simp] theorem enterInterrupted_lines (h : Head) (s : State) : (enterInterrupted h s).lines = s.lines := by
  simp [enterInterrupted]
@[simp] theorem enterInterrupted_port (h : Head) (s : State) : (enterInterrupted h s).port = s.port := by
  simp [enterInterrupted]
@[simp] theorem enterInterrupted_tracker (h : Head) (s : State) : (enterInterrupted h s).tracker = s.tracker := by
  simp [enterInterrupted]
@[simp] theorem enterInterrupted_pins (h : Head) (s : State) : (enterInterrupted h s).pins = s.pins := by
  simp [enterInterrupted]
@[simp] theorem enterInterrupted_straps (h : Head) (s : State) : (enterInterrupted h s).straps = s.straps := by
  simp [enterInterrupted]
@[simp] theorem enterInterrupted_pending (h : Head) (s : State) : (enterInterrupted h s).pending = s.pending := by
  simp [enterInterrupted]
@[simp] theorem enterInterrupted_present (h : Head) (s : State) (k : Head) : (enterInterrupted h s).present k = s.present k := by
  cases k <;> simp [State.present]
@[simp] theorem enterInterrupted_head_plan (h : Head) (s : State) (k : Head) : ((enterInterrupted h s).head k).plan = (s.head k).plan := by
  simp [enterInterrupted]
@[simp] theorem enterInterrupted_head_reg (h : Head) (s : State) (k : Head) : ((enterInterrupted h s).head k).reg = (s.head k).reg := by
  simp [enterInterrupted]
@[simp] theorem enterInterrupted_head_front (h : Head) (s : State) (k : Head) : ((enterInterrupted h s).head k).front = (s.head k).front := by
  simp [enterInterrupted]
@[simp] theorem enterInterrupted_head_drives (h : Head) (s : State) (k : Head) : ((enterInterrupted h s).head k).drives = (s.head k).drives := by
  simp [enterInterrupted]
@[simp] theorem enterInterrupted_head_applied (h : Head) (s : State) (k : Head) : ((enterInterrupted h s).head k).applied = (s.head k).applied := by
  simp [enterInterrupted]
@[simp] theorem enterInterrupted_head_profiles (h : Head) (s : State) (k : Head) : ((enterInterrupted h s).head k).profiles = (s.head k).profiles := by
  simp [enterInterrupted]

/-! ### endStart: what it leaves -/

@[simp] theorem endStart_gantry (h : Head) (s : State) : (endStart h s).gantry = s.gantry := by
  unfold endStart; dsimp only; split <;> simp
@[simp] theorem endStart_settings (h : Head) (s : State) : (endStart h s).settings = s.settings := by
  unfold endStart; dsimp only; split <;> simp
@[simp] theorem endStart_lines (h : Head) (s : State) : (endStart h s).lines = s.lines := by
  unfold endStart; dsimp only; split <;> simp
@[simp] theorem endStart_port (h : Head) (s : State) : (endStart h s).port = s.port := by
  unfold endStart; dsimp only; split <;> simp
@[simp] theorem endStart_tracker (h : Head) (s : State) : (endStart h s).tracker = s.tracker := by
  unfold endStart; dsimp only; split <;> simp
@[simp] theorem endStart_pins (h : Head) (s : State) : (endStart h s).pins = s.pins := by
  unfold endStart; dsimp only; split <;> simp
@[simp] theorem endStart_straps (h : Head) (s : State) : (endStart h s).straps = s.straps := by
  unfold endStart; dsimp only; split <;> simp
@[simp] theorem endStart_pending (h : Head) (s : State) : (endStart h s).pending = s.pending := by
  unfold endStart; dsimp only; split <;> simp
@[simp] theorem endStart_present (h : Head) (s : State) (k : Head) : (endStart h s).present k = s.present k := by
  cases k <;> simp [State.present]
@[simp] theorem endStart_head_plan (h : Head) (s : State) (k : Head) : ((endStart h s).head k).plan = (s.head k).plan := by
  unfold endStart; dsimp only; split <;> simp
@[simp] theorem endStart_head_reg (h : Head) (s : State) (k : Head) : ((endStart h s).head k).reg = (s.head k).reg := by
  unfold endStart; dsimp only; split <;> simp
@[simp] theorem endStart_head_front (h : Head) (s : State) (k : Head) : ((endStart h s).head k).front = (s.head k).front := by
  unfold endStart; dsimp only; split <;> simp
@[simp] theorem endStart_head_drives (h : Head) (s : State) (k : Head) : ((endStart h s).head k).drives = (s.head k).drives := by
  unfold endStart; dsimp only; split <;> simp
@[simp] theorem endStart_head_applied (h : Head) (s : State) (k : Head) : ((endStart h s).head k).applied = (s.head k).applied := by
  unfold endStart; dsimp only; split <;> simp
@[simp] theorem endStart_head_profiles (h : Head) (s : State) (k : Head) : ((endStart h s).head k).profiles = (s.head k).profiles := by
  unfold endStart; dsimp only; split <;> simp

/-! ### failStart: what it leaves -/

@[simp] theorem failStart_gantry (h : Head) (r : StartFailure) (s : State) : (failStart h r s).gantry = s.gantry := by
  simp [failStart]
@[simp] theorem failStart_settings (h : Head) (r : StartFailure) (s : State) : (failStart h r s).settings = s.settings := by
  simp [failStart]
@[simp] theorem failStart_lines (h : Head) (r : StartFailure) (s : State) : (failStart h r s).lines = s.lines := by
  simp [failStart]
@[simp] theorem failStart_port (h : Head) (r : StartFailure) (s : State) : (failStart h r s).port = s.port := by
  simp [failStart]
@[simp] theorem failStart_tracker (h : Head) (r : StartFailure) (s : State) : (failStart h r s).tracker = s.tracker := by
  simp [failStart]
@[simp] theorem failStart_pins (h : Head) (r : StartFailure) (s : State) : (failStart h r s).pins = s.pins := by
  simp [failStart]
@[simp] theorem failStart_straps (h : Head) (r : StartFailure) (s : State) : (failStart h r s).straps = s.straps := by
  simp [failStart]
@[simp] theorem failStart_pending (h : Head) (r : StartFailure) (s : State) : (failStart h r s).pending = s.pending := by
  simp [failStart]
@[simp] theorem failStart_present (h : Head) (r : StartFailure) (s : State) (k : Head) : (failStart h r s).present k = s.present k := by
  cases k <;> simp [State.present]
@[simp] theorem failStart_head_plan (h : Head) (r : StartFailure) (s : State) (k : Head) : ((failStart h r s).head k).plan = (s.head k).plan := by
  simp [failStart]
@[simp] theorem failStart_head_reg (h : Head) (r : StartFailure) (s : State) (k : Head) : ((failStart h r s).head k).reg = (s.head k).reg := by
  simp [failStart]
@[simp] theorem failStart_head_front (h : Head) (r : StartFailure) (s : State) (k : Head) : ((failStart h r s).head k).front = (s.head k).front := by
  simp [failStart]
@[simp] theorem failStart_head_drives (h : Head) (r : StartFailure) (s : State) (k : Head) : ((failStart h r s).head k).drives = (s.head k).drives := by
  simp [failStart]
@[simp] theorem failStart_head_applied (h : Head) (r : StartFailure) (s : State) (k : Head) : ((failStart h r s).head k).applied = (s.head k).applied := by
  simp [failStart]
@[simp] theorem failStart_head_profiles (h : Head) (r : StartFailure) (s : State) (k : Head) : ((failStart h r s).head k).profiles = (s.head k).profiles := by
  simp [failStart]

/-! ### startFault: what it leaves -/

@[simp] theorem startFault_gantry (h : Head) (r : StartFailure) (s : State) : (startFault h r s).gantry = s.gantry := by
  unfold startFault; split <;> simp
@[simp] theorem startFault_settings (h : Head) (r : StartFailure) (s : State) : (startFault h r s).settings = s.settings := by
  unfold startFault; split <;> simp
@[simp] theorem startFault_lines (h : Head) (r : StartFailure) (s : State) : (startFault h r s).lines = s.lines := by
  unfold startFault; split <;> simp
@[simp] theorem startFault_port (h : Head) (r : StartFailure) (s : State) : (startFault h r s).port = s.port := by
  unfold startFault; split <;> simp
@[simp] theorem startFault_tracker (h : Head) (r : StartFailure) (s : State) : (startFault h r s).tracker = s.tracker := by
  unfold startFault; split <;> simp
@[simp] theorem startFault_pins (h : Head) (r : StartFailure) (s : State) : (startFault h r s).pins = s.pins := by
  unfold startFault; split <;> simp
@[simp] theorem startFault_straps (h : Head) (r : StartFailure) (s : State) : (startFault h r s).straps = s.straps := by
  unfold startFault; split <;> simp
@[simp] theorem startFault_pending (h : Head) (r : StartFailure) (s : State) : (startFault h r s).pending = s.pending := by
  unfold startFault; split <;> simp
@[simp] theorem startFault_present (h : Head) (r : StartFailure) (s : State) (k : Head) : (startFault h r s).present k = s.present k := by
  cases k <;> simp [State.present]
@[simp] theorem startFault_head_plan (h : Head) (r : StartFailure) (s : State) (k : Head) : ((startFault h r s).head k).plan = (s.head k).plan := by
  unfold startFault; split <;> simp
@[simp] theorem startFault_head_reg (h : Head) (r : StartFailure) (s : State) (k : Head) : ((startFault h r s).head k).reg = (s.head k).reg := by
  unfold startFault; split <;> simp
@[simp] theorem startFault_head_front (h : Head) (r : StartFailure) (s : State) (k : Head) : ((startFault h r s).head k).front = (s.head k).front := by
  unfold startFault; split <;> simp
@[simp] theorem startFault_head_drives (h : Head) (r : StartFailure) (s : State) (k : Head) : ((startFault h r s).head k).drives = (s.head k).drives := by
  unfold startFault; split <;> simp
@[simp] theorem startFault_head_applied (h : Head) (r : StartFailure) (s : State) (k : Head) : ((startFault h r s).head k).applied = (s.head k).applied := by
  unfold startFault; split <;> simp
@[simp] theorem startFault_head_profiles (h : Head) (r : StartFailure) (s : State) (k : Head) : ((startFault h r s).head k).profiles = (s.head k).profiles := by
  unfold startFault; split <;> simp

/-! ### followSpindle: what it leaves -/

@[simp] theorem followSpindle_gantry (h : Head) (s : State) : (followSpindle h s).gantry = s.gantry := by
  unfold followSpindle; split <;> simp
@[simp] theorem followSpindle_settings (h : Head) (s : State) : (followSpindle h s).settings = s.settings := by
  unfold followSpindle; split <;> simp
@[simp] theorem followSpindle_lines (h : Head) (s : State) : (followSpindle h s).lines = s.lines := by
  unfold followSpindle; split <;> simp
@[simp] theorem followSpindle_port (h : Head) (s : State) : (followSpindle h s).port = s.port := by
  unfold followSpindle; split <;> simp
@[simp] theorem followSpindle_tracker (h : Head) (s : State) : (followSpindle h s).tracker = s.tracker := by
  unfold followSpindle; split <;> simp
@[simp] theorem followSpindle_pins (h : Head) (s : State) : (followSpindle h s).pins = s.pins := by
  unfold followSpindle; split <;> simp
@[simp] theorem followSpindle_straps (h : Head) (s : State) : (followSpindle h s).straps = s.straps := by
  unfold followSpindle; split <;> simp
@[simp] theorem followSpindle_pending (h : Head) (s : State) : (followSpindle h s).pending = s.pending := by
  unfold followSpindle; split <;> simp
@[simp] theorem followSpindle_gov (h : Head) (s : State) : (followSpindle h s).gov = s.gov := by
  unfold followSpindle; split <;> simp
@[simp] theorem followSpindle_present (h : Head) (s : State) (k : Head) : (followSpindle h s).present k = s.present k := by
  cases k <;> simp [State.present]
@[simp] theorem followSpindle_head_plan (h : Head) (s : State) (k : Head) : ((followSpindle h s).head k).plan = (s.head k).plan := by
  unfold followSpindle; split <;> simp
@[simp] theorem followSpindle_head_reg (h : Head) (s : State) (k : Head) : ((followSpindle h s).head k).reg = (s.head k).reg := by
  unfold followSpindle; split <;> simp
@[simp] theorem followSpindle_head_track (h : Head) (s : State) (k : Head) : ((followSpindle h s).head k).track = (s.head k).track := by
  unfold followSpindle; split <;> simp
@[simp] theorem followSpindle_head_front (h : Head) (s : State) (k : Head) : ((followSpindle h s).head k).front = (s.head k).front := by
  unfold followSpindle; split <;> simp
@[simp] theorem followSpindle_head_drives (h : Head) (s : State) (k : Head) : ((followSpindle h s).head k).drives = (s.head k).drives := by
  unfold followSpindle; split <;> simp
@[simp] theorem followSpindle_head_applied (h : Head) (s : State) (k : Head) : ((followSpindle h s).head k).applied = (s.head k).applied := by
  unfold followSpindle; split <;> simp
@[simp] theorem followSpindle_head_profiles (h : Head) (s : State) (k : Head) : ((followSpindle h s).head k).profiles = (s.head k).profiles := by
  unfold followSpindle; split <;> simp
@[simp] theorem followSpindle_head_travel (h : Head) (s : State) (k : Head) : ((followSpindle h s).head k).travel = (s.head k).travel := by
  unfold followSpindle; split <;> simp
@[simp] theorem followSpindle_head_log (h : Head) (s : State) (k : Head) : ((followSpindle h s).head k).log = (s.head k).log := by
  unfold followSpindle; split <;> simp
@[simp] theorem followSpindle_other (h : Head) (s : State) : (followSpindle h s).head h.other = s.head h.other := by
  unfold followSpindle; split <;> simp

/-! ### answer: what it leaves -/

@[simp] theorem answer_gantry (kind : Byte) (st : Status) (d : List Byte) (s : State) : (answer kind st d s).gantry = s.gantry := by
  rfl
@[simp] theorem answer_settings (kind : Byte) (st : Status) (d : List Byte) (s : State) : (answer kind st d s).settings = s.settings := by
  rfl
@[simp] theorem answer_lines (kind : Byte) (st : Status) (d : List Byte) (s : State) : (answer kind st d s).lines = s.lines := by
  rfl
@[simp] theorem answer_tracker (kind : Byte) (st : Status) (d : List Byte) (s : State) : (answer kind st d s).tracker = s.tracker := by
  rfl
@[simp] theorem answer_pins (kind : Byte) (st : Status) (d : List Byte) (s : State) : (answer kind st d s).pins = s.pins := by
  rfl
@[simp] theorem answer_straps (kind : Byte) (st : Status) (d : List Byte) (s : State) : (answer kind st d s).straps = s.straps := by
  rfl
@[simp] theorem answer_pending (kind : Byte) (st : Status) (d : List Byte) (s : State) : (answer kind st d s).pending = s.pending := by
  rfl
@[simp] theorem answer_gov (kind : Byte) (st : Status) (d : List Byte) (s : State) : (answer kind st d s).gov = s.gov := by
  rfl
@[simp] theorem answer_free (kind : Byte) (st : Status) (d : List Byte) (s : State) : (answer kind st d s).free = s.free := by
  rfl
@[simp] theorem answer_present (kind : Byte) (st : Status) (d : List Byte) (s : State) (k : Head) : (answer kind st d s).present k = s.present k := by
  cases k <;> simp [State.present]

@[simp] theorem answer_head (k : Byte) (st : Status) (d : List Byte) (s : State) (h : Head) :
    (answer k st d s).head h = s.head h := by simp [answer]
@[simp] theorem answer_headState (k : Byte) (st : Status) (d : List Byte) (s : State) (h : Head) :
    (answer k st d s).headState h = s.headState h := by simp [State.headState]
@[simp] theorem answer_toolStation (k : Byte) (st : Status) (d : List Byte) (s : State) (h : Head) :
    (answer k st d s).toolStation h = s.toolStation h := by simp [State.toolStation]
@[simp] theorem answer_port (k : Byte) (st : Status) (d : List Byte) (s : State) :
    (answer k st d s).port = { s.port with pendingReply := some (s.replyFrame k st d) } := rfl

/-! ### Records and counters: what they do -/

/-- Counting at a present head changes its counters and nothing else (R172). -/
theorem countHead_log (h : Head) (f : HeadCounters → HeadCounters) (s : State) (hp : s.present h = true) :
    ((countHead h f s).head h).log = { (s.head h).log with counters := f (s.head h).log.counters } := by
  simp [countHead, hp]

/-- Nothing is counted at an absent head (R172). -/
theorem countHead_absent (h : Head) (f : HeadCounters → HeadCounters) (s : State) (hp : s.present h = false) :
    countHead h f s = s := by simp [countHead, hp]

@[simp] theorem countHead_queue (h k : Head) (f : HeadCounters → HeadCounters) (s : State) :
    ((countHead h f s).head k).log.queue = (s.head k).log.queue := by
  unfold countHead; split
  · rcases head_cases h k with rfl | rfl <;> simp
  · rfl
@[simp] theorem countHead_commonUsed (h : Head) (f : HeadCounters → HeadCounters) (s : State) :
    (countHead h f s).commonUsed = s.commonUsed := by
  have a := countHead_queue h .a f s
  have b := countHead_queue h .b f s
  simp only [State.head] at a b
  simp [State.commonUsed, HeadLog.commonUsed, a, b]

/-- A record of a present head that finds a slot joins the tail of its queue (R165, R166, R167). -/
theorem createRecord_stored (h : Head) (b : RecordBody) (co r : Bool) (s : State) (hp : s.present h = true)
    (hs : slotFor h b s = some r) :
    ((createRecord h b co s).head h).log =
      { (s.head h).log with
        queue := (s.head h).log.queue ++ [⟨b, (s.head h).log.seq, (s.head h).log.lossPending, co, r⟩]
        seq := (s.head h).log.seq + 1
        lossPending := false } := by
  simp [createRecord, hp, hs]

/-- A record of a present head that finds no slot is dropped and counted lost (R165, R166, R167). -/
theorem createRecord_dropped (h : Head) (b : RecordBody) (co : Bool) (s : State) (hp : s.present h = true)
    (hs : slotFor h b s = none) :
    ((createRecord h b co s).head h).log =
      { (s.head h).log with
        seq := (s.head h).log.seq + 1
        lossPending := true
        counters := { (s.head h).log.counters with recordsLost := bump (s.head h).log.counters.recordsLost } } := by
  simp [createRecord, hp, hs]

/-- No record is created at an absent head. -/
theorem createRecord_absent (h : Head) (b : RecordBody) (co : Bool) (s : State) (hp : s.present h = false) :
    createRecord h b co s = s := by simp [createRecord, hp]

/-- The slot of a record rests on the pool, on the head's queue and on nothing else (R165). -/
theorem slotFor_congr (h : Head) (b : RecordBody) (s t : State) (hc : t.commonUsed = s.commonUsed)
    (hl : (t.head h).log.queue = (s.head h).log.queue) : slotFor h b t = slotFor h b s := by
  unfold slotFor HeadLog.reservedUsed
  rw [hc, hl]

/-- The log after a record rests on the head's presence and log and on the pool, and on nothing else. -/
theorem createRecord_log_congr (h : Head) (b : RecordBody) (co : Bool) (s t : State) (hp : t.present h = s.present h)
    (hc : t.commonUsed = s.commonUsed) (hl : (t.head h).log = (s.head h).log) :
    ((createRecord h b co t).head h).log = ((createRecord h b co s).head h).log := by
  have e := slotFor_congr h b s t hc (by rw [hl])
  unfold createRecord
  rw [hp, e]
  split
  · split <;> simp [hl]
  · exact hl

/-- A record that names the segment in force is one record, with that segment's id and zone where there is one;
the model's counter of free values may move with it (R160, log 11). -/
theorem reportInForce_eq (h : Head) (body : SegmentRef → RecordBody) (s : State) :
    ∃ named n, (∀ g, (s.head h).plan.inForce = some g → named = ⟨g.id, some g.zone⟩) ∧
      reportInForce h body s = createRecord h (body named) false { s with free := n } := by
  unfold reportInForce
  split
  · rename_i g hg
    exact ⟨g.ref, s.free, by simp [hg, Segment.ref], rfl⟩
  · rename_i hg
    exact ⟨_, s.free + 1, by simp [hg], rfl⟩

/-! ### Excursions and the work of a sample -/

/-- The row EXCURSION with nothing held changes nothing (R77, log 4). -/
theorem findExcursion_none (h : Head) (s : State) (he : (s.head h).reg.excursionsHeld = []) : findExcursion h s = s := by
  simp [findExcursion, he]

/-- The row EXCURSION records and counts the oldest excursion held, which is then held no more (R77, log 4). -/
theorem findExcursion_held (h : Head) (x : Excursion) (rest : List Excursion) (s : State) (hp : s.present h = true)
    (he : (s.head h).reg.excursionsHeld = x :: rest) :
    findExcursion h s = recordExcursion h x (s.onReg h fun r => { r with excursionsHeld := rest }) := by
  simp [findExcursion, he, hp]

/-- The pieces of work of a sample, one at a time (R1, log 1). -/
@[simp] theorem sampleActs_nil (h : Head) (read : HeadUnit) (o : SampleOrder) (s : State) :
    sampleActs h read o [] s = s := rfl
theorem sampleActs_log (h : Head) (read : HeadUnit) (o : SampleOrder) (rest : List SampleAct) (s : State) :
    sampleActs h read o (.log :: rest) s = sampleActs h read o rest
      (logWork h read.seq.state (handedFlags h read o rest s).1 (handedFlags h read o rest s).2 s) := rfl
theorem sampleActs_block (h : Head) (read : HeadUnit) (o : SampleOrder) (a : SampleAct) (rest : List SampleAct)
    (s : State) (ha : a ≠ .log) :
    sampleActs h read o (a :: rest) s = sampleActs h read o rest (blockAct h read o s a) := by
  simp [sampleActs, ha]

/-- A head that has left WELD and PAUSE gives the log no sample (R164). -/
theorem logWork_left (h : Head) (found : HeadState) (gapSlow starved : Bool) (s : State)
    (hl : (s.headState h).welding = false) : logWork h found gapSlow starved s = s := by
  simp [logWork, hl]

/-! ### Requests -/

/-- While RESET is negated a command acts; while it is asserted nothing does (R190). -/
theorem running_negated (f : State → State) (s : State) (hr : s.pins.reset = false) : running f s = .next (f s) := by
  simp [running, hr]
theorem running_asserted (f : State → State) (s : State) (hr : s.pins.reset = true) : running f s = .next s := by
  simp [running, hr]

/-- A request that names a present head is taken by it (R183). -/
theorem forHead_present (kind : Byte) (h : Head) (take : Head → State → State) (s : State) (hp : s.present h = true) :
    forHead kind (match h with | .a => 0 | .b => 1) take s = take h s := by
  cases h <;> simp_all [forHead, headOf]

/-- The characters of a frame carry its bytes (R185). -/
@[simp] theorem frameCharacters_data (l : List Byte) : (frameCharacters l).map Character.data = l := by
  cases l <;> simp [frameCharacters, Function.comp_def]

/-- A frame's mark bits: 1 in the first character, 0 in every other (R187). -/
theorem frameCharacters_mark (address : Byte) (rest : List Byte) :
    (frameCharacters (address :: rest)).map Character.mark = true :: List.replicate rest.length false := by
  simp [frameCharacters, Function.comp_def, List.map_const']

/-- A reply is as long as its status and flags, its data, and the four characters around them (R187). -/
@[simp] theorem replyFrame_length (s : State) (kind : Byte) (st : Status) (d : List Byte) :
    (s.replyFrame kind st d).length = d.length + 6 := by
  simp [State.replyFrame, frameCharacters, State.replyBytes]

/-- A request whose head field names no present head is answered NO_HEAD (R183). -/
theorem forHead_absent (kind : Byte) (code : Nat) (take : Head → State → State) (s : State)
    (hn : ∀ h, headOf code = some h → s.present h = false) : forHead kind code take s = answer kind .noHead [] s := by
  unfold forHead
  split
  · rename_i h hh; simp [hn h hh]
  · rfl

end Sys2Proof.Machine
end

