-- ==== Sys2Proof/Tests/Slice0.lean ====
section
/-! SUPPORT. Tests: the commands that cannot be sent, request and report bytes written out from the layouts of
Chapter 11, single steps of the manual's worked examples, and a state for the hypotheses of every statement. -/

namespace Sys2Proof.Tests
open Sys2Proof.Machine

/-! ### Small states -/

/-- The sets of 10.1, TOOL as stored. -/
def limits : LimitsSet := ⟨4000, 2000, 1500, 520, 3000, 60, 80⟩
def tool : ToolSet := ⟨10000, 5800, 6300, 5000, 4800, 1000, 2500, 300, 1500, 2000, 20⟩
def regulator : RegulatorSet := ⟨320, 48, 15, 480, 5, 800, 200, 100, 15⟩
def travel : TravelSet := ⟨10, 3000, 300, 100, 400, 200, 80, 380000, 8⟩

/-- A sound channel at a value. -/
def channel (v : Int) : Channel := { Channel.powerOn with raw := v, valid := true, effective := v, lastValid := v }

/-- A commissioned head in a state, its tool at a depth, its drives ready. -/
def unit (st : HeadState) (depth : Int) : HeadUnit :=
  { HeadUnit.powerOn with
    seq := { Sequencer.powerOn with state := st, budget := 8, ceiling := 8, depth := depth, originTaken := 10000 }
    front := ⟨channel 1800, channel 900, channel 25, channel depth⟩
    drives := ⟨true, false, true, true, true⟩
    profiles := ⟨some limits, some tool, some regulator, some travel, 4⟩ }

/-- A part with two such heads at a gantry position. -/
def machine (a b : HeadUnit) (position : Int) : State :=
  { State.reset with
    unitA := a, unitB := b, gantry := channel position
    gov := ⟨a.seq.state.engaged || b.seq.state.engaged, 0, .forward, some 380000, true⟩ }

/-- The state a command leaves; the state before it where it completes with none. -/
def after (i : Instr) (s : State) : State :=
  match exec i s with
  | .next t => t
  | .fault _ => s
  | .refused _ => s

/-- The step completes with a next state. -/
def completes (s : State) : Bool :=
  match step s with
  | .next _ => true
  | .fault _ => false
  | .refused _ => false

/-- The status and the data of the pending reply. -/
def answered (s : State) : Option (Byte × List Byte) :=
  s.port.pendingReply.map fun r => ((r.map Character.data).getD 3 0, ((r.map Character.data).drop 5).dropLast)

/-- A segment as a plan stores it. -/
def segment (id start length : Nat) (endAction : EndAction) : Segment :=
  ⟨id, start, length, .body, 1800, 1200, 1200, 4600, 5200, false, .slow, endAction⟩

/-- The same segment as APPEND SEGMENT carries it. -/
def record (id start length endAction : Nat) : SegmentRecord :=
  ⟨id, start, length, 1, 1800, 1200, 1200, 4600, 5200, 0, 0, endAction⟩

/-- A sample without surprises. -/
def quiet : SampleInput :=
  ⟨⟨1800, true⟩, ⟨900, true⟩, ⟨25, true⟩, ⟨0, false, true⟩, true, false, true, true, true⟩
def plain : SampleOrder := ⟨[], [], false, false⟩
def still (position : Int) : UpdateInput := ⟨⟨position, false, true⟩, true⟩
def inOrder : UpdateOrder := ⟨.a, [], false⟩

/-- Plans of one and of two segments. -/
def onePlan : PlanStore := ⟨[segment 201 10000 5000 .carryOn], none, none⟩
def twoPlan : PlanStore := ⟨[segment 201 10000 5000 .carryOn, segment 202 15000 3000 .exit], none, none⟩

/-- A BODY segment as a record names it (R14). -/
def named (id : Nat) : SegmentRef := ⟨id, some .body⟩

/-- A stored record with a number. -/
def logged (seq : SeqNumber) (reserved : Bool) : LogRecord := ⟨.starved 155000 (named 203), seq, false, false, reserved⟩

/-- Head A ready to start at station 9,995 with a seam in its plan; head B ready. -/
def ready : State := machine { unit .ready (-5000) with plan := twoPlan } (unit .ready (-5000)) 19995

/-- Head A welding at station 10,500 with a speed, records, track entries and a seam; head B ready. -/
def busy : State :=
  { machine
      { unit .weld 4870 with
        seq := { (unit .weld 4870).seq with spindle := 1200 }
        plan := twoPlan
        travel := ⟨1200, 0, 0⟩
        track := { Tracking.powerOn with queue := [⟨500, 380, 30, 10, 9⟩, ⟨520, 420, 35, 20, 9⟩], toolStation := 500 }
        log := { HeadUnit.powerOn.log with queue := [logged 5 false, logged 6 true], seq := 7 } }
      (unit .ready (-5000)) 20500 with
    gov := ⟨true, 600, .forward, some 380000, true⟩
    pending := [.headSample .a quiet plain] }

/-- Head A approaching in reverse for a re-entry at station 11,150; head B absent. -/
def reversing : State :=
  { machine
      { unit .approach (-5000) with
        seq := { (unit .approach (-5000)).seq with kind := .reentry, target := 11150, direction := .reverse }
        plan := twoPlan }
      HeadUnit.powerOn 22150 with
    gov := ⟨true, 300, .reverse, some 380000, true⟩
    straps := ⟨3, false, false⟩
    pending := [.governorUpdate (still 22100) inOrder] }

/-- Head A starved 120 beyond station 15,000; head B ready. -/
def starving : State :=
  { machine { unit .weld 4870 with
        plan := ⟨[], some (segment 203 10000 5000 .carryOn), some ⟨15000, 120⟩⟩, travel := ⟨1200, 0, 0⟩ }
      (unit .ready (-5000)) 25120 with
    pending := [.headSample .a quiet plain] }

/-- Head A interrupted at 12,150 as in 10.4: 101 retained, 102 to 112 queued; the gantry has gone on to 50,300. -/
def interrupted : State :=
  machine
    { unit .interrupted (-5000) with
      seq := { (unit .interrupted (-5000)).seq with cause := some .torqueLimit, interruptStation := 12150 }
      plan := ⟨[segment 102 12000 100000 .carryOn, segment 103 112000 3000 .exit, segment 111 115000 2000 .carryOn],
        some (segment 101 10000 2000 .carryOn), none⟩ }
    (unit .ready (-5000)) 50300

/-- Head A in a state with a sequencer change and a plan; head B ready; the gantry at 20,000. -/
def phase (st : HeadState) (depth : Int) (f : Sequencer → Sequencer) : State :=
  machine { unit st depth with seq := f (unit st depth).seq, plan := twoPlan } (unit .ready (-5000)) 20000

/-- Head A as in the regulator's worked example: e_prev 30, T 500, effective force 1580, window [4600, 5200]. -/
def sampling (st : HeadState) : State :=
  machine
    { unit st 4870 with
      plan := onePlan
      reg := { Regulator.clear with ePrev := 30 }
      travel := ⟨1200, 10000, 0⟩ }
    (unit .dwell 4800) 21000

/-- A receiving port with the four characters of an IDENTIFY frame to device 3 but its check. -/
def receiving : State :=
  { ready with
    straps := ⟨3, false, true⟩
    port := { ready.port with rx := .receiving, frame := ⟨0x03, 0x01, 0x00, [], 0x02, 3⟩ } }

/-- A port that sends a reply. -/
def replying : State := { ready with port := { ready.port with rx := .replying, transmit := some [⟨true, 0x80⟩] } }

/-- A port that waits with the reply to a RESET DEVICE pending. -/
def deferring : State :=
  { ready with port := { ready.port with pendingReply := some [⟨true, 0x80⟩], resetDeferred := true } }

/-- A part whose line is held at 0, its break detector spent. -/
def held : State := { ready with pins := ⟨false, false, true⟩, port := { ready.port with armed := false } }

/-- An order that takes one piece of work first. -/
def actFirst (a : SampleAct) : SampleOrder := ⟨[], [a], false, false⟩

/-- Head A in WELD on one tracked segment at a station, behind the tool two entries, the second over both limits. -/
def tracked (action : GapAction) (station : Int) : State :=
  { machine
      { unit .weld 4870 with
        plan := ⟨[{ segment 202 0 100000 .carryOn with tracking := true, gapAction := action }], none, none⟩
        seq := { (unit .weld 4870).seq with weldEntry := 40000 }
        track := { Tracking.powerOn with queue := [⟨49990, 380, 30, 10, 9⟩, ⟨50010, 420, 75, 90, 9⟩], activeFirst := true }
        travel := ⟨1200, 0, 0⟩ }
      (unit .ready (-5000)) (station + 10000) with
    gov := ⟨true, 600, .forward, some 380000, true⟩ }

/-! ### Commands that cannot be sent (R127, R194 to R197, log 1, log 2) -/

theorem test_too_wide_fields_refused :
    ∀ i ∈ [.readStatus 256, .startSeam 256, .stopSeam (.head 256), .restartSeam 256 0, .restartSeam 0 65536,
      .abandonSeam 256, .resetHead 256, .appendSegment 256 (record 1 0 10 0), .clearPlan 256, .readPlan 256,
      .loadProfile 256 (.limits limits), .readProfile 256 0, .readProfile 0 256, .calibrate 256,
      .setChannel 256 0 0 0 0, .setChannel 0 256 0 0 0, .setChannel 0 0 256 0 0, .setChannel 0 0 0 256 0,
      .setChannel 0 0 0 0 32768, .setChannel 0 0 0 0 (-32769), .readChannels 256, .setLog 65536 0 0,
      .setLog 0 65536 0, .setLog 0 0 65536, .readRecords 256 0, .readRecords 0 256, .readCounters 256 0,
      .readCounters 0 256, .loadProfile 0 (.unknown 3), .loadProfile 0 (.unknown 256), .trackReportArrival [],
      .trackReportArrival (List.replicate 13 0)],
      Instr.wellFormed i = false := by decide

theorem test_too_wide_segment_fields_refused :
    ∀ r ∈ [{ record 1 0 10 0 with id := 65536 }, { record 1 0 10 0 with start := 16777216 },
      { record 1 0 10 0 with length := 16777216 }, { record 1 0 10 0 with zone := 256 },
      { record 1 0 10 0 with force := 65536 }, { record 1 0 10 0 with spindle := 65536 },
      { record 1 0 10 0 with cap := 65536 }, { record 1 0 10 0 with windowMin := 65536 },
      { record 1 0 10 0 with windowMax := 65536 }, { record 1 0 10 0 with tracking := 256 },
      { record 1 0 10 0 with gapAction := 256 }, { record 1 0 10 0 with endAction := 256 }],
      SegmentRecord.wellFormed r = false := by decide

theorem test_too_wide_set_fields_refused :
    ∀ l ∈ [.limits { limits with forceMax := 65536 }, .limits { limits with torqueMax := 65536 },
      .limits { limits with torqueSoft := 65536 }, .limits { limits with tempMax := 65536 },
      .limits { limits with spindleMax := 65536 }, .limits { limits with gapLimit := 256 },
      .limits { limits with mismatchLimit := 256 }, .tool { tool with seamOrigin := 16777216 },
      .tool { tool with pinLength := 65536 }, .tool { tool with depthHardMax := 65536 },
      .tool { tool with clearance := 65536 }, .tool { tool with plungeDepth := 65536 },
      .tool { tool with plungeRate := 65536 }, .tool { tool with plungeForceLimit := 65536 },
      .tool { tool with plungeTimeout := 65536 }, .tool { tool with dwell := 65536 },
      .tool { tool with retractRate := 65536 }, .tool { tool with trackPitch := 256 },
      .regulator { regulator with kp := 65536 }, .regulator { regulator with ki := 65536 },
      .regulator { regulator with slew := 256 }, .regulator { regulator with softTemp := 65536 },
      .regulator { regulator with thermalSlope := 256 }, .regulator { regulator with pauseFactor := 65536 },
      .regulator { regulator with excursionBand := 65536 }, .regulator { regulator with excursionLength := 65536 },
      .regulator { regulator with lateralSlew := 256 }, .travel { travel with acceleration := 256 },
      .travel { travel with approachSpeed := 65536 }, .travel { travel with minWeldSpeed := 65536 },
      .travel { travel with pauseAllowance := 256 }, .travel { travel with starvationAllowance := 65536 },
      .travel { travel with trackHold := 65536 }, .travel { travel with spinupTimeout := 65536 },
      .travel { travel with bedEnd := 16777216 }, .travel { travel with calibrationBudget := 256 }],
      ProfileLoad.wellFormed l = false := by decide

theorem test_off_scale_readings_refused :
    ∀ i ∈ [.headSample .a { quiet with force := ⟨8001, true⟩ } plain,
      .headSample .a { quiet with torque := ⟨-501, true⟩ } plain,
      .headSample .a { quiet with temp := ⟨851, true⟩ } plain,
      .headSample .a { quiet with depth := ⟨-50001, false, true⟩ } plain,
      .headSample .a quiet ⟨[.force, .force], [], false, false⟩, .headSample .a quiet ⟨[], [.log, .log], false, false⟩,
      .governorUpdate (still 400001) inOrder, .governorUpdate (still 0) ⟨.a, [.pause .a, .pause .a], false⟩],
      Instr.wellFormed i = false := by decide

theorem test_widest_fields_accepted :
    ∀ i ∈ [.restartSeam 255 65535, .appendSegment 255 (record 65535 16777215 16777215 255),
      .setChannel 255 255 255 255 (-32768), .setLog 65535 65535 65535, .loadProfile 255 (.unknown 255),
      .headSample .b ⟨⟨8000, false⟩, ⟨6500, false⟩, ⟨850, false⟩, ⟨20000, true, false⟩, false, false, false, false,
        false⟩ plain, .governorUpdate (still 400000) inOrder, .trackReportArrival (List.replicate 12 0)],
      Instr.wellFormed i = true := by decide

/-! ### Bytes written out from Chapter 11 (R194 to R197) -/

theorem test_decode_plain_requests :
    decodeRequest 0x01 [] = some .identify ∧ decodeRequest 0x02 [1] = some (.readStatus 1) ∧
    decodeRequest 0x03 [0] = some (.startSeam 0) ∧ decodeRequest 0x04 [1] = some (.stopSeam (.head 1)) ∧
    decodeRequest 0x05 [0, 0xDC, 0x05] = some (.restartSeam 0 1500) ∧
    decodeRequest 0x06 [0] = some (.abandonSeam 0) ∧ decodeRequest 0x07 [1] = some (.resetHead 1) ∧
    decodeRequest 0x09 [0] = some (.clearPlan 0) ∧ decodeRequest 0x0A [1] = some (.readPlan 1) ∧
    decodeRequest 0x0C [0, 3] = some (.readProfile 0 3) ∧ decodeRequest 0x0D [0] = some (.calibrate 0) ∧
    decodeRequest 0x0F [0] = some (.readChannels 0) ∧
    decodeRequest 0x10 [0x64, 0, 0xE0, 1, 0x80, 3] = some (.setLog 100 480 896) ∧
    decodeRequest 0x11 [0, 9] = some (.readRecords 0 9) ∧ decodeRequest 0x12 [2, 1] = some (.readCounters 2 1) ∧
    decodeRequest 0x13 [] = some (.resetDevice false) ∧ decodeRequest 0x14 [] = none := by decide

theorem test_decode_append_segment :
    decodeRequest 0x08 [1, 0x93, 0x01, 0x80, 0x38, 0x01, 0x20, 0x4E, 0x00, 1, 0x08, 0x07, 0xB0, 0x04, 0xFF, 0xB0, 0x04,
      0xF8, 0x11, 0x50, 0x14, 1, 0, 1] =
    some (.appendSegment 1 ⟨403, 80000, 20000, 1, 1800, 1200, 1200, 4600, 5200, 1, 0, 1⟩) := by decide

theorem test_decode_load_profile :
    decodeRequest 0x0B [0, 0, 0xA0, 0x0F, 0xD0, 0x07, 0xDC, 0x05, 0x08, 0x02, 0xB8, 0x0B, 60, 80] =
      some (.loadProfile 0 (.limits limits)) ∧
    decodeRequest 0x0B [0, 1, 0x10, 0x27, 0, 0xA8, 0x16, 0x9C, 0x18, 0x88, 0x13, 0xC0, 0x12, 0xE8, 0x03, 0xC4, 0x09,
      0x2C, 0x01, 0xDC, 0x05, 0xD0, 0x07, 20] = some (.loadProfile 0 (.tool tool)) ∧
    decodeRequest 0x0B [1, 2, 0x40, 0x01, 0x30, 0, 15, 0xE0, 0x01, 5, 0x20, 0x03, 0xC8, 0, 0x64, 0, 15] =
      some (.loadProfile 1 (.regulator regulator)) ∧
    decodeRequest 0x0B [1, 3, 10, 0xB8, 0x0B, 0x2C, 0x01, 100, 0x90, 0x01, 0xC8, 0, 0x50, 0, 0x60, 0xCC, 0x05, 8] =
      some (.loadProfile 1 (.travel travel)) := by decide

theorem test_decode_set_channel :
    decodeRequest 0x0E [1, 2, 1, 1, 0xEF, 0x01] = some (.setChannel 1 2 1 1 495) ∧
    decodeRequest 0x0E [0, 0, 0, 1, 0xF4, 0xFF] = some (.setChannel 0 0 0 1 (-12)) := by decide

theorem test_bad_lengths_refused :
    lengthGood 0x01 1 [0] = false ∧ lengthGood 0x05 2 [0, 0] = false ∧ lengthGood 0x08 23 [] = false ∧
    lengthGood 0x0B 13 [0, 0] = false ∧ lengthGood 0x0B 1 [0] = false ∧ lengthGood 0x0E 5 [] = false := by decide

theorem test_track_report_layout :
    parseReport [0xA5, 0, 0x96, 0xC3, 0, 0xF4, 0xFF, 0x1E, 0xF6, 0xFF, 9, 0xE5] = some (.a, ⟨50070, -12, 30, -10, 9⟩) ∧
    parseReport [0xA5, 0, 0x96, 0xC3, 0, 0xF4, 0xFF, 0x1E, 0xF6, 0xFF, 9, 0xE4] = none ∧
    parseReport [0xA5, 0, 0x96, 0xC3, 0, 0xF4, 0xFF, 0x1E, 0xF6, 0xFF, 16, 0xFC] = none := by decide

/-- An IDENTIFY frame to device 3: family code low byte first, both heads present, and the check of R179. -/
theorem test_identify_frame :
    (after (.frameComplete 0x02 .a) receiving).port.pendingReply =
      some (⟨true, 0x83⟩ ::
        [0x01, 0x08, 0x00, 0x08, 0x40, 0x22, 0x02, 0x03, 0x00, 0x02, 0xE3].map (Character.mk false)) := by decide

theorem test_bad_check_answered :
    (after (.dataCharacter 0x03 .a) receiving).port.pendingReply =
      some (⟨true, 0x83⟩ :: [0x01, 0x02, 0x02, 0x08, 0x8A].map (Character.mk false)) ∧
    (after (.dataCharacter 0x03 .a) receiving).lines.badCheck = 1 := by decide

/-- R198: the zone that a PAUSE_END record holds (R14) has no byte in it. -/
theorem test_pause_end_layout :
    LogRecord.bytes ⟨.pauseEnd ⟨203, some .clampGap⟩ 155000 40, 7, false, false, false⟩ =
      [0x05, 0, 7, 0, 203, 0, 0x78, 0x5D, 0x02, 40, 0] ++ List.replicate 13 0 := by decide

/-! ### Single steps of the manual's worked examples -/

/-- Chapter 2, fresh seam, steps 1 and 2. -/
theorem test_start_seam_approaches :
    (after (.startSeam 0) ready).headState .a = .approach ∧ (after (.startSeam 0) ready).gov.owned = true ∧
    answered (after (.startSeam 0) ready) = some (0x00, [0x10, 0x27, 0x00]) := by decide

theorem test_arrival_within_one_millimetre :
    let t := after (.governorUpdate (still 19995) inOrder)
      (phase .approach (-5000) fun q => { q with target := 10000 })
    t.headState .a = .spinup ∧ t.unitA.seq.plungeStation = 9995 ∧ t.unitA.seq.spindle = 1200 ∧
    t.unitA.seq.spinupTimer = 8000 ∧ t.gov.speed = 0 := by decide

/-- Chapter 2, steps 3 and 4: the budget falls from 3 to 2, and the first ramp sample moves 2 µm. -/
theorem test_at_speed_plunges :
    let t := after (.headSample .a { quiet with atSpeed := true } plain)
      (phase .spinup (-5000) fun q => { q with budget := 3, spinupTimer := 8000 })
    t.headState .a = .plunge ∧ t.unitA.seq.budget = 2 ∧ t.unitA.seq.plungeTimer = 30000 := by decide

theorem test_plunge_ramp_moves :
    let t := after (.headSample .a quiet plain)
      (phase .plunge (-5000) fun q => { q with plungeTimer := 30000, rampAcc := 499 })
    t.unitA.seq.depth = -4998 ∧ t.unitA.seq.rampAcc = 499 ∧ t.unitA.seq.plungeTimer = 29998 := by decide

theorem test_plunge_held_above_force_limit :
    (after (.headSample .a { quiet with force := ⟨2501, true⟩ } plain)
      (phase .plunge 4500 fun q => { q with plungeTimer := 30000 })).unitA.seq.depth = 4500 := by decide

theorem test_dwell_of_five_ends_at_third_sample :
    (after (.headSample .a quiet plain) (phase .dwell 4800 fun q => { q with dwellTimer := 1 })).headState .a = .weld ∧
    (after (.headSample .a quiet plain) (phase .dwell 4800 fun q => { q with dwellTimer := 3 })).headState .a =
      .dwell := by decide

theorem test_exit_retract_ends_ready :
    let t := after (.headSample .a quiet plain) (phase .exit (-4998) fun q => { q with spindle := 1200, budget := 2 })
    t.headState .a = .ready ∧ t.unitA.seq.spindle = 0 ∧ t.unitA.seq.depth = -5000 ∧ t.gov.owned = false := by decide

/-- Chapter 2, STOP SEAM at step 2 and at step 4. -/
theorem test_stop_seam_before_and_in_plunge :
    (after (.stopSeam (.head 0)) (phase .spinup (-5000) id)).headState .a = .ready ∧
    (after (.stopSeam (.head 0)) (phase .plunge 4500 id)).unitA.seq.cause = some .hostStop ∧
    (after (.stopSeam (.head 0)) (phase .plunge 4500 id)).unitA.seq.interruptStation = 10000 := by decide

/-- 10.4, step 4, and its two other overlaps. -/
theorem test_restart_seam_clamps_overlap :
    answered (after (.restartSeam 0 1500) interrupted) = some (0x01, [0x8E, 0x2B, 0x00, 0xE8, 0x03]) ∧
    (after (.restartSeam 0 1500) interrupted).unitA.seq.direction = .reverse ∧
    ((after (.restartSeam 0 1500) interrupted).unitA.plan.queue.map Segment.id) = [101, 102, 103, 111] ∧
    answered (after (.restartSeam 0 300) interrupted) = some (0x00, [0x4A, 0x2E, 0x00, 0x2C, 0x01]) := by decide

/-- Chapter 2, re-entry stations, the last row: interrupted in PLUNGE before the segment's start. -/
theorem test_restart_seam_before_plunge_station :
    let t := after (.restartSeam 0 600)
      { phase .interrupted (-5000) fun q => { q with interruptStation := 9995 } with gantry := channel 19995 }
    answered t = some (0x01, [0x10, 0x27, 0x00, 0xFB, 0xFF]) ∧ t.unitA.seq.direction = .forward := by decide

/-- R24: 102 and 103 leave, 111 is current. -/
theorem test_abandon_seam_to_exit_segment :
    answered (after (.abandonSeam 0) interrupted) = some (0x00, [2]) ∧
    (after (.abandonSeam 0) interrupted).unitA.plan = ⟨[segment 111 115000 2000 .carryOn], none, none⟩ ∧
    (after (.abandonSeam 0) interrupted).headState .a = .ready := by decide

theorem test_clear_plan_removes_all :
    answered (after (.clearPlan 0) interrupted) = some (0x00, [3]) ∧
    (after (.clearPlan 0) interrupted).unitA.plan = PlanStore.empty := by decide

theorem test_reset_head_keeps_budget :
    (after (.resetHead 0) interrupted).headState .a = .ready ∧ (after (.resetHead 0) interrupted).unitA.seq.budget = 8 ∧
    (after (.resetHead 0) interrupted).unitA.seq.cause = none := by decide

/-- Chapter 1, starvation: an append that ends behind the tool leaves the head starved, one that ends ahead resumes. -/
theorem test_late_append :
    let t := after (.appendSegment 0 (record 204 15000 50 0)) starving
    answered t = some (0x00, [0, 1]) ∧ t.unitA.plan.starved = some ⟨15000, 120⟩ ∧
    (after (.appendSegment 0 (record 205 15000 30000 0)) starving).unitA.plan.starved = none ∧
    (after (.appendSegment 0 (record 205 15000 30000 0)) starving).unitA.log.queue.map LogRecord.body =
      [.planResumed (named 205) 120] := by decide

theorem test_append_not_contiguous :
    answered (after (.appendSegment 0 (record 7 19000 10 1)) ready) = some (0x0B, [0, 2]) ∧
    answered (after (.appendSegment 0 { record 7 18000 10 1 with force := 4500 }) ready) = some (0x01, [1, 3]) := by
  decide

/-- R25 with a retained segment. -/
theorem test_read_plan_bytes :
    answered (after (.readPlan 0) interrupted) =
      some (0x00, [3, 3, 102, 0, 0xE0, 0x2E, 0x00, 0x80, 0xB5, 0x01, 0, 101, 0]) := by decide

/-- Chapter 7, the LIMITS reload. -/
theorem test_limits_reload_clamps :
    let t := after (.loadProfile 0 (.limits { limits with forceMax := 2500, torqueMax := 1800, torqueSoft := 1900, tempMax := 450 }))
      { ready with unitA := { ready.unitA with
        profiles := { ready.unitA.profiles with tool := some { tool with plungeForceLimit := 3000 } } } }
    answered t = some (0x01, [4, 0, 3, 2]) ∧ t.unitA.seq.budget = 0 ∧
    t.unitA.profiles.regulator.map RegulatorSet.softTemp = some 449 ∧
    t.unitA.profiles.limits.map LimitsSet.torqueSoft = some 1799 := by decide

/-- 10.1, steps 1 and 4. -/
theorem test_commissioning_order :
    answered (after (.loadProfile 0 (.tool tool)) State.reset) = some (0x08, []) ∧
    answered (after (.loadProfile 0 (.tool { tool with depthHardMax := 6500 }))
      (after (.loadProfile 0 (.limits limits)) State.reset)) = some (0x01, [4, 0, 0, 1]) := by decide

theorem test_read_profile_bytes :
    answered (after (.readProfile 0 2) ready) =
      some (0x00, [4, 0x40, 1, 0x30, 0, 15, 0xE0, 1, 5, 0x20, 3, 0xC8, 0, 0x64, 0, 15]) ∧
    answered (after (.readProfile 0 2) State.reset) = some (0x07, []) := by decide

theorem test_calibrate_needs_raised_tool :
    answered (after (.calibrate 0) ready) = some (0x00, []) ∧
    answered (after (.calibrate 0) (machine (unit .calDue (-2000)) (unit .ready 0) 0)) = some (0x07, []) := by decide

/-- Chapter 7, two calibrations. -/
theorem test_calibration_succeeds :
    let t := after (.calibrationJudged .a)
      (phase .calibrating (-5000) fun q => { q with budget := 2, cal := ⟨some .calDue, 256, 9216, 23, 51⟩ })
    t.headState .a = .ready ∧ t.unitA.seq.budget = 8 ∧ t.unitA.front.force.offset = -36 := by decide

theorem test_calibration_fails_on_spread :
    let t := after (.calibrationJudged .a)
      (phase .calibrating (-5000) fun q => { q with budget := 2, cal := ⟨some .ready, 256, -4650, -52, 3⟩ })
    t.headState .a = .ready ∧ t.unitA.seq.budget = 2 ∧
    t.unitA.log.queue.map LogRecord.body = [.calFailed .spread 256 (-18) 55] := by decide

/-- 10.5, step 3, and the table of R138. -/
theorem test_set_channel_substitute :
    answered (after (.setChannel 0 2 1 1 495) busy) = some (0x00, [1, 0xEF, 0x01]) ∧
    answered (after (.setChannel 0 0 1 1 0) busy) = some (0x11, []) ∧
    answered (after (.setChannel 0 4 0 0 0) busy) = some (0x11, []) ∧
    answered (after (.setChannel 0 2 0 1 101) busy) = some (0x06, []) := by decide

theorem test_set_log_bounds :
    answered (after (.setLog 20 64 896) ready) = some (0x00, [20, 0, 64, 0, 0x80, 3]) ∧
    answered (after (.setLog 19 64 896) ready) = some (0x06, []) := by decide

theorem test_read_records_oldest_first :
    let t := after (.readRecords 0 1) busy
    t.unitA.log.queue.map LogRecord.seq = [6] ∧ (answered t).map (fun r => r.2.take 4) = some [2, 0, 0, 1] := by decide

theorem test_read_counters_clears_line :
    (after (.readCounters 2 1) { ready with lines := ⟨7, 0, 0, 0, 0, 1⟩ }).lines = LineCounters.zero ∧
    answered (after (.readCounters 3 0) ready) = some (0x06, []) ∧
    answered (after (.readCounters 1 0) reversing) = some (0x05, []) := by decide

/-- READ STATUS of a welding head: state, station 10,500, depth 4870, speed 600, ADVANCE 1200 and level 2. -/
theorem test_read_status_bytes :
    (answered (after (.readStatus 0) busy)).map (fun r => [r.2.take 3, (r.2.drop 12).take 3, (r.2.drop 18).take 9, (r.2.drop 35).take 10]) =
      some [[9, 0, 0], [0x04, 0x29, 0x00], [201, 0, 0, 0, 2, 1, 0x06, 0x13, 0x00],
        [0x58, 0x02, 1, 2, 0xB0, 0x04, 0x00, 0, 2, 0]] := by decide

theorem test_read_channels_force_block :
    (answered (after (.readChannels 0) ready)).map (fun r => (r.2.take 13, r.2.length)) =
      some ([0x08, 0x07, 0, 1, 0, 0, 0, 0, 0, 0, 0x08, 0x07, 0], 76) := by decide

theorem test_reset_device_refused_while_engaged :
    answered (after (.resetDevice false) busy) = some (0x07, []) ∧ after (.resetDevice true) busy = busy ∧
    (after (.resetDevice true) ready).unitA = HeadUnit.powerOn := by decide

theorem test_deferred_reset_keeps_straps :
    let t := after .replyEnd { replying with
      straps := ⟨3, true, true⟩, port := { replying.port with resetDeferred := true } }
    t.straps = ⟨3, true, true⟩ ∧ t.unitA = HeadUnit.powerOn := by decide

theorem test_reset_input_presents_zero :
    let t := after .resetInputAsserted { busy with unitA := { busy.unitA with applied := ⟨1200, 4870, 380⟩ } }
    t.unitA.applied = ⟨0, 0, 0⟩ ∧ t.gov.owned = false ∧
    (after (.resetInputNegated ⟨5, true, false⟩) t).straps.address = 5 := by decide

/-- Chapter 9, a break while head A welds and head B pauses. -/
theorem test_break_halts_both_heads :
    let t := after (.lineBreak .b) (machine { unit .weld 4870 with plan := onePlan } { unit .pause 4870 with plan := onePlan } 21000)
    t.headState .a = .interrupting ∧ t.headState .b = .interrupting ∧ t.lines.breaks = 1 ∧ t.port.armed = false ∧
    t.unitB.log.queue.map LogRecord.body =
      [.interrupt .halt 11000 (named 201) .fresh .pause 4870, .halt .lineBreak .pause .interrupting] := by decide

theorem test_halt_input_aborts_calibration :
    let t := after (.haltInputAsserted .a)
      (phase .calibrating (-5000) fun q => { q with cal := ⟨some .calDue, 100, 3600, 23, 51⟩ })
    t.headState .a = .calDue ∧
    t.unitA.log.queue.map LogRecord.body = [.calFailed .halt 100 0 0, .halt .haltInput .calibrating .calDue] := by
  decide

theorem test_repeated_halt_is_no_event :
    after (.haltInputAsserted .a) { busy with pins := ⟨false, true, false⟩ } = { busy with pins := ⟨false, true, false⟩ } ∧
    (after .haltInputNegated { busy with pins := ⟨false, true, false⟩ }).headState .a = .weld := by decide

theorem test_break_detector_rearms :
    (after .breakDetectorRearm { ready with port := { ready.port with armed := false } }).port.armed = true := by decide

/-- Chapter 9, the repeated append: an address character discards the pending reply. -/
theorem test_address_character_discards_reply :
    let t := after (.addressCharacter 3) { ready with
      straps := ⟨3, false, true⟩, port := { ready.port with pendingReply := some [⟨true, 0x83⟩] } }
    t.port.pendingReply = none ∧ t.port.rx = .receiving ∧ t.port.frame = ⟨3, 0, 0, [], 3, 1⟩ := by decide

theorem test_frame_abandoned :
    (after .controlFramingError receiving).lines.framingErrors = 1 ∧
    (after .frameSilenceTimeout receiving).lines.truncatedFrames = 1 ∧
    (after .frameSilenceTimeout receiving).port.rx = .waitAddress := by decide

theorem test_reply_starts_and_ends :
    (after .replyStart { ready with port := { ready.port with pendingReply := some [⟨true, 0x80⟩] } }).port.transmit =
      some [⟨true, 0x80⟩] ∧
    (after .replyEnd replying).port.rx = .waitAddress := by decide

/-- R189: before the end or the discard of its reply a deferred reset does not take place. -/
theorem test_reset_waits_for_its_reply :
    after .resetTakesPlace deferring = deferring ∧
    (after .resetTakesPlace (after .replyStart deferring)).port.rx = .replying ∧
    (after .replyEnd (after .replyStart deferring)).port.resetDeferred = false ∧
    (after (.addressCharacter 0) deferring).unitA = HeadUnit.powerOn := by decide

/-- R175: no character comes while the line is held at 0. -/
theorem test_no_character_from_held_line :
    after (.addressCharacter 0) held = held ∧ after (.dataCharacter 0 .a) held = held ∧
    (after (.addressCharacter 0) (after .breakDetectorRearm held)).port.rx = .receiving := by decide

/-- Chapter 5, reports a, b, c, d, e and g of the stream. -/
theorem test_track_reports_in_order :
    let s : State := { busy with unitA := { busy.unitA with
      track := { busy.unitA.track with queue := [⟨49990, 380, 30, 10, 9⟩, ⟨50070, 450, 30, 10, 9⟩], toolStation := 50000 } } }
    let entry (station : Int) (quality : Nat) : State := acceptEntry .a ⟨station, 380, 30, 10, quality⟩ s
    (entry 50080 9) = s ∧ (entry 50060 9).unitA.log.counters.trackOutOfOrder = 1 ∧
    (entry 49995 9).unitA.log.counters.trackStale = 1 ∧ (entry 50120 2).unitA.log.counters.trackLowQuality = 1 ∧
    (entry 50090 5).unitA.track.queue.length = 3 := by decide

theorem test_track_report_for_absent_head_is_bad :
    (after (.trackReportArrival [0xA5, 1, 0x30, 0x75, 0, 0, 0, 0, 0, 0, 9, 0xE8]) reversing).lines.badTrackReports = 1 ∧
    (after (.trackerCharacter 0xA5) ready).tracker = .collecting [0xA5] ∧
    (after .trackSilenceTimeout { ready with tracker := .collecting [0xA5] }).lines.badTrackReports = 1 ∧
    (after .trackFramingError ready) = ready := by decide

/-- Chapter 5, the activation of 50,010: trimmed, active, the lateral target followed by the slew. -/
theorem test_activation_steers :
    let s : State := { busy with
      gantry := channel 60012
      unitA := { busy.unitA with
        plan := ⟨[{ segment 202 15000 100000 .carryOn with tracking := true }], none, none⟩
        track := { busy.unitA.track with
          queue := [⟨49990, 380, 30, 10, 9⟩, ⟨50010, 420, 35, 20, 9⟩, ⟨50030, 440, 75, 90, 9⟩]
          activeFirst := true, lateralTarget := 380, lateralCommand := 380 } } }
    let t := after (.headSample .a quiet plain) s
    t.unitA.track.queue.length = 2 ∧ t.unitA.track.lateralTarget = 420 ∧ t.unitA.track.lateralCommand = 395 ∧
    t.unitA.track.gapSlow = false := by decide +kernel

/-- R121, R124: the torque condition is taken first; the GAP and MISMATCH records and the loss stand, the conditions do
not. -/
theorem test_findings_stand_behind_another_cause :
    let t := after (.headSample .a { quiet with torque := ⟨2000, true⟩ } ⟨[], [.check .torque], false, false⟩)
      (tracked .stop 50300)
    t.unitA.seq.cause = some .torqueLimit ∧ t.unitA.log.counters.trackLosses = 1 ∧
    t.unitA.log.queue.map LogRecord.body = [.interrupt .torqueLimit 50300 (named 202) .fresh .weld 4870,
      .gap (named 202) 50300 50010 75 .stop, .mismatch (named 202) 50300 50010 90,
      .trackLoss (named 202) 50300 50010 290] := by decide +kernel

/-- R162: the accumulator has the gap-slow flag of the same sample, whatever place the command gives the log. -/
theorem test_log_takes_flags_of_the_sample :
    (after (.headSample .a quiet ⟨[], [.regulator, .log], false, false⟩) (tracked .slow 50012)).unitA.log.acc.flags.gapSlow =
      true := by decide +kernel

/-- Chapter 3, one regulator sample and its paused twin. -/
theorem test_regulator_sample :
    let i : SampleInput := { quiet with force := ⟨1580, true⟩, temp := ⟨500, true⟩ }
    let t := after (.headSample .a i plain) (sampling .weld)
    let u := after (.headSample .a i plain) (sampling .pause)
    t.unitA.seq.depth = 4885 ∧ t.unitA.reg.target = 1620 ∧ t.unitA.reg.ePrev = 40 ∧ t.unitA.reg.slewLimited = true ∧
    t.unitA.reg.saturated = false ∧ u.unitA.seq.depth = 4855 ∧ u.unitA.reg.target = 1296 := by decide +kernel

/-- Chapter 3, the first sample after a plunge: the entry clamp. -/
theorem test_entry_clamp :
    let t := after (.headSample .a { quiet with force := ⟨1650, true⟩ } plain)
      (machine { unit .weld 4800 with
        plan := ⟨[{ segment 201 10000 5000 .carryOn with windowMin := 5000, windowMax := 5400 }], none, none⟩
        reg := { Regulator.clear with firstSample := true } } (unit .ready 0) 21000)
    t.unitA.seq.depth = 5015 ∧ t.unitA.reg.saturated = true ∧ t.unitA.reg.saturationCount = 1 := by decide +kernel

/-- Chapter 3, the excursion and the silence after it: within the sample, and by its row behind a sample with split on
that also interrupts the head. -/
theorem test_excursion_once :
    let s : State := { busy with unitA := { busy.unitA with reg := { Regulator.clear with excursionRun := 100 } } }
    let t := after (.headSample .a { quiet with force := ⟨1000, true⟩ } plain) s
    let u := after (.headSample .a { quiet with force := ⟨1000, true⟩, torque := ⟨2000, true⟩ } ⟨[], [], false, true⟩) s
    t.unitA.log.counters.excursions = 1 ∧ t.unitA.reg.excursionLatch = true ∧
    u.headState .a = .interrupting ∧ u.unitA.reg.excursionLatch = true ∧ u.unitA.log.counters.excursions = 0 ∧
    (after (.excursion .a) u).unitA.log.counters.excursions = 1 ∧
    ((after (.excursion .a) u).unitA.log.queue.getLast?.map LogRecord.body) =
      some (.excursion (named 201) .weld 800 101 false 10500) ∧
    after (.excursion .a) (after (.excursion .a) u) = after (.excursion .a) u := by decide +kernel

/-- R163, R164: at the sample that completes the EXIT segment, the SAMPLE of a reached mark where the log works first, and
none where it works last. -/
theorem test_mark_at_the_end_of_a_seam :
    let s : State := { busy with
      gantry := channel 28000
      unitA := { busy.unitA with
        plan := ⟨[segment 202 15000 3000 .exit], none, none⟩
        log := { busy.unitA.log with nextMark := some ⟨18000, false⟩ } } }
    let t (acts : List SampleAct) := after (.headSample .a quiet ⟨[], acts, false, false⟩) s
    (t []).headState .a = .exit ∧ (t [.regulator, .log]).headState .a = .exit ∧
    ((t []).unitA.log.queue.drop 2).map (fun r => r.body.isSample) = [false, false] ∧
    ((t [.regulator, .log]).unitA.log.queue.drop 2).map (fun r => r.body.isSample) = [true, false, false] := by
  decide +kernel

/-- Chapter 3, a run of three samples at the force maximum. -/
theorem test_force_limit_run :
    let s : State := { busy with unitA := { busy.unitA with reg := { Regulator.clear with forceRun := 2 } } }
    (after (.headSample .a { quiet with force := ⟨4001, true⟩ } plain) s).unitA.seq.cause = some .forceLimit := by
  decide +kernel

/-- Chapter 6, the effective force: conversions 3 and 5 of the table. -/
theorem test_effective_force :
    let s : State := { ready with unitA := { ready.unitA with front := { ready.unitA.front with
      force := { channel 1630 with offset := -12, overrideOn := true, overrideOffset := 20 } } } }
    let t := after (.headSample .a { quiet with force := ⟨8000, true⟩ } plain) s
    t.unitA.front.force.effective = 1630 ∧ t.unitA.front.force.fault = true ∧
    t.unitA.log.queue.map LogRecord.body = [.sensorFault .force .rail 8000 false .ready] ∧
    (after (.headSample .a { quiet with force := ⟨7050, true⟩ } plain) s).unitA.front.force.effective = 7000 := by decide

/-- Chapter 6, a pyrometer drops out: sample k + 249. -/
theorem test_grace_runs_out :
    let s : State := { busy with unitA := { busy.unitA with front := { busy.unitA.front with
      temp := { channel 462 with valid := false, fault := true, grace := 249 } } } }
    let t := after (.headSample .a { quiet with temp := ⟨30, false⟩ } plain) s
    t.unitA.front.temp.effective = 462 ∧ t.unitA.seq.cause = some .sensor := by decide +kernel

/-- Chapter 4, two approaches: the first update raises the speed by the step of the smaller acceleration. -/
theorem test_first_update_ramps :
    let approaching (target : Int) : HeadUnit :=
      { unit .approach (-5000) with seq := { (unit .approach (-5000)).seq with target := target } }
    let t := after (.governorUpdate (still 19000) inOrder) (machine (approaching 10000) (approaching 22000) 19000)
    t.gov.speed = 6 ∧ t.gov.direction = .forward := by decide

/-- Chapter 4, the torque derate and the gap that slows. -/
theorem test_torque_derate :
    let s (slow : Bool) : State := { busy with
      gov := { busy.gov with speed := 1200 }
      unitA := { busy.unitA with
        front := { busy.unitA.front with torque := channel 1700 }, track := { busy.unitA.track with gapSlow := slow } } }
    (after (.governorUpdate (still 25000) inOrder) (s false)).gov.speed = 720 ∧
    (after (.governorUpdate (still 25000) inOrder) (s true)).unitA.travel.permitted = 360 := by decide

/-- Chapter 4, a reverse re-entry: the direction is turned at speed 0 first. -/
theorem test_reverse_turns_through_zero :
    let t := after (.governorUpdate (still 22150) inOrder)
      { reversing with gov := ⟨true, 0, .forward, some 380000, true⟩ }
    t.gov.speed = 0 ∧ t.gov.direction = .reverse ∧
    (after (.governorUpdate (still 22150) inOrder) t).gov.speed = 6 := by decide

/-- Chapter 4, the pause timer under the other head's HOLD, and its end. -/
theorem test_pause_timer :
    let s := sampling .pause
    (after (.governorUpdate (still 21000) inOrder) s).unitA.travel = ⟨1200, 9990, 10⟩ ∧
    (after (.governorUpdate (still 21000) inOrder)
      { s with unitA := { s.unitA with travel := ⟨1200, 10, 9990⟩ } }).unitA.seq.cause = some .pauseLimit := by decide

/-- Chapter 8, marks near the threshold, with the least threshold that can be set: the mark after an emission that brings
the level to 64 is computed at twice the pitch. -/
theorem test_coalesced_mark :
    let s : State := { busy with
      settings := ⟨100, 64, 480⟩
      unitA := { busy.unitA with
        seq := { busy.unitA.seq with weldEntry := 10000 }
        log := { busy.unitA.log with queue := List.replicate 63 (logged 5 false), nextMark := some ⟨10500, false⟩ } } }
    (after (.headSample .a quiet plain) s).unitA.log.nextMark = some ⟨10600, true⟩ := by decide +kernel

/-- Chapter 8, the reserve: with no common slot free a SAMPLE record is dropped and an event takes a reserved slot. -/
theorem test_reserve_and_gap :
    let s : State := { ready with
      unitA := { ready.unitA with log := { ready.unitA.log with queue := List.replicate 900 (logged 5 false), seq := 1200 } }
      unitB := { ready.unitB with log := { ready.unitB.log with queue := List.replicate 60 (logged 5 false) } } }
    let t := createRecord .a (.sample 0 0 0 0 0 0 0 0 SampleFlags.clear 0 0) false s
    let u := createRecord .a (.starved 0 (named 0)) false t
    t.unitA.log.counters.recordsLost = 1 ∧ t.level .a = 900 ∧
    u.unitA.log.queue.getLast? = some ⟨.starved 0 (named 0), 1201, true, false, true⟩ := by decide +kernel

/-! ### A state for the hypotheses of every statement -/

/-- A step that completes answers a next state. -/
theorem steps {s : State} (h : completes s = true) : ∃ t, step s = .next t := by
  unfold completes at h
  split at h
  · exact ⟨_, ‹_›⟩
  · cases h
  · cases h

theorem witness_QueueFrontRuns :
    busy.pending = .headSample .a quiet plain :: [] ∧ State.reset.pending = [] := ⟨rfl, rfl⟩

theorem witness_EveryCommandCompletes : ∀ straps, Instr.identify ≠ .resetInputNegated straps := nofun

theorem witness_RequestsDecodeAsEncoded :
    (Instr.setChannel 255 255 255 255 (-32768)).wellFormed = true ∧
    encodeRequest (.setChannel 255 255 255 255 (-32768)) = some (0x0E, [255, 255, 255, 255, 0, 128]) ∧
    (Instr.loadProfile 1 (.unknown 4)).wellFormed = true ∧
    encodeRequest (.loadProfile 1 (.unknown 4)) = some (0x0B, [1, 4]) := by decide

theorem witness_RecordLogLawsKept : RecordPoolLaw busy ∧ NumberingLaw busy ∧ SettingsLaw busy ∧ ∃ t, step busy = .next t := by
  refine ⟨⟨?_, ?_, by decide +kernel, by decide +kernel, ?_⟩, ?_, by unfold SettingsLaw; decide, steps (by decide)⟩
  · intro h; cases h <;> decide +kernel
  · intro h; cases h <;> decide +kernel
  · intro h; cases h <;> decide +kernel
  · intro h
    cases h
    · exact ⟨.cons_cons (fun _ => rfl) (.singleton _), fun r e _ => by cases e; rfl⟩
    · exact ⟨.nil, fun r e _ => by rw [show (busy.head .b).log.queue.getLast? = none from rfl] at e; cases e⟩

theorem witness_SpindleKept : SpindleLaw busy ∧ busy.unitA.seq.spindle = 1200 ∧ ∃ t, step busy = .next t :=
  ⟨by intro h; cases h <;> decide, rfl, steps (by decide)⟩

theorem witness_TravelOwnershipKept : TravelLaw busy ∧ busy.gov.speed = 600 ∧ ∃ t, step busy = .next t :=
  ⟨by unfold TravelLaw; decide, rfl, steps (by decide)⟩

/-- Both heads of a part of four sets, and an absent head B, are commissioned as they should be. -/
theorem commissioned_busy : CommissioningLaw busy := by
  intro h
  cases h
  · exact ⟨by unfold ProfileStore.Commissioned; decide, by unfold StateFits; decide, nofun⟩
  · exact ⟨by unfold ProfileStore.Commissioned; decide, by unfold StateFits; decide, nofun⟩

theorem commissioned_reversing : CommissioningLaw reversing := by
  intro h
  cases h
  · exact ⟨by unfold ProfileStore.Commissioned; decide, by unfold StateFits; decide, nofun⟩
  · exact ⟨by unfold ProfileStore.Commissioned; decide, by unfold StateFits; decide, nofun⟩

theorem commissioned_starving : CommissioningLaw starving := by
  intro h
  cases h
  · exact ⟨by unfold ProfileStore.Commissioned; decide, by unfold StateFits; decide, nofun⟩
  · exact ⟨by unfold ProfileStore.Commissioned; decide, by unfold StateFits; decide, nofun⟩

theorem witness_CommissioningKept : CommissioningLaw busy ∧ ∃ t, step busy = .next t :=
  ⟨commissioned_busy, steps (by decide)⟩

theorem witness_CalibrationBudgetKept : CommissioningLaw busy ∧ BudgetLaw busy ∧ ∃ t, step busy = .next t := by
  refine ⟨commissioned_busy, ?_, steps (by decide)⟩
  intro h
  cases h
  · exact ⟨fun t e => by cases e; decide, by decide, by decide⟩
  · exact ⟨fun t e => by cases e; decide, by decide, by decide⟩

theorem witness_PlanContiguityKept :
    PlanLaw busy ∧ PlanLaw starving ∧ (∃ t, step busy = .next t) ∧ ∃ t, step starving = .next t := by
  refine ⟨?_, ?_, steps (by decide), steps (by decide)⟩
  · intro h
    cases h
    · exact ⟨by decide, .cons_cons rfl (.singleton _), nofun⟩
    · exact ⟨by decide, .nil, nofun⟩
  · intro h
    cases h
    · exact ⟨by decide, .nil, fun g _ => ⟨by decide, nofun⟩⟩
    · exact ⟨by decide, .nil, nofun⟩

theorem witness_LookaheadOrderKept : CommissioningLaw busy ∧ LookaheadLaw busy ∧ ∃ t, step busy = .next t := by
  refine ⟨commissioned_busy, ?_, steps (by decide)⟩
  intro h
  cases h
  · exact ⟨⟨by decide, by decide, by decide⟩, fun t e => by cases e; decide⟩
  · exact ⟨⟨by decide, by decide, by decide⟩, fun t e => by cases e; decide⟩

theorem witness_AbsentHeadKept :
    AbsentHeadLaw reversing ∧ reversing.straps.headB = false ∧ ∃ t, step reversing = .next t :=
  ⟨fun _ => rfl, rfl, steps (by decide)⟩

theorem witness_ReverseApproachAlone :
    TravelLaw reversing ∧ AbsentHeadLaw reversing ∧ CommissioningLaw reversing ∧ ReverseLaw reversing ∧
    reversing.gov.speed = 300 ∧ reversing.gov.direction = .reverse ∧ ∃ t, step reversing = .next t := by
  refine ⟨by unfold TravelLaw; decide, fun _ => rfl, commissioned_reversing, ⟨?_, fun _ _ => ⟨.a, by decide⟩⟩, rfl, rfl,
    steps (by decide)⟩
  intro h
  cases h <;> decide

theorem witness_AdvanceSpeedKept :
    TravelLaw busy ∧ CommissioningLaw busy ∧ AdvanceSpeedLaw busy ∧ (∃ t, step busy = .next t) ∧
    (∀ inp order, Instr.stopSeam (.head 0) ≠ .governorUpdate inp order) ∧
    exec (.stopSeam (.head 0)) busy = .next (after (.stopSeam (.head 0)) busy) ∧
    reversing.pins.reset = false ∧ TravelLaw reversing ∧
    (let t := after (.governorUpdate (still 22150) inOrder) reversing
     exec (.governorUpdate (still 22150) inOrder) reversing = .next t ∧ (∀ h, (t.headState h).welding = false) ∧
     t.headState .a = .approach) := by
  refine ⟨by unfold TravelLaw; decide, commissioned_busy, by intro h; cases h <;> decide, steps (by decide), nofun, rfl,
    rfl, by unfold TravelLaw; decide, rfl, ?_, by decide⟩
  intro h
  cases h <;> decide

theorem witness_OpenSeamKept :
    CommissioningLaw starving ∧ OpenSeamLaw starving ∧ (∃ t, step starving = .next t) := by
  refine ⟨commissioned_starving, ?_, steps (by decide)⟩
  intro h
  cases h <;> decide

theorem witness_MissingHeadAnswersNoHead :
    reversing.pins.reset = false ∧ namedHead (.readStatus 2) = some (0x02, 2) ∧
    (∀ h, headCode h = 2 → ready.present h = false) ∧ namedHead (.startSeam 1) = some (0x03, 1) ∧
    ∀ h, headCode h = 1 → reversing.present h = false := by
  refine ⟨rfl, rfl, ?_, rfl, ?_⟩ <;> (intro h; cases h <;> decide)

theorem witness_ReadingRequestsAnswer :
    receiving.pins.reset = false ∧ receiving.straps.headB = true ∧ interrupted.pins.reset = false ∧
    interrupted.present .a = true ∧ interrupted.unitA.plan.queue.head? = some (segment 102 12000 100000 .carryOn) ∧
    interrupted.unitA.plan.retained = some (segment 101 10000 2000 .carryOn) ∧ ready.unitA.plan.retained = none ∧
    ready.unitB.plan.queue = [] ∧ ready.unitA.profiles.travel = some travel ∧
    State.reset.unitA.profiles.limits = none ∧ busy.present .b = true ∧ busy.gov.owned = true ∧
    ready.gov.owned = false := by decide

theorem witness_ReadStatusAnswersItems :
    busy.pins.reset = false ∧ busy.present .a = true ∧ busy.unitA.plan.inForce.isSome ∧ busy.demand .a = .advance ∧
    reversing.demand .a = .approach := by decide

theorem witness_StartSeamTaken :
    ready.pins.reset = false ∧ ready.present .a = true ∧ firstFailure (startChecks .a ready) = none ∧
    ready.unitA.plan.current = some (segment 201 10000 5000 .carryOn) ∧
    firstFailure (startChecks .a busy) = some .wrongState ∧
    firstFailure (startChecks .a (phase .calDue 0 id)) = some .calDue ∧
    firstFailure (startChecks .a { ready with pins := ⟨false, true, false⟩ }) = some .halted ∧
    firstFailure (startChecks .b ready) = some .planEmpty ∧
    firstFailure (startChecks .a { ready with gantry := { channel 0 with fault := true } }) = some .sensorFault ∧
    firstFailure (startChecks .a { ready with unitA := { ready.unitA with drives := ⟨true, true, true, false, true⟩ } }) =
      some .driveNotReady ∧
    firstFailure (startChecks .a { ready with gantry := channel 20010 }) = none ∧
    firstFailure (startChecks .a { ready with gantry := channel 20011 }) = some .position ∧
    firstFailure (startChecks .a { ready with unitB := reversing.unitA }) = some .otherHeadBusy := by decide

theorem witness_StopSeamByState :
    (phase .spinup 0 id).pins.reset = false ∧ (phase .spinup 0 id).present .a = true ∧
    ((phase .spinup 0 id).headState .a).starting = true ∧ (busy.headState .a).inMaterial = true ∧
    (ready.headState .a).starting = false ∧ (ready.headState .a).inMaterial = false := by decide

theorem witness_RestartSeamTaken :
    interrupted.pins.reset = false ∧ interrupted.present .a = true ∧
    firstFailure (restartChecks .a interrupted) = none ∧
    interrupted.unitA.plan.retained = some (segment 101 10000 2000 .carryOn) ∧
    firstFailure (restartChecks .a (phase .interrupted 0 id)) = none ∧
    (phase .interrupted 0 id).unitA.plan.retained = none ∧
    (phase .interrupted 0 id).unitA.plan.current = some (segment 201 10000 5000 .carryOn) ∧
    firstFailure (restartChecks .a ready) = some .wrongState ∧
    firstFailure (restartChecks .a { interrupted with pins := ⟨false, true, false⟩ }) = some .halted ∧
    firstFailure (restartChecks .a { interrupted with gantry := { channel 0 with fault := true } }) =
      some .sensorFault ∧
    firstFailure (restartChecks .a { interrupted with
      unitA := { interrupted.unitA with drives := ⟨true, true, true, true, false⟩ } }) = some .driveNotReady ∧
    firstFailure (restartChecks .a { interrupted with unitB := unit .weld 4800 }) = some .otherHeadBusy := by decide

theorem witness_RestartSeamTaken_exit_retained :
    let s : State := { interrupted with
      unitA := { interrupted.unitA with plan := { twoPlan with retained := some (segment 90 5000 5000 .exit) } } }
    firstFailure (restartChecks .a s) = none ∧ s.unitA.plan.current = some (segment 201 10000 5000 .carryOn) := by decide

theorem witness_AbandonSeamRemovesSeam :
    interrupted.pins.reset = false ∧ interrupted.present .a = true ∧ interrupted.headState .a = .interrupted ∧
    interrupted.unitA.plan.queue =
      ([segment 102 12000 100000 .carryOn] ++ [segment 103 112000 3000 .exit]) ++
        [segment 111 115000 2000 .carryOn] ∧
    (segment 103 112000 3000 .exit).endAction = .exit ∧
    (∀ b ∈ [segment 102 12000 100000 .carryOn], b.endAction = .carryOn) ∧
    onePlan.queue = onePlan.queue ++ [] ∧ (∀ b ∈ onePlan.queue, b.endAction = .carryOn) ∧
    ready.headState .a ≠ .interrupted := by decide

theorem witness_ResetHeadClearsHead :
    interrupted.pins.reset = false ∧ interrupted.present .a = true ∧ (interrupted.headState .a).engaged = false ∧
    (busy.headState .a).engaged = true := by decide

theorem witness_AppendSegmentTaken :
    ready.pins.reset = false ∧ ready.present .a = true ∧ ready.headState .a ≠ .calibrating ∧
    (phase .calibrating 0 id).headState .a = .calibrating ∧ recordInRange (record 1 0 9 0) = false ∧
    recordInRange (record 203 18000 10 0) = true ∧
    ClampedFrom ready.unitA.profiles (record 203 18000 10 0) (segment 203 18000 10 .carryOn) ∧
    firstFailure (appendChecks ready.unitA.plan (segment 203 18000 10 .carryOn)) = none ∧
    firstFailure (appendChecks ready.unitA.plan (segment 203 18001 10 .carryOn)) = some .notContiguous ∧
    firstFailure (appendChecks ⟨List.replicate 48 (segment 1 0 10 .carryOn), none, none⟩ (segment 2 10 10 .carryOn)) =
      some .planFull ∧
    firstFailure (appendChecks ready.unitA.plan { segment 2 10 10 .carryOn with windowMin := 5200 }) =
      some .badField := by
  unfold ClampedFrom
  decide

theorem witness_ClearPlanEmptiesPlan :
    ready.pins.reset = false ∧ ready.present .a = true ∧ ready.headState .a = .ready ∧
    interrupted.headState .a = .interrupted ∧ (busy.headState .a).engaged = true := by decide

theorem witness_LoadProfileTaken :
    ready.pins.reset = false ∧ ready.present .a = true ∧
    (∀ l ∈ [.limits limits, .tool tool, .regulator regulator, .travel travel],
      firstFailure (loadChecks .a l ready) = none) ∧
    firstFailure (loadChecks .a (.unknown 4) ready) = some .badField ∧
    firstFailure (loadChecks .a (.travel travel) busy) = some .wrongState ∧
    firstFailure (loadChecks .a (.tool tool) interrupted) = some .wrongState ∧
    firstFailure (loadChecks .a (.regulator regulator) interrupted) = none ∧
    firstFailure (loadChecks .a (.tool tool) State.reset) = some .sequence ∧
    firstFailure (loadChecks .a (.limits { limits with gapLimit := 201 }) ready) = some .badField := by decide

theorem witness_CalibrateTaken :
    ready.pins.reset = false ∧ ready.present .a = true ∧ firstFailure (calibrateChecks .a ready) = none ∧
    firstFailure (calibrateChecks .a busy) = some .wrongState ∧
    firstFailure (calibrateChecks .a { ready with pins := ⟨false, true, false⟩ }) = some .halted ∧
    firstFailure (calibrateChecks .a { ready with unitA := { ready.unitA with
      front := { ready.unitA.front with force := Channel.powerOn } } }) = some .sensorFault ∧
    firstFailure (calibrateChecks .a { ready with unitA := { ready.unitA with
      drives := ⟨true, true, false, true, true⟩ } }) = some .driveNotReady ∧
    firstFailure (calibrateChecks .a (phase .ready (-4999) id)) = some .wrongState := by decide

theorem witness_SetChannelTaken :
    ready.pins.reset = false ∧ ready.present .a = true ∧ firstFailure (channelChecks 2 1 1 495) = none ∧
    2 = (nameOf .temp).code ∧ 1 = Setting.substitute.code ∧ 1 = bit true ∧
    firstFailure (channelChecks 0 0 0 9999) = none ∧ 0 = (nameOf .force).code ∧ 0 = bit false ∧
    firstFailure (channelChecks 5 0 0 0) = some .badField ∧ firstFailure (channelChecks 3 0 1 0) = some .notAllowed ∧
    firstFailure (channelChecks 2 1 1 801) = some .badField := by decide

theorem witness_ReadRecordsDrainsQueue :
    busy.pins.reset = false ∧ busy.present .a = true ∧ busy.unitA.log.queue.length = 2 ∧
    logged 5 false ∈ busy.unitA.log.queue := by decide

theorem witness_LogRequestsTaken :
    ready.pins.reset = false ∧ ¬(20 ≤ 19) ∧ 20 ≤ 20 ∧ 500 ≤ 500 ∧ 64 ≤ 64 ∧ 896 ≤ 896 ∧ ready.present .b = true ∧
    reversing.straps.headB = false ∧ 3 ≤ 3 := by decide

theorem witness_ResetDeviceDefersReset :
    busy.pins.reset = false ∧ ((busy.headState .a).engaged || (busy.headState .b).engaged) = true ∧
    ((ready.headState .a).engaged || (ready.headState .b).engaged) = false := by decide

theorem witness_ResetInputPowersOn : ready.pins.reset = false := rfl

theorem witness_HaltEventsHaltHeads :
    busy.pins.reset = false ∧ (∀ h, (busy.head h).seq.OriginKept) ∧ busy.pins.halt = false ∧
    busy.port.rx ≠ .replying ∧ busy.port.armed = true ∧ busy.port.resetDeferred = false ∧
    deferring.port.rx ≠ .replying ∧ deferring.port.armed = true ∧ deferring.port.resetDeferred = true ∧
    held.port.armed = false ∧
    (phase .calibrating 0 fun q => { q with cal := ⟨some .ready, 0, 0, 0, 0⟩ }).unitA.seq.OriginKept := by
  refine ⟨rfl, fun h => (commissioned_busy h).2.2, rfl, by decide, rfl, rfl, by decide, rfl, rfl, rfl, fun _ => .inr (.inl rfl)⟩

theorem witness_AddressCharacterBeginsFrame :
    receiving.pins.reset = false ∧ receiving.port.rx ≠ .replying ∧ receiving.port.resetDeferred = false ∧
    receiving.pins.lineLow = false ∧ receiving.port.rx = .receiving ∧ (3 : Byte).toNat = receiving.straps.address.toNat ∧
    held.port.rx ≠ .replying ∧ held.pins.lineLow = true ∧ deferring.port.rx ≠ .replying ∧
    deferring.pins.lineLow = false ∧ deferring.port.resetDeferred = true := by decide

theorem witness_FrameCollectedOrAbandoned :
    ready.pins.reset = false ∧ held.pins.reset = false ∧ held.pins.lineLow = true ∧ ready.pins.lineLow = false ∧
    receiving.pins.lineLow = false ∧ ready.port.rx = .waitAddress ∧ receiving.port.rx = .receiving ∧
    (let f : FrameBuffer := ⟨3, 0, 0, [], 3, 1⟩; 1 ≤ f.count ∧ f.count < 3) ∧
    (let f : FrameBuffer := ⟨3, 5, 3, [0], 3, 4⟩; 1 ≤ f.count ∧ f.count ≠ 3 + f.length.toNat) := by decide

theorem witness_BadCheckAnswered :
    receiving.pins.reset = false ∧ receiving.pins.lineLow = false ∧ receiving.port.rx = .receiving ∧
    receiving.port.frame.count = 3 + receiving.port.frame.length.toNat ∧ receiving.port.frame.check ≠ 3 := by decide

theorem witness_GoodFrameDispatched :
    receiving.port.frame.check = 2 ∧ receiving.port.frame.address ≠ 0x0F ∧
    receiving.port.frame.kind.toNat = 1 ∧ lengthFits 1 0 [] = true ∧ decodeRequest 0x01 [] = some .identify ∧
    lengthFits 1 1 [0] = false ∧ lengthFits 0x13 0 [] = true ∧ lengthFits 0x0B 14 [0, 0] = true ∧
    lengthFits 0x0B 15 [0, 0] = false ∧ lengthFits 0x0B 2 [0, 4] = true ∧ lengthFits 0x0B 1 [0] = false ∧
    (let f : FrameBuffer := ⟨0x0F, 0x04, 1, [0], 0x0A, 4⟩; f.address = 0x0F ∧ f.count = 3 + f.length.toNat) := by
  decide

theorem witness_ReplySentToItsEnd :
    deferring.port.rx = .waitAddress ∧ deferring.port.pendingReply = some [⟨true, 0x80⟩] ∧
    deferring.pins.lineLow = false ∧ replying.pins.reset = false ∧ replying.port.rx = .replying ∧
    replying.port.pendingReply = none := by decide

theorem witness_TrackerReceiverCollects :
    ready.pins.reset = false ∧ ready.tracker = .hunt ∧
    (let kept : List Byte := [0xA5, 0, 0, 0, 0, 0, 0, 0, 0, 0, 0]; kept.length = 11 ∧ kept.head? = some 0xA5) := by decide

theorem witness_TrackReportAccepted :
    let e : TrackEntry := ⟨50070, -12, 30, -10, 9⟩
    busy.pins.reset = false ∧ busy.tracker = .hunt ∧ e.inRange ∧ busy.present .a = true ∧
    reportOf .a e = [0xA5, 0, 0x96, 0xC3, 0, 0xF4, 0xFF, 0x1E, 0xF6, 0xFF, 9, 0xE5] ∧ (reportOf .b e).length = 12 ∧
    (reportOf .b e).head? = some 0xA5 ∧ reversing.straps.headB = false := by
  unfold TrackEntry.inRange
  decide

/-- The same report completed from COLLECTING, by its last character and by its last eleven. -/
theorem witness_TrackReportAccepted_collecting :
    let e : TrackEntry := ⟨50070, -12, 30, -10, 9⟩
    let s (n : Nat) : State := { busy with tracker := .collecting ((reportOf .a e).take n) }
    (s 11).pins.reset = false ∧ (s 11).tracker = .collecting ((reportOf .a e).take 11) ∧ (s 11).present .a = true ∧
    (reportOf .a e).take 11 ++ [0xE5] = reportOf .a e ∧
    (reportOf .a e).take 1 ++ (reportOf .a e).drop 1 = reportOf .a e ∧
    (after (.trackReportArrival [0xE5]) (s 11)).unitA.track.queue.length = 3 ∧
    (after (.trackReportArrival ((reportOf .a e).drop 1)) (s 1)).unitA.track.queue.length = 3 ∧
    (after (.trackReportArrival [0xE4]) (s 11)).lines.badTrackReports = 1 := by decide +kernel

/-- A report whose fields are in range for no entry: quality 16. -/
theorem witness_TrackReportAccepted_malformed :
    ∀ h (e : TrackEntry), e.inRange →
      [0xA5, 0, 0x96, 0xC3, 0, 0xF4, 0xFF, 0x1E, 0xF6, 0xFF, 16, 0xFC] = reportOf h e → ready.present h = false := by
  intro h e he heq
  have q : leBytes 1 (e.quality : Int) = [16] := by
    have := congrArg (fun l => (l.drop 10).take 1) heq
    simpa [reportOf, leBytes] using this.symm
  unfold TrackEntry.inRange at he
  obtain ⟨-, -, -, -, -, -, -, h15⟩ := he
  interval_cases hq : e.quality <;> simp [leBytes] at q

theorem witness_HeadSampleConverts :
    busy.pins.reset = false ∧ busy.present .a = true ∧ quiet.wellFormed = true ∧
    busy.unitA.profiles.tool = some tool ∧ CommonRoom busy ∧ busy.unitA.front.force.fault = false ∧
    ({ quiet with force := ⟨8000, true⟩ } : SampleInput).wellFormed = true := by
  unfold CommonRoom
  decide

theorem witness_SequencerWorksAtSample_idle :
    ready.pins.reset = false ∧ ready.present .a = true ∧ (ready.headState .a).engaged = false ∧
    ready.headState .a ≠ .calibrating ∧ ready.unitA.profiles.tool = some tool ∧ ∀ c, faultOf quiet c = none := by
  refine ⟨rfl, rfl, rfl, by decide, rfl, ?_⟩
  intro c
  cases c <;> decide

/-- SPINUP, PLUNGE and DWELL, left with time on their timers and ended at their boundaries. -/
theorem witness_SequencerWorksAtSample_timers :
    let after1 (s : State) : HeadState := (after (.headSample .a quiet (actFirst .sequence)) s).headState .a
    after1 (phase .spinup (-5000) fun q => { q with spinupTimer := 3 }) = .spinup ∧
    after1 (phase .spinup (-5000) fun q => { q with spinupTimer := 2 }) = .ready ∧
    after1 (phase .plunge 4500 fun q => { q with plungeTimer := 3 }) = .plunge ∧
    after1 (phase .plunge 4500 fun q => { q with plungeTimer := 2 }) = .interrupting ∧
    rampedTo 499 4799 4800 1000 = (499, 4800) ∧ rampedTo 0 4500 4800 1000 = (0, 4502) ∧
    after1 (phase .dwell 4800 fun q => { q with dwellTimer := 3 }) = .dwell ∧
    after1 (phase .dwell 4800 fun q => { q with dwellTimer := 2 }) = .weld ∧
    (actFirst .sequence).acts.head? = some .sequence ∧ (actFirst .sequence).split = false := by decide +kernel

/-- EXIT and INTERRUPTING short of the clearance height and at it, and CALIBRATING with a good and a bad reading. -/
theorem witness_SequencerWorksAtSample_ends :
    (phase .exit 0 id).headState .a = .exit ∧ (phase .interrupting 0 id).headState .a = .interrupting ∧
    (phase .exit 0 id).pins.reset = false ∧ (phase .exit 0 id).present .a = true ∧
    rampedTo 0 0 (-5000) 2000 = (0, -4) ∧ rampedTo 0 (-4998) (-5000) 2000 = (0, -5000) ∧
    (let s (count : Nat) : State :=
      phase .calibrating (-5000) fun q => { q with cal := ⟨some .ready, count, 0, 0, 0⟩ }
     (s 255).headState .a = .calibrating ∧ (s 255).unitA.seq.origin = .ready ∧
     (after (.headSample .a quiet plain) (s 0)).unitA.front.force.valid = true ∧
     (after (.headSample .a quiet plain) (s 255)).unitA.front.force.valid = true ∧
     (after (.headSample .a { quiet with force := ⟨8000, true⟩ } plain) (s 0)).unitA.front.force.valid = false) := by
  decide +kernel

theorem witness_WeldSampleRegulates :
    (sampling .weld).pins.reset = false ∧ (sampling .weld).present .a = true ∧
    ((sampling .weld).headState .a).welding = true ∧ ((sampling .pause).headState .a).welding = true ∧
    (sampling .weld).unitA.plan.inForce = some (segment 201 10000 5000 .carryOn) ∧ plain.acts = [] ∧
    (actFirst .regulator).acts.head? = some .regulator ∧
    (after (.headSample .a quiet plain) (sampling .weld)).headState .a = .weld ∧
    (after (.headSample .a quiet plain) (sampling .weld)).unitA.plan.inForce =
      some (segment 201 10000 5000 .carryOn) := by decide +kernel

/-- An excursion due at the sample, its length reached just now. -/
theorem witness_WeldSampleRegulates_excursion :
    let s : State := { busy with unitA := { busy.unitA with reg := { Regulator.clear with excursionRun := 100 } } }
    let t (split : Bool) := after (.headSample .a { quiet with force := ⟨1000, true⟩ } ⟨[], [], false, split⟩) s
    s.pins.reset = false ∧ s.present .a = true ∧ (s.headState .a).welding = true ∧
    s.unitA.plan.inForce = some (segment 201 10000 5000 .carryOn) ∧ s.unitA.regulator.excursionLength = 100 ∧
    (t false).unitA.reg.excursionRun = 101 ∧ (t true).unitA.reg.excursionsHeld.length = 1 ∧ CommonRoom s := by
  unfold CommonRoom
  decide +kernel

/-- A completed CONTINUE segment with one behind it, both segments up to the seam's end, an onset of starvation within
and at its allowance, and a starved head; the tool stands at the boundary. -/
theorem witness_WeldSampleChecksStation :
    let at_ (position : Int) (p : PlanStore) : State :=
      { busy with gantry := channel position, unitA := { busy.unitA with plan := p } }
    let station (s : State) : Int := (after (.headSample .a quiet (actFirst .station)) s).toolStation .a
    busy.pins.reset = false ∧ busy.present .a = true ∧ (at_ 25000 twoPlan).headState .a = .weld ∧
    twoPlan.inForce.isSome = true ∧ (actFirst .station).acts.head? = some .station ∧
    twoPlan.queue = [segment 201 10000 5000 .carryOn] ++ [segment 202 15000 3000 .exit] ∧
    station (at_ 25000 twoPlan) = 15000 ∧ station (at_ 28000 twoPlan) = 18000 ∧
    station (at_ 25399 onePlan) - 15000 = 399 ∧ station (at_ 25400 onePlan) - 15000 = 400 ∧
    busy.unitA.travelSet.starvationAllowance = 400 ∧ starving.unitA.plan.inForce.isSome = true ∧
    plain.acts = [] ∧ plain.split = false ∧ busy.unitA.reg.forceRun < 2 ∧
    (after (.headSample .a quiet plain) (at_ 25000 twoPlan)).unitA.plan.queue = [segment 202 15000 3000 .exit] ∧
    (∀ c, c ∈ [HeadChannel.force, .torque, .temp, .depth] → faultOf quiet c = none) := by decide +kernel

/-- A starved head in PAUSE short of its allowance of 400 and at it, one that is not starved, and one in EXIT. -/
theorem witness_WeldSampleChecksStation_elsewhere :
    let s (position : Int) : State :=
      { starving with gantry := channel position, unitA := { starving.unitA with
        seq := { starving.unitA.seq with state := .pause } } }
    let t (position : Int) := after (.headSample .a quiet (actFirst .station)) (s position)
    (s 25120).pins.reset = false ∧ (s 25120).present .a = true ∧ (s 25120).headState .a = .pause ∧
    (s 25120).headState .a ≠ .weld ∧ (s 25120).unitA.plan.starved = some ⟨15000, 120⟩ ∧
    (s 25120).unitA.travelSet.starvationAllowance = 400 ∧
    (t 25399).toolStation .a = 15399 ∧ (t 25399).headState .a = .pause ∧
    (t 25400).toolStation .a = 15400 ∧ (t 25400).unitA.seq.cause = some .planStarved ∧
    (sampling .pause).unitA.plan.starved = none ∧ (phase .exit 100 id).headState .a = .exit := by decide +kernel

/-- An entry trimmed away, the next one due and over both limits under STOP; a loss at one beyond the hold distance; the
same in PAUSE; and an entry that is active already. -/
theorem witness_TrackingWorksAtSample :
    let s := tracked .stop 50012
    s.pins.reset = false ∧ s.present .a = true ∧ (s.headState .a).welding = true ∧
    s.unitA.plan.inForce = some { segment 202 0 100000 .carryOn with tracking := true, gapAction := .stop } ∧
    s.unitA.track.queue = [⟨49990, 380, 30, 10, 9⟩] ++ [⟨50010, 420, 75, 90, 9⟩] ∧
    (let t := after (.headSample .a quiet (actFirst .track)) s
     t.toolStation .a = 50012 ∧ t.headState .a = .interrupting ∧ t.unitA.seq.cause = some .gap) ∧
    s.unitA.limits.gapLimit < 75 ∧ s.unitA.limits.mismatchLimit < 90 ∧
    (let t := after (.headSample .a quiet (actFirst .track)) (tracked .slow 50211)
     t.toolStation .a - 50010 = 201 ∧ s.unitA.travelSet.trackHold = 200 ∧ t.unitA.seq.cause = some .trackLoss) ∧
    (after (.headSample .a quiet (actFirst .track)) (tracked .stop 50009)).unitA.track.activeFirst = true ∧
    CommonRoom s := by
  unfold CommonRoom
  decide +kernel

/-- SPINUP with an entry trimmed away and the next one steering, APPROACH with its command held, and a retract that
empties the queue. -/
theorem witness_TrackingWorksAtSample_outside :
    let on : Segment := { segment 202 0 100000 .carryOn with tracking := true }
    let queue : List TrackEntry := [⟨9990, 380, 30, 10, 9⟩, ⟨10000, 420, 35, 20, 9⟩, ⟨10020, 430, 35, 20, 9⟩]
    let at_ (st : HeadState) : State :=
      let s := phase st (-5000) fun q => { q with spinupTimer := 100 }
      { s with unitA := { s.unitA with
        plan := ⟨[on], none, none⟩, track := { s.unitA.track with queue := queue, lateralCommand := 400 } } }
    let t (st : HeadState) : State := after (.headSample .a quiet plain) (at_ st)
    (at_ .spinup).pins.reset = false ∧ (at_ .spinup).present .a = true ∧
    ((at_ .spinup).headState .a).welding = false ∧ (at_ .spinup).unitA.plan.inForce = some on ∧
    (t .spinup).toolStation .a = 10000 ∧ queue.take 1 ++ queue.drop 1 = queue ∧
    (t .spinup).headState .a = .spinup ∧ (t .spinup).unitA.track.lateralCommand = 415 ∧
    (t .spinup).unitA.track.queue = queue.drop 1 ∧ (t .approach).unitA.track.lateralCommand = 400 ∧
    (t .interrupting).headState .a = .interrupted ∧ (t .interrupting).unitA.track.queue = [] := by decide +kernel

/-- A sample short of the mark, one at the mark, one that interrupts, and one outside WELD. -/
theorem witness_AccumulatorTakesSamples :
    let s (mark : Int) : State :=
      { busy with unitA := { busy.unitA with log := { busy.unitA.log with nextMark := some ⟨mark, false⟩ } } }
    let t (mark : Int) := after (.headSample .a quiet plain) (s mark)
    (s 10500).pins.reset = false ∧ (s 10500).present .a = true ∧
    (20 ≤ busy.settings.pitch ∧ busy.settings.pitch ≤ 500 ∧ 64 ≤ busy.settings.thresholdA ∧
      busy.settings.thresholdA ≤ 896 ∧ 64 ≤ busy.settings.thresholdB ∧ busy.settings.thresholdB ≤ 896) ∧
    ((s 10500).headState .a).welding = true ∧ ((t 10500).headState .a).welding = true ∧
    (t 10500).toolStation .a = 10500 ∧ ((t 10501).headState .a).welding = true ∧
    (t 10500).unitA.log.queue.length = 3 ∧ CommonRoom (s 10500) ∧
    ((after (.headSample .a { quiet with torque := ⟨2000, true⟩ } plain) (s 10501)).headState .a).welding = false ∧
    (ready.headState .a).welding = false ∧ ready.headState .a ≠ .dwell := by
  unfold CommonRoom
  decide +kernel

/-- A mark reached, and one not reached, at a sample whose order takes the log behind the regulator and that interrupts
the head. -/
theorem witness_AccumulatorTakesSamples_atOnce :
    let s (mark : Int) : State :=
      { busy with unitA := { busy.unitA with log := { busy.unitA.log with nextMark := some ⟨mark, false⟩ } } }
    let order : SampleOrder := ⟨[], [.regulator, .log], false, false⟩
    let t (mark : Int) := after (.headSample .a { quiet with torque := ⟨2000, true⟩ } order) (s mark)
    order.acts.take 2 = [.regulator, .log] ∧ plain.acts.contains .log = false ∧
    (s 10500).headState .a = .weld ∧ (t 10500).toolStation .a = 10500 ∧ (t 10500).headState .a = .interrupting ∧
    (t 10501).headState .a = .interrupting ∧ (t 10501).unitA.log.acc.count = 1 ∧ CommonRoom (s 10500) := by
  unfold CommonRoom
  decide +kernel

/-- Each condition at its boundary, the work that finds it first; and a start that a drive ends. -/
theorem witness_ContinuousChecksInterrupt :
    let run : State := { busy with unitA := { busy.unitA with reg := { Regulator.clear with forceRun := 2 } } }
    let grace : State := { busy with unitA := { busy.unitA with front := { busy.unitA.front with
      temp := { channel 462 with valid := false, fault := true, grace := 249 } } } }
    let cause (i : SampleInput) (a : SampleAct) (s : State) : Option Cause :=
      (after (.headSample .a i (actFirst a)) s).unitA.seq.cause
    busy.pins.reset = false ∧ busy.present .a = true ∧ (busy.headState .a).inMaterial = true ∧
    cause { quiet with torque := ⟨2000, true⟩ } (.check .torque) busy = some .torqueLimit ∧
    cause { quiet with temp := ⟨521, true⟩ } (.check .temp) busy = some .tempLimit ∧
    cause { quiet with plungeReady := false } (.check .drive) busy = some .drive ∧
    cause { quiet with travelReady := false } (.check .travelDrive) busy = some .travelDrive ∧
    cause { quiet with depth := ⟨0, true, true⟩ } (.check .sensor) busy = some .sensor ∧
    cause { quiet with force := ⟨4001, true⟩ } .forceRun run = some .forceLimit ∧
    cause { quiet with temp := ⟨30, false⟩ } .grace grace = some .sensor ∧
    (after (.headSample .a quiet plain) busy).headState .a = .weld ∧ (ready.headState .a).inMaterial = false ∧
    ((phase .spinup 0 id).headState .a).starting = true ∧
    (after (.headSample .a { quiet with plungeReady := false } (actFirst (.check .drive)))
      (phase .spinup 0 id)).headState .a = .ready ∧ CommonRoom busy := by
  unfold CommonRoom
  decide +kernel

theorem witness_SpinupAndPlungeEnd_spinup :
    (phase .spinup 0 id).headState .a = .spinup ∧ (phase .spinup 0 id).unitA.drives.atSpeed = false ∧
    (phase .spinup 0 id).unitA.seq.spinupTimer ≤ 0 ∧
    (let s : State := phase .spinup 0 id
     let t : State := { s with unitA := { s.unitA with drives := ⟨true, true, true, true, true⟩ } }
     t.pins.reset = false ∧ t.present .a = true ∧ t.headState .a = .spinup ∧ t.unitA.drives.atSpeed = true) := by decide

theorem witness_SpinupAndPlungeEnd_plunge :
    (phase .plunge 4800 id).pins.reset = false ∧ (phase .plunge 4800 id).present .a = true ∧
    (phase .plunge 4800 id).headState .a = .plunge ∧
    (phase .plunge 4800 id).unitA.seq.depth = ((phase .plunge 4800 id).unitA.tool.plungeDepth : Int) := by decide

theorem witness_DwellEndsInWeld :
    (phase .dwell 4800 id).pins.reset = false ∧ (phase .dwell 4800 id).present .a = true ∧
    (phase .dwell 4800 id).headState .a = .dwell ∧ (phase .dwell 4800 id).unitA.seq.dwellTimer ≤ 0 ∧
    (phase .dwell 4800 id).unitA.seq.kind = .fresh ∧
    (phase .dwell 4800 id).unitA.plan.queue = segment 201 10000 5000 .carryOn :: [segment 202 15000 3000 .exit] ∧
    (phase .dwell 4800 id).toolStation .a < ((10000 + 5000 : Nat) : Int) ∧
    starving.unitA.plan.queue = [] ∧ starving.unitA.plan.retained = some (segment 203 10000 5000 .carryOn) := by decide

/-- A re-entry whose tool has passed the first of two segments, both of them up to the seam's end, and its only segment
with the allowance of 400 nearly used and used up. -/
theorem witness_DwellEndsInWeld_behind :
    let s (position : Int) (p : PlanStore) : State :=
      let r := phase .dwell 4800 fun q => { q with kind := .reentry }
      { r with unitA := { r.unitA with plan := p }, gantry := channel position }
    let t (position : Int) (p : PlanStore) : State := after (.dwellElapsed .a) (s position p)
    (s 25000 twoPlan).pins.reset = false ∧ (s 25000 twoPlan).present .a = true ∧
    (s 25000 twoPlan).headState .a = .dwell ∧ (s 25000 twoPlan).unitA.seq.dwellTimer ≤ 0 ∧
    (s 25000 twoPlan).unitA.seq.kind = .reentry ∧ twoPlan.starved = none ∧
    twoPlan.queue = [segment 201 10000 5000 .carryOn] ++ [segment 202 15000 3000 .exit] ∧
    (s 25000 twoPlan).toolStation .a = 15000 ∧ (t 25000 twoPlan).headState .a = .weld ∧
    (t 28000 twoPlan).headState .a = .exit ∧ (t 25399 onePlan).headState .a = .weld ∧
    (t 25399 onePlan).unitA.plan.starved = some ⟨15000, 399⟩ ∧
    (t 25400 onePlan).headState .a = .interrupting := by decide +kernel

theorem witness_ConditionsInterrupt :
    (phase .plunge 4500 id).headState .a = .plunge ∧
    (phase .plunge 4500 id).unitA.seq.depth ≠ ((phase .plunge 4500 id).unitA.tool.plungeDepth : Int) ∧
    (phase .plunge 4500 id).unitA.seq.plungeTimer ≤ 0 ∧
    (let s : State := { busy with unitA := { busy.unitA with
      reg := { Regulator.clear with forceRun := 3 }
      front := { busy.unitA.front with torque := { channel 0 with grace := 250 } } } }
     s.pins.reset = false ∧ s.present .a = true ∧ (s.headState .a).inMaterial = true ∧ s.unitA.reg.forceRun = 3 ∧
     s.unitA.front.torque.grace = 250) ∧
    (let s := sampling .pause
     let t : State := { s with unitA := { s.unitA with travel := ⟨0, 0, 10000⟩ } }
     t.headState .a = .pause ∧ t.anyHold = true ∧ t.unitA.travel.pauseTimer = 0) := by decide

theorem witness_RetractsEnd :
    (phase .exit (-5000) id).pins.reset = false ∧ (phase .exit (-5000) id).present .a = true ∧
    (phase .exit (-5000) id).unitA.seq.depth = -((phase .exit (-5000) id).unitA.tool.clearance : Int) ∧
    (phase .exit (-5000) id).headState .a = .exit ∧
    (phase .interrupting (-5000) id).headState .a = .interrupting := by decide

theorem witness_ExcursionReportedOnce :
    let s : State := { busy with unitA := { busy.unitA with
      reg := { Regulator.clear with excursionsHeld := [⟨named 201, .weld, 190, 101, false, 10500⟩] } } }
    s.pins.reset = false ∧ s.present .a = true ∧
    s.unitA.reg.excursionsHeld = ⟨named 201, .weld, 190, 101, false, 10500⟩ :: [] ∧
    busy.unitA.reg.excursionsHeld = [] := by decide

theorem witness_CalibrationJudgedByReadings :
    let s := phase .calibrating (-5000) fun q => { q with cal := ⟨some .calDue, 256, 9216, 23, 51⟩ }
    s.pins.reset = false ∧ s.present .a = true ∧ s.headState .a = .calibrating ∧ s.unitA.seq.cal.count = 256 ∧
    s.unitA.seq.OriginKept ∧ ((9216 : Int).tdiv 256).natAbs ≤ 1000 ∧ (51 : Int) - 23 ≤ 40 ∧
    1000 < ((256256 : Int).tdiv 256).natAbs := by
  refine ⟨rfl, rfl, rfl, rfl, fun _ => .inl rfl, ?_⟩
  decide

/-- An onset of a quadrature fault, a sound count at the end of the scale, and an update while the output is released. -/
theorem witness_GovernorUpdateConverts :
    let jump : UpdateInput := ⟨⟨21000, true, true⟩, true⟩
    let t := after (.governorUpdate jump inOrder) busy
    busy.pins.reset = false ∧ 0 ≤ jump.gantry.count ∧ jump.gantry.count ≤ 400000 ∧ busy.gantry.fault = false ∧
    CommonRoom busy ∧ busy.present .b = true ∧ t.gantry.fault = true ∧ t.gantry.effective = busy.gantry.lastValid ∧
    t.gantry.raw = 21000 ∧ t.unitB.log.counters.sensorFaults = 1 ∧
    (after (.governorUpdate (still 400000) inOrder) busy).gantry.effective = 400000 ∧
    (ready.gov.owned = false ∧ ready.demand .a ≠ .advance ∧ ready.demand .b ≠ .advance) := by
  unfold CommonRoom
  decide +kernel

/-- Two heads welding side by side: both keep WELD, and have their permitted speeds. -/
theorem witness_GovernorUpdateConverts_permitted :
    let s : State := machine { unit .weld 4870 with plan := onePlan } { unit .weld 4870 with plan := twoPlan } 21000
    let t := after (.governorUpdate (still 21000) inOrder) s
    s.pins.reset = false ∧ s.unitA.plan.inForce = some (segment 201 10000 5000 .carryOn) ∧
    (s.headState .a).welding = true ∧ (t.headState .a).welding = true ∧ (t.headState .b).welding = true ∧
    s.unitA.limits.torqueSoft < s.unitA.limits.torqueMax ∧ t.unitA.travel.permitted = 1200 ∧
    t.unitB.travel.permitted = 1200 ∧ (ready.headState .a).welding = false := by decide +kernel

theorem witness_HoldUpdateRunsPauses :
    let s := sampling .pause
    s.pins.reset = false ∧ s.gov.owned = true ∧ s.anyHold = true ∧ s.headState .a = .pause ∧
    10 < s.unitA.travel.pauseTimer ∧ (after (.governorUpdate (still 21000) inOrder) s).gantry.effective < 380000 ∧
    s.effectiveBedEnd = some 380000 := by decide

/-- A head found in WELD under a HOLD, a timer at its last 10 ms, and a pause whose HOLD is gone. -/
theorem witness_HoldUpdateRunsPauses_other :
    (sampling .weld).pins.reset = false ∧ (sampling .weld).gov.owned = true ∧ (sampling .weld).anyHold = true ∧
    (sampling .weld).headState .a = .weld ∧ (sampling .weld).present .a = true ∧
    (let s : State := { sampling .pause with unitA := { (sampling .pause).unitA with travel := ⟨1200, 10, 9990⟩ } }
     s.headState .a = .pause ∧ s.unitA.travel.pauseTimer ≤ 10 ∧ s.anyHold = true) ∧
    (let s : State := { sampling .pause with unitB := unit .ready (-5000) }
     s.pins.reset = false ∧ s.gov.owned = true ∧ s.present .a = true ∧ s.headState .a = .pause ∧ s.anyHold = false ∧
     s.demand .b ≠ .approach ∧ s.effectiveBedEnd = some 380000 ∧
     (after (.governorUpdate (still 21000) inOrder) s).gantry.effective < 380000 ∧
     (after (.governorUpdate (still 21000) inOrder) s).headState .a = .weld ∧ CommonRoom s) := by
  unfold CommonRoom
  decide +kernel

/-- At the bed end: a pause under a HOLD, and two welding heads. -/
theorem witness_HoldUpdateRunsPauses_bedEnd :
    let two : State := machine { unit .weld 4870 with plan := onePlan } { unit .weld 4870 with plan := twoPlan } 379999
    let t (s : State) := after (.governorUpdate (still 380000) inOrder) s
    (sampling .pause).pins.reset = false ∧ (sampling .pause).gov.owned = true ∧ (sampling .pause).present .a = true ∧
    (sampling .pause).effectiveBedEnd = some 380000 ∧ (sampling .pause).anyHold = true ∧
    (sampling .pause).gov.direction = .forward ∧ ((sampling .pause).headState .a).welding = true ∧
    (t (sampling .pause)).gantry.effective = 380000 ∧ (t (sampling .pause)).unitA.seq.cause = some .bedEnd ∧
    two.gov.owned = true ∧ two.effectiveBedEnd = some 380000 ∧ two.anyHold = false ∧
    (two.headState .b).welding = true ∧ (t two).unitB.seq.cause = some .bedEnd ∧ CommonRoom two := by
  unfold CommonRoom
  decide +kernel

theorem witness_AdvanceUpdateMovesGantry :
    busy.pins.reset = false ∧ busy.gov.owned = true ∧ busy.headState .a = .weld ∧ busy.demand .b = .idle ∧
    busy.gov.direction = .forward ∧ busy.unitA.plan.inForce = some (segment 201 10000 5000 .carryOn) ∧
    busy.effectiveBedEnd = some 380000 ∧ (still 379999).gantry.connected = true ∧
    (still 379999).gantry.jumped = false ∧ (still 379999).travelReady = true ∧ busy.gantry.fault = false ∧
    busy.gantry.substituteOn = false ∧ busy.gantry.overrideOn = false ∧ busy.gantry.offset = 0 ∧
    (still 379999).gantry.count < 380000 ∧ 380000 ≤ (still 380000).gantry.count ∧
    (after (.governorUpdate (still 380000) inOrder) busy).unitA.seq.cause = some .bedEnd ∧ busy.unitA.limits.torqueSoft < busy.unitA.limits.torqueMax := by decide

theorem witness_ArrivalSpinsUp :
    let s := phase .approach (-5000) fun q => { q with target := 10010 }
    s.pins.reset = false ∧ s.present .a = true ∧ s.headState .a = .approach ∧
    s.unitA.plan.inForce = some (segment 201 10000 5000 .carryOn) ∧ s.unitA.seq.direction = .forward ∧
    ((s.unitA.tool.seamOrigin : Int) + s.unitA.seq.target) - s.gantry.effective ≤ 10 := by decide

theorem witness_RecordCreatedInPool : busy.present .a = true ∧ reversing.present .a = true := by decide

theorem witness_TargetForceWithinBounds :
    regulator.pauseFactor ≤ 1000 ∧ 500 ≤ regulator.pauseFactor ∧ (480 : Int) ≤ regulator.softTemp ∧
    (regulator.softTemp : Int) < 481 := by decide

/-- A drive not ready, a turn, a ramp toward a target, an arrival at its boundary, the bed end, and a welding head beside
an approaching one. -/
theorem witness_GovernorUpdateMovesGantry :
    let turning : State := { reversing with gov := ⟨true, 0, .forward, some 380000, true⟩ }
    let both : State := { busy with unitB := { unit .approach (-5000) with
      seq := { (unit .approach (-5000)).seq with target := 11000 } } }
    reversing.pins.reset = false ∧ reversing.gov.owned = true ∧ reversing.anyHold = false ∧
    reversing.anyEngaged = true ∧ (turning.unitA.seq.direction = .reverse ∧ turning.gov.direction = .forward) ∧
    (let t := after (.governorUpdate (still 21161) inOrder) reversing
     t.gantry.fault = false ∧ t.gantry.effective - (10000 + 11150) = 11 ∧ t.headState .a = .approach) ∧
    (let t := after (.governorUpdate (still 21160) inOrder) reversing
     t.gantry.effective - (10000 + 11150) = 10 ∧ t.headState .a = .spinup) ∧
    both.anyHold = false ∧ both.anyEngaged = true ∧ both.effectiveBedEnd = some 380000 ∧
    (after (.governorUpdate (still 20600) inOrder) both).gov.speed = 606 ∧
    (after (.governorUpdate (still 380000) inOrder) both).gov.speed = 0 := by decide +kernel

end Sys2Proof.Tests
end

namespace Sys2Proof.Machine
open Relation

/-! ## What one command can do to a seam

Both laws of the plan store (R6, R16, R52) read the same three items of a head: its state, the origin of its calibration
and its plan. `SeamMove` lists every way in which a meaning changes them; `SeamRun` says that a command moves each head by
such moves alone. The laws are then checked once, on the moves. -/

/-- What the plan law and the open-seam law read of a head. -/
structure SeamView where
  state : HeadState
  origin : Option HeadState
  plan : PlanStore

/-- A head's state, calibration origin and plan. -/
def State.seam (s : State) (h : Head) : SeamView :=
  ⟨(s.head h).seq.state, (s.head h).seq.cal.origin, (s.head h).plan⟩

/-- The states of an open seam (R48, R52), a calibration aside. -/
def HeadState.seamOpen : HeadState → Bool
  | .approach | .spinup | .plunge | .dwell | .weld | .pause | .interrupting | .interrupted => true
  | .uncommissioned | .commissioning | .calDue | .calibrating | .ready | .exit => false

/-- One change of a head's state, calibration origin and plan, with what the meaning that makes it has checked. -/
inductive SeamMove : SeamView → SeamView → Prop
  /-- The head changes state with its plan as it is. -/
  | goes (v : SeamView) (st : HeadState) (hc : st ≠ .calibrating)
      (ho : st.seamOpen = true → v.state.seamOpen = true) (hw : v.state.welding = true → st.welding = true) :
      SeamMove v { v with state := st }
  /-- START SEAM finds a current segment (R35, R36). -/
  | starts (v : SeamView) (g : Segment) (hs : v.state = .ready) (hg : v.plan.current = some g) :
      SeamMove v { v with state := .approach }
  /-- RESTART SEAM (R21, R53). -/
  | reenters (v : SeamView) (station : Int) (hs : v.state = .interrupted) :
      SeamMove v { v with state := .approach, plan := v.plan.reinstate station }
  /-- CALIBRATE keeps the state it came from (R153). -/
  | calibrates (v : SeamView) (hs : v.state = .calDue ∨ v.state = .ready ∨ v.state = .interrupted) :
      SeamMove v { v with state := .calibrating, origin := some v.state }
  /-- A calibration ends where it came from, or in READY where that was not INTERRUPTED (R155, R156). -/
  | calibrated (v : SeamView) (st : HeadState) (hs : v.state = .calibrating)
      (ht : st = v.origin.getD .calDue ∨ st = .ready) : SeamMove v { v with state := st, origin := none }
  /-- A cause of R45 acts. -/
  | interrupts (v : SeamView) (hm : v.state.inMaterial = true) :
      SeamMove v { v with state := .interrupting, plan := { v.plan with starved := none } }
  /-- A head with an empty queue behind a retained segment becomes starved (R16, R22). -/
  | starves (v : SeamView) (x : Option Starvation) (hw : v.state.welding = true) (hq : v.plan.queue = []) :
      SeamMove v { v with plan := { v.plan with starved := x } }
  /-- Starvation ends, or its distance is taken anew (R17, R18). -/
  | measures (v : SeamView) (x : Option Starvation) (hx : x.isSome = true → v.plan.starved.isSome = true) :
      SeamMove v { v with plan := { v.plan with starved := x } }
  /-- A CONTINUE segment is completed (R11). -/
  | completes (v : SeamView) (g : Segment) (rest : List Segment) (hq : v.plan.queue = g :: rest)
      (ha : g.endAction = .carryOn) :
      SeamMove v { v with plan := { v.plan with queue := rest, retained := some g } }
  /-- An EXIT segment is completed, which ends the seam (R12). -/
  | exits (v : SeamView) (g : Segment) (rest : List Segment) (hq : v.plan.queue = g :: rest)
      (ha : g.endAction = .exit) :
      SeamMove v { v with state := .exit, plan := { queue := rest, retained := some g, starved := none } }
  /-- APPEND SEGMENT (R7). -/
  | appends (v : SeamView) (g : Segment) (hl : v.plan.queue.length < 48)
      (hj : ∀ n, v.plan.contiguityReference = some n → n = g.start) :
      SeamMove v { v with plan := { v.plan with queue := v.plan.queue ++ [g] } }
  /-- CLEAR PLAN or ABANDON SEAM drops the front of the queue and the retained segment (R23, R24). -/
  | drops (v : SeamView) (st : HeadState) (rest : List Segment) (hw : v.state.welding = false)
      (hc : st ≠ .calibrating) (ho : st.seamOpen = false) (hr : rest <:+ v.plan.queue) :
      SeamMove v { v with state := st, plan := { v.plan with queue := rest, retained := none } }
  /-- LOAD PROFILE clamps the plan again (R5, R151). -/
  | reclamps (v : SeamView) (p : ProfileStore) : SeamMove v { v with plan := reclampPlan p v.plan }
  /-- A reset (R26, R58, R189, R190). -/
  | resets (v : SeamView) (st : HeadState) (hc : st ≠ .calibrating) (ho : st.seamOpen = false) :
      SeamMove v ⟨st, none, PlanStore.empty⟩

/-- A command moves each head by seam moves alone. -/
structure SeamRun (s t : State) : Prop where
  moves : ∀ k, ReflTransGen SeamMove (s.seam k) (t.seam k)

theorem SeamRun.refl (s : State) : SeamRun s s := ⟨fun _ => .refl⟩

theorem SeamRun.trans {s t u : State} (a : SeamRun s t) (b : SeamRun t u) : SeamRun s u :=
  ⟨fun k => (a.moves k).trans (b.moves k)⟩

/-- What changes no head's seam is no move. -/
theorem SeamRun.of_same {s t : State} (e : ∀ k, t.seam k = s.seam k) : SeamRun s t := ⟨fun k => by rw [e k]⟩

/-- A command is looked at head by head. -/
theorem SeamRun.of_heads {s t : State} (h : Head) (hh : ReflTransGen SeamMove (s.seam h) (t.seam h))
    (ho : ReflTransGen SeamMove (s.seam h.other) (t.seam h.other)) : SeamRun s t := ⟨fun k => by
  rcases head_cases h k with rfl | rfl
  · exact hh
  · exact ho⟩

theorem SeamRun.of_ite {c : Prop} [Decidable c] {s a b : State} (ha : c → SeamRun s a) (hb : ¬c → SeamRun s b) :
    SeamRun s (if c then a else b) := by
  split
  · rename_i hc; exact ha hc
  · rename_i hc; exact hb hc

/-- The run continues over what changes no head's seam. -/
theorem SeamRun.then_same {s t u : State} (a : SeamRun s t) (e : ∀ k, u.seam k = t.seam k) : SeamRun s u :=
  a.trans (.of_same e)

/-- A run from a state with the same seams is one from this state. -/
theorem SeamRun.after_same {s t u : State} (e : ∀ k, t.seam k = s.seam k) (a : SeamRun t u) : SeamRun s u :=
  (SeamRun.of_same e).trans a

/-! ### Operations that leave every seam -/

@[simp] theorem countHead_seam (h k : Head) (f : HeadCounters → HeadCounters) (s : State) :
    (countHead h f s).seam k = s.seam k := by simp [State.seam]
@[simp] theorem createRecord_seam (h k : Head) (b : RecordBody) (co : Bool) (s : State) :
    (createRecord h b co s).seam k = s.seam k := by simp [State.seam]
@[simp] theorem reportInForce_seam (h k : Head) (b : SegmentRef → RecordBody) (s : State) :
    (reportInForce h b s).seam k = s.seam k := by simp [State.seam]
@[simp] theorem reportInterrupt_seam (h k : Head) (c : Cause) (e s : State) :
    (reportInterrupt h c e s).seam k = s.seam k := by simp [State.seam]
@[simp] theorem takeEngagement_seam (k : Head) (s : State) : (takeEngagement s).seam k = s.seam k := by
  simp [State.seam]
@[simp] theorem emptyTrack_seam (h k : Head) (s : State) : (emptyTrack h s).seam k = s.seam k := by simp [State.seam]
@[simp] theorem answer_seam (kind : Byte) (st : Status) (d : List Byte) (s : State) (k : Head) :
    (answer kind st d s).seam k = s.seam k := by simp [State.seam]
@[simp] theorem onTrack_seam (h k : Head) (f : Tracking → Tracking) (s : State) :
    (s.onTrack h f).seam k = s.seam k := by simp [State.seam]
@[simp] theorem onReg_seam (h k : Head) (f : Regulator → Regulator) (s : State) :
    (s.onReg h f).seam k = s.seam k := by simp [State.seam]
@[simp] theorem onFront_seam (h k : Head) (f : FrontEnd → FrontEnd) (s : State) :
    (s.onFront h f).seam k = s.seam k := by simp [State.seam]
@[simp] theorem onProfiles_seam (h k : Head) (f : ProfileStore → ProfileStore) (s : State) :
    (s.onProfiles h f).seam k = s.seam k := by simp [State.seam]
@[simp] theorem onTravel_seam (h k : Head) (f : HeadTravel → HeadTravel) (s : State) :
    (s.onTravel h f).seam k = s.seam k := by simp [State.seam]
@[simp] theorem onLog_seam (h k : Head) (f : HeadLog → HeadLog) (s : State) :
    (s.onLog h f).seam k = s.seam k := by simp [State.seam]
@[simp] theorem onGov_seam (k : Head) (f : Governor → Governor) (s : State) : (s.onGov f).seam k = s.seam k := by
  simp [State.seam]
@[simp] theorem onPort_seam (k : Head) (f : Port → Port) (s : State) : (s.onPort f).seam k = s.seam k := by
  simp [State.seam]
@[simp] theorem onLines_seam (k : Head) (f : LineCounters → LineCounters) (s : State) :
    (s.onLines f).seam k = s.seam k := by simp [State.seam]
@[simp] theorem tick_seam (k : Head) (s : State) : s.tick.seam k = s.seam k := by simp [State.seam]

@[simp] theorem onSeq_seam_other (h : Head) (f : Sequencer → Sequencer) (s : State) :
    (s.onSeq h f).seam h.other = s.seam h.other := by simp [State.seam]
@[simp] theorem onPlan_seam_other (h : Head) (f : PlanStore → PlanStore) (s : State) :
    (s.onPlan h f).seam h.other = s.seam h.other := by simp [State.seam]
@[simp] theorem onSeq_seam_self (h : Head) (f : Sequencer → Sequencer) (s : State) :
    (s.onSeq h f).seam h = ⟨(f (s.head h).seq).state, (f (s.head h).seq).cal.origin, (s.head h).plan⟩ := by
  simp [State.seam]
@[simp] theorem onPlan_seam_self (h : Head) (f : PlanStore → PlanStore) (s : State) :
    (s.onPlan h f).seam h = { s.seam h with plan := f (s.head h).plan } := by simp [State.seam]

/-- A change of sequencer items that keeps state and calibration origin keeps the seam. -/
theorem onSeq_seam (h k : Head) (f : Sequencer → Sequencer) (s : State)
    (hs : ∀ q, (f q).state = q.state) (hc : ∀ q, (f q).cal.origin = q.cal.origin) :
    (s.onSeq h f).seam k = s.seam k := by
  rcases head_cases h k with rfl | rfl
  · simp [State.seam, hs, hc]
  · exact onSeq_seam_other _ _ _

@[simp] theorem followSpindle_seam (h k : Head) (s : State) : (followSpindle h s).seam k = s.seam k := by
  unfold followSpindle
  split
  · exact onSeq_seam h k _ s (fun _ => rfl) fun _ => rfl
  · rw [tick_seam]; exact onSeq_seam h k _ s (fun _ => rfl) fun _ => rfl

@[simp] theorem startRamp_seam (h k : Head) (s : State) : (startRamp h s).seam k = s.seam k :=
  onSeq_seam h k _ s (fun _ => rfl) fun _ => rfl

/-! ### Changes of a head's state -/

theorem pauseBegin_run (h : Head) (s : State) : SeamRun s (pauseBegin h s) := by
  unfold pauseBegin
  split
  · rename_i hw
    refine .of_heads h ?_ (by simp [ReflTransGen.refl])
    simpa using .single (SeamMove.goes (s.seam h) .pause (by decide)
      (fun _ => by simp [State.seam, show (s.head h).seq.state = .weld from hw, HeadState.seamOpen])
      fun _ => rfl)
  · exact .refl s

theorem takeHold_run (h : Head) (s : State) : SeamRun s (takeHold h s) :=
  .after_same (by simp) (pauseBegin_run h.other _)

@[simp] theorem setHeadState_seam_self (h : Head) (st : HeadState) (s : State) :
    (setHeadState h st s).seam h = { s.seam h with state := st } := by simp [State.seam, setHeadState_self]

/-- A head's change of state moves the other head at most from WELD to PAUSE (R86, R102). -/
theorem setHeadState_other_run (h : Head) (st : HeadState) (s : State) :
    ReflTransGen SeamMove (s.seam h.other) ((setHeadState h st s).seam h.other) := by
  by_cases hy : st.demand = .hold ∧ s.demand h ≠ .hold
  · rw [setHeadState_hold h st s hy]
    refine ReflTransGen.trans ?_ ((takeHold_run h _).moves h.other)
    simp [ReflTransGen.refl]
  · simp [State.seam, setHeadState_other h st s hy, ReflTransGen.refl]

/-- A head that changes state: what remains to be shown is the move of that head. -/
theorem setHeadState_run (h : Head) (st : HeadState) {s t : State}
    (hh : ReflTransGen SeamMove (s.seam h) { t.seam h with state := st })
    (ho : t.seam h.other = s.seam h.other) : SeamRun s (setHeadState h st t) :=
  .of_heads h (by simpa using hh) (ho ▸ setHeadState_other_run h st t)

/-- A head that changes state with its plan as it is. -/
theorem goes_run (h : Head) (st : HeadState) {s t : State} (e : ∀ k, t.seam k = s.seam k) (hc : st ≠ .calibrating)
    (ho : st.seamOpen = true → (s.headState h).seamOpen = true)
    (hw : (s.headState h).welding = true → st.welding = true) : SeamRun s (setHeadState h st t) :=
  setHeadState_run h st (by rw [e h]; exact .single (.goes (s.seam h) st hc ho hw)) (e h.other)

/-- Every cause acts in the material alone (R45). -/
theorem Cause.actsIn_inMaterial {c : Cause} {st : HeadState} (ha : c.actsIn st = true) : st.inMaterial = true := by
  revert ha
  cases c <;> cases st <;> decide

theorem interruptHead_run (h : Head) (c : Cause) (s : State) : SeamRun s (interruptHead h c s) := by
  unfold interruptHead
  split
  · rename_i ha
    refine .of_heads h ?_ ?_
    · simpa [endStarvation, State.seam, setHeadState_self] using
        ReflTransGen.single (SeamMove.interrupts (s.seam h) (Cause.actsIn_inMaterial ha))
    · simpa [endStarvation] using setHeadState_other_run h .interrupting
        (s.onSeq h fun q => { q with cause := some c, interruptStation := s.toolStation h, rampAcc := 499 })
  · exact .refl s

theorem enterInterrupted_run (h : Head) {s t : State} (e : ∀ k, t.seam k = s.seam k)
    (hs : (s.headState h).seamOpen = true) (hw : (s.headState h).welding = false) :
    SeamRun s (enterInterrupted h t) :=
  (goes_run h .interrupted e (by decide) (fun _ => hs) (by simp [hw])).then_same (by simp [enterInterrupted])

theorem HeadState.starting_seamOpen {st : HeadState} (hs : st.starting = true) :
    st.seamOpen = true ∧ st.welding = false := by
  revert hs
  cases st <;> decide

theorem endStart_run (h : Head) {s t : State} (e : ∀ k, t.seam k = s.seam k) (hs : (s.headState h).starting = true) :
    SeamRun s (endStart h t) := by
  obtain ⟨ho, hw⟩ := HeadState.starting_seamOpen hs
  have e1 (k : Head) : (t.onSeq h fun q => { q with spindle := 0 }).seam k = s.seam k :=
    (onSeq_seam h k (fun q => { q with spindle := 0 }) t (fun _ => rfl) fun _ => rfl).trans (e k)
  unfold endStart
  dsimp only
  split
  · exact (goes_run h .ready e1 (by decide) (by simp [HeadState.seamOpen]) (by simp [hw])).then_same (by simp)
  · exact enterInterrupted_run h e1 ho hw

theorem failStart_run (h : Head) (r : StartFailure) (s : State) (hs : (s.headState h).starting = true) :
    SeamRun s (failStart h r s) := endStart_run h (by simp) hs

theorem startFault_run (h : Head) (r : StartFailure) (s : State) : SeamRun s (startFault h r s) := by
  unfold startFault
  split
  · rename_i hs; exact failStart_run h r s hs
  · exact .refl s

/-! ### Requests on the plan -/

/-- A request that names a head does no more than that head's part of it and a refusal. -/
theorem forHead_run (kind : Byte) (code : Nat) (take : Head → State → State) (ht : ∀ h s, SeamRun s (take h s))
    (s : State) : SeamRun s (forHead kind code take s) := by
  unfold forHead
  split
  · split
    · exact ht _ s
    · exact .of_same (by simp)
  · exact .of_same (by simp)

theorem answer_run (kind : Byte) (st : Status) (d : List Byte) {s t : State} (r : SeamRun s t) :
    SeamRun s (answer kind st d t) := r.then_same (by simp)

/-- A request that answers alone. -/
theorem answered_run (kind : Byte) (st : Status) (d : List Byte) (s : State) : SeamRun s (answer kind st d s) :=
  answer_run kind st d (.refl s)

/-- A check that answers a refusal leaves the run to what follows it. -/
theorem refuse_run {c : Prop} [Decidable c] {kind : Byte} {st : Status} {d : List Byte} {s t : State}
    (ht : ¬c → SeamRun s t) : SeamRun s (if c then answer kind st d s else t) := by
  split
  · exact answered_run kind st d s
  · rename_i hc; exact ht hc

theorem appendToPlan_run (h : Head) (g : Segment) (s : State) (hl : (s.head h).plan.queue.length < 48)
    (hj : ∀ n, (s.head h).plan.contiguityReference = some n → n = g.start) : SeamRun s (appendToPlan h g s) := by
  have r : SeamRun s (s.onPlan h fun p => { p with queue := p.queue ++ [g] }) :=
    .of_heads h (by simpa using .single (SeamMove.appends (s.seam h) g hl hj)) (by simp [ReflTransGen.refl])
  unfold appendToPlan
  dsimp only
  split
  · refine r.trans (.of_heads h ?_ (by simp [endStarvation, ReflTransGen.refl]))
    simpa [endStarvation] using ReflTransGen.single (SeamMove.measures
      ((s.onPlan h fun p => { p with queue := p.queue ++ [g] }).seam h) none (by simp))
  · exact r

theorem takeClampedSegment_run (h : Head) (g : Segment) (mask : Nat) (s : State) :
    SeamRun s (takeClampedSegment h g mask s) := by
  unfold takeClampedSegment
  dsimp only
  refine refuse_run fun _ => refuse_run fun hl => refuse_run fun hj => ?_
  refine answer_run _ _ _ (appendToPlan_run h g s (by simpa [Config.appendCapacity] using hl) fun n hn => ?_)
  simpa [hn] using hj

theorem takeAppendSegment_run (r : SegmentRecord) (h : Head) (s : State) : SeamRun s (takeAppendSegment r h s) := by
  unfold takeAppendSegment
  refine refuse_run fun _ => ?_
  split
  · exact answered_run ..
  · exact takeClampedSegment_run ..

/-- The front of the queue and the retained segment are dropped, and the head goes to a state outside the seam. -/
theorem drops_run (h : Head) (st : HeadState) {s t : State} (rest : List Segment)
    (e : t.seam h = { s.seam h with plan := { (s.head h).plan with queue := rest, retained := none } })
    (ho : t.seam h.other = s.seam h.other) (hw : (s.headState h).welding = false) (hc : st ≠ .calibrating)
    (hn : st.seamOpen = false) (hr : rest <:+ (s.head h).plan.queue) : SeamRun s (setHeadState h st t) :=
  setHeadState_run h st (by rw [e]; exact .single (.drops (s.seam h) st rest hw hc hn hr)) ho

theorem readyOrCalDue_cases (q : Sequencer) : readyOrCalDue q = .calDue ∨ readyOrCalDue q = .ready := by
  unfold readyOrCalDue; split <;> simp

theorem abandon_run (h : Head) (n : Nat) {s t : State} (rest : List Segment)
    (e : t.seam h = { s.seam h with plan := { (s.head h).plan with queue := rest, retained := none } })
    (ho : t.seam h.other = s.seam h.other) (hs : s.headState h = .interrupted)
    (hr : rest <:+ (s.head h).plan.queue) : SeamRun s (abandon h n t) := by
  refine drops_run h _ rest (by simpa using e) (by simpa using ho) (by simp [hs, HeadState.welding]) ?_ ?_ hr <;>
    rcases readyOrCalDue_cases (t.head h).seq with e | e <;> simp [e, HeadState.seamOpen]

theorem takeClearPlan_run (h : Head) (s : State) : SeamRun s (takeClearPlan h s) := by
  have cleared (hc : s.headState h ≠ .calibrating) (hn : (s.headState h).seamOpen = false)
      (hw : (s.headState h).welding = false) : SeamRun s (s.onPlan h PlanStore.cleared) := by
    refine .of_heads h ?_ (by simp [ReflTransGen.refl])
    simpa [PlanStore.cleared, State.seam] using ReflTransGen.single
      (SeamMove.drops (s.seam h) (s.seam h).state [] hw hc hn List.nil_suffix)
  unfold takeClearPlan
  dsimp only
  cases hs : s.headState h
  case interrupted =>
    exact answer_run _ _ _ (abandon_run h _ [] (by simp [PlanStore.cleared, State.seam]) (by simp) hs List.nil_suffix)
  case uncommissioned | commissioning | calDue | ready =>
    refine answer_run _ _ _ (cleared ?_ ?_ ?_) <;> simp [hs, HeadState.seamOpen, HeadState.welding]
  all_goals exact answered_run ..

theorem afterSeam_suffix (q : List Segment) : afterSeam q <:+ q := by
  induction q with
  | nil => exact List.nil_suffix
  | cons g rest ih =>
    unfold afterSeam
    split
    · exact List.suffix_cons g rest
    · exact ih.trans (List.suffix_cons g rest)

theorem takeAbandonSeam_run (h : Head) (s : State) : SeamRun s (takeAbandonSeam h s) := by
  unfold takeAbandonSeam
  split
  · rename_i hs
    exact answer_run _ _ _ (abandon_run h _ _ (by simp) (by simp) hs (afterSeam_suffix _))
  · exact answered_run ..

theorem takeResetHead_run (h : Head) (s : State) : SeamRun s (takeResetHead h s) := by
  unfold takeResetHead
  refine refuse_run fun _ => answer_run _ _ _ (setHeadState_run h _ ?_ (by simp [State.seam]))
  have hn : stateAfterReset (s.head h).seq ≠ .calibrating ∧ (stateAfterReset (s.head h).seq).seamOpen = false := by
    unfold stateAfterReset
    rcases readyOrCalDue_cases (s.head h).seq with e | e <;> split <;> simp [e, HeadState.seamOpen]
  simpa [State.seam, HeadUnit.reset, Sequencer.reset, CalAccumulator.clear] using
    ReflTransGen.single (SeamMove.resets (s.seam h) _ hn.1 hn.2)

/-! ### Requests on the seam -/

theorem takeStartSeam_run (h : Head) (s : State) : SeamRun s (takeStartSeam h s) := by
  unfold takeStartSeam
  refine refuse_run fun hr => refuse_run fun hd => refuse_run fun _ => ?_
  split
  · exact answered_run ..
  rename_i g hg
  refine refuse_run fun _ => refuse_run fun _ => refuse_run fun _ => refuse_run fun _ => ?_
  have hs : s.headState h = .ready := by tauto
  refine answer_run _ _ _ (SeamRun.then_same (t := setHeadState h .approach (s.onSeq h fun q =>
    { q with kind := .fresh, target := (g.start : Nat), direction := .forward }))
    (setHeadState_run h _ ?_ (by simp)) (by simp [beginSeam]))
  exact .single (by simpa [State.seam] using SeamMove.starts (s.seam h) g hs hg)

theorem stopHead_run (h : Head) (s : State) : SeamRun s (stopHead h s) := by
  unfold stopHead
  split
  · rename_i hs; exact failStart_run h _ s hs
  · exact interruptHead_run ..

/-- What each present head takes in turn is a run when each head's part is. -/
theorem foldl_run {α : Type} (f : State → α → State) (hf : ∀ s a, SeamRun s (f s a)) (l : List α) (s : State) :
    SeamRun s (l.foldl f s) := by
  induction l generalizing s with
  | nil => exact .refl s
  | cons a rest ih => exact (hf s a).trans (ih (f s a))

theorem broadcastStop_run (first : Head) (s : State) : SeamRun s (broadcastStop first s) :=
  foldl_run _ (fun s h => stopHead_run h s) _ s

theorem requestStopSeam_run (target : StopTarget) (s : State) : SeamRun s (requestStopSeam target s) := by
  cases target with
  | head code =>
    refine forHead_run _ _ _ (fun h s => ?_) s
    unfold takeStopSeam
    split
    · exact answer_run _ _ _ (stopHead_run h s)
    · exact answered_run ..
  | broadcast first => exact broadcastStop_run first s

theorem beginReentry_run (h : Head) (station : Int) (s : State) (hs : s.headState h = .interrupted) :
    SeamRun s (beginReentry h station s) := by
  unfold beginReentry
  dsimp only
  refine SeamRun.then_same (setHeadState_run h .approach (s := s) (t := emptyTrack h ((s.onSeq h fun q =>
    { q with kind := .reentry, target := station, reentryStation := station,
             direction := if station < s.toolStation h then .reverse else .forward }).onPlan h fun p =>
    p.reinstate station)) ?_ (by simp)) (by simp)
  exact .single (by simpa [State.seam] using SeamMove.reenters (s.seam h) station hs)

theorem takeRestartSeam_run (overlap : Nat) (h : Head) (s : State) : SeamRun s (takeRestartSeam overlap h s) := by
  unfold takeRestartSeam
  refine refuse_run fun hs => refuse_run fun _ => refuse_run fun _ => refuse_run fun _ => refuse_run fun _ => ?_
  exact answer_run _ _ _ (beginReentry_run h _ s (by simpa using hs))

/-! ### Profiles -/

theorem admitsLoad_rest {st : HeadState} {load : ProfileLoad} (ha : admitsLoad st load = true) :
    st ≠ .calibrating ∧ st.welding = false := by
  revert ha
  cases st <;> simp [admitsLoad, HeadState.welding]

theorem stateAfterLoad_cases (st : HeadState) (n : Nat) (load : ProfileLoad) :
    stateAfterLoad st n load = st ∨ stateAfterLoad st n load = .commissioning ∨ stateAfterLoad st n load = .calDue := by
  cases load <;> simp only [stateAfterLoad] <;> (repeat' split) <;> simp

theorem stateAfterLoad_rest {st : HeadState} (n : Nat) (load : ProfileLoad) (hc : st ≠ .calibrating) :
    stateAfterLoad st n load ≠ .calibrating := by
  rcases stateAfterLoad_cases st n load with e | e | e <;> simp [e, hc]

theorem stateAfterLoad_seamOpen {st : HeadState} (n : Nat) (load : ProfileLoad)
    (ho : (stateAfterLoad st n load).seamOpen = true) : st.seamOpen = true := by
  rcases stateAfterLoad_cases st n load with e | e | e <;> rw [e] at ho
  · exact ho
  · cases ho
  · cases ho

theorem acceptProfile_run (h : Head) (load : ProfileLoad) (s : State) (ha : admitsLoad (s.headState h) load = true) :
    SeamRun s (acceptProfile h load s) := by
  obtain ⟨hc, hw⟩ := admitsLoad_rest ha
  have goes (p : PlanStore) : SeamMove { s.seam h with plan := p }
      { s.seam h with state := stateAfterLoad (s.headState h) (s.head h).profiles.progress load, plan := p } :=
    .goes { s.seam h with plan := p } _ (stateAfterLoad_rest _ load hc) (stateAfterLoad_seamOpen _ load)
      fun w => absurd (hw.symm.trans w) (by decide)
  refine setHeadState_run h _ ?_ (by split <;> split <;> simp)
  have e : ∀ t : State, (if invalidates (s.headState h) load then t.onSeq h fun q => { q with budget := 0 } else t).seam h
      = t.seam h := by
    intro t; split
    · exact onSeq_seam h h (fun q => { q with budget := 0 }) t (fun _ => rfl) fun _ => rfl
    · rfl
  rw [e]
  split
  · exact .single (by simpa [State.seam] using goes (s.head h).plan)
  · exact .head (.reclamps (s.seam h) (storeProfile (s.head h).profiles load)) (.single (by simpa [State.seam] using goes _))

theorem takeLoadProfile_run (load : ProfileLoad) (h : Head) (s : State) : SeamRun s (takeLoadProfile load h s) := by
  unfold takeLoadProfile
  refine refuse_run fun _ => refuse_run fun ha => refuse_run fun _ => refuse_run fun _ => ?_
  exact answer_run _ _ _ (acceptProfile_run h load s (by simpa using ha))

theorem takeReadProfile_run (code : Nat) (h : Head) (s : State) : SeamRun s (takeReadProfile code h s) := by
  unfold takeReadProfile
  dsimp only
  split <;> exact answered_run ..

theorem takeReadPlan_run (h : Head) (s : State) : SeamRun s (takeReadPlan h s) := answered_run ..

theorem takeReadChannels_run (h : Head) (s : State) : SeamRun s (takeReadChannels h s) :=
  answered_run 0x0F .ok (s.channelBytes h) s

/-! ### Calibration -/

theorem takeCalibrate_run (h : Head) (s : State) : SeamRun s (takeCalibrate h s) := by
  unfold takeCalibrate
  refine refuse_run fun hs => refuse_run fun _ => refuse_run fun _ => refuse_run fun _ => refuse_run fun _ => ?_
  refine answer_run _ _ _ (setHeadState_run h .calibrating ?_ (by simp [State.seam]))
  have hs : s.headState h = .calDue ∨ s.headState h = .ready ∨ s.headState h = .interrupted := by tauto
  exact .single (by simpa [State.seam, State.headState] using SeamMove.calibrates (s.seam h) hs)

theorem endCalibration_run (h : Head) (st : HeadState) {s t : State} (e : ∀ k, t.seam k = s.seam k)
    (hs : s.headState h = .calibrating) (ht : st = (s.head h).seq.origin ∨ st = .ready) :
    SeamRun s (endCalibration h st t) := by
  refine setHeadState_run h st ?_ (by simp [e])
  have eh := e h
  simp only [State.seam, SeamView.mk.injEq] at eh
  exact .single (by simpa [State.seam, CalAccumulator.clear, eh] using SeamMove.calibrated (s.seam h) st hs ht)

theorem abortCalibration_run (h : Head) (r : CalFailure) (s : State) (hs : s.headState h = .calibrating) :
    SeamRun s (abortCalibration h r s) := endCalibration_run h _ (by simp) hs (.inl rfl)

theorem succeedCalibration_run (h : Head) (s : State) (hs : s.headState h = .calibrating) :
    SeamRun s (succeedCalibration h s) := by
  refine endCalibration_run h _ (fun k => ?_) hs ?_
  · rw [createRecord_seam]
    exact (onSeq_seam h k (fun q => { q with
      budget := (s.head h).travelSet.calibrationBudget, ceiling := (s.head h).travelSet.calibrationBudget }) _
      (fun _ => rfl) fun _ => rfl).trans (by simp)
  · split
    · rename_i ho; exact .inl ho.symm
    · exact .inr rfl

theorem judgeCalibration_run (h : Head) (s : State) (hs : s.headState h = .calibrating) :
    SeamRun s (judgeCalibration h s) := by
  unfold judgeCalibration
  dsimp only
  split
  · exact endCalibration_run h _ (by simp) hs (.inl rfl)
  split
  · exact endCalibration_run h _ (by simp) hs (.inl rfl)
  · exact succeedCalibration_run h s hs

theorem calibrationSample_run (h : Head) (split : Bool) (s : State) (hs : s.headState h = .calibrating) :
    SeamRun s (calibrationSample h split s) := by
  have e (k : Head) : (s.onSeq h fun q => { q with cal := q.cal.add (s.head h).front.force.raw }).seam k = s.seam k :=
    onSeq_seam h k (fun q => { q with cal := q.cal.add (s.head h).front.force.raw }) s (fun _ => rfl) fun _ => rfl
  unfold calibrationSample
  dsimp only
  split
  · exact abortCalibration_run h _ s hs
  split
  · split
    · exact .after_same e (judgeCalibration_run h _ (by simpa [State.headState] using hs))
    · exact .of_same e
  · exact .refl s

/-! ### Resets, the halt and the line -/

theorem powerOn_run (pins : Pins) (straps : Straps) (n : Nat) (pending : List Instr) (s : State) :
    SeamRun s (State.powerOn pins straps n pending) :=
  ⟨fun k => .single (by cases k <;> exact SeamMove.resets (s.seam _) .uncommissioned (by decide) rfl)⟩

theorem deviceReset_run (s : State) : SeamRun s (deviceReset s) := powerOn_run ..

theorem requestResetDevice_run (broadcast : Bool) (s : State) : SeamRun s (requestResetDevice broadcast s) := by
  unfold requestResetDevice
  split
  · split
    · exact .refl s
    · exact deviceReset_run s
  · exact refuse_run fun _ => .of_same (by simp)

theorem resetTakesPlace_run (s : State) : SeamRun s (resetTakesPlace s) := by
  unfold resetTakesPlace
  split
  · exact deviceReset_run s
  · exact .refl s

theorem haltHead_run (h : Head) (src : HaltSource) (s : State) : SeamRun s (haltHead h src s) := by
  unfold haltHead reportHalt
  dsimp only
  cases hs : s.headState h
  case plunge | dwell | weld | pause => exact (interruptHead_run h .halt s).then_same (by simp)
  case approach | spinup => exact (endStart_run h (fun _ => rfl) (by rw [hs]; rfl)).then_same (by simp)
  case calibrating => exact (abortCalibration_run h .halt s hs).then_same (by simp)
  all_goals exact .refl s

theorem haltEvent_run (src : HaltSource) (first : Head) (s : State) : SeamRun s (haltEvent src first s) :=
  foldl_run _ (fun s h => haltHead_run h src s) _ s

theorem assertHalt_run (first : Head) (s : State) : SeamRun s (assertHalt first s) := by
  have e (k : Head) : ({ s with pins := { s.pins with halt := true } } : State).seam k = s.seam k := by cases k <;> rfl
  unfold assertHalt
  dsimp only
  split
  · exact .of_same e
  · exact .after_same e (haltEvent_run ..)

theorem assertReset_run (s : State) : SeamRun s (assertReset s) := .of_same fun k => by cases k <;> rfl

theorem setSetting_run (h : Head) (c : HeadChannel) (t : Setting) (on : Bool) (value : Int) (s : State) :
    SeamRun s (setSetting h c t on value s) := by
  unfold setSetting
  dsimp only
  refine answer_run _ _ _ (.of_same fun k => ?_)
  generalize (if on then value else (((s.head h).front.get c).settingOf t).2) = stored
  split <;> simp

theorem requestSetChannel_run (head channel setting enable : Nat) (value : Int) (s : State) :
    SeamRun s (requestSetChannel head channel setting enable value s) := by
  refine forHead_run _ _ _ (fun h s => ?_) s
  unfold takeSetChannel
  split
  · split
    · exact answered_run ..
    · exact refuse_run fun _ => setSetting_run ..
  · exact answered_run ..

theorem requestReadCounters_run (scope clear : Nat) (s : State) : SeamRun s (requestReadCounters scope clear s) := by
  have head (h : Head) (c : Bool) : SeamRun s (readHeadCounters h c s) := .of_same fun k => by
    unfold readHeadCounters; dsimp only; split <;> simp
  unfold requestReadCounters
  split
  · exact head ..
  · split
    · exact head ..
    · exact answered_run ..
  · refine .of_same fun k => ?_
    unfold readLineCounters; dsimp only; split <;> simp
  · exact answered_run ..

theorem requestSetLog_run (pitch ta tb : Nat) (s : State) : SeamRun s (requestSetLog pitch ta tb s) := by
  unfold requestSetLog
  split
  · exact .of_same fun k => by rw [answer_seam]; cases k <;> rfl
  · exact answered_run ..

theorem takeReadStatus_run (h : Head) (s : State) : SeamRun s (takeReadStatus h s) := .of_same fun k => by
  unfold takeReadStatus; dsimp only; split <;> simp

theorem takeRequest_run (i : Instr) (s : State) : SeamRun s (takeRequest i s) := by
  cases i with
  | identify => exact answered_run ..
  | readStatus => exact forHead_run _ _ _ takeReadStatus_run s
  | startSeam => exact forHead_run _ _ _ takeStartSeam_run s
  | stopSeam => exact requestStopSeam_run ..
  | restartSeam => exact forHead_run _ _ _ (takeRestartSeam_run _) s
  | abandonSeam => exact forHead_run _ _ _ takeAbandonSeam_run s
  | resetHead => exact forHead_run _ _ _ takeResetHead_run s
  | appendSegment => exact forHead_run _ _ _ (takeAppendSegment_run _) s
  | clearPlan => exact forHead_run _ _ _ takeClearPlan_run s
  | readPlan => exact forHead_run _ _ _ takeReadPlan_run s
  | loadProfile => exact forHead_run _ _ _ (takeLoadProfile_run _) s
  | readProfile => exact forHead_run _ _ _ (takeReadProfile_run _) s
  | calibrate => exact forHead_run _ _ _ takeCalibrate_run s
  | setChannel => exact requestSetChannel_run ..
  | readChannels => exact forHead_run _ _ _ takeReadChannels_run s
  | setLog => exact requestSetLog_run ..
  | readRecords => exact forHead_run _ _ _ (fun h s => .of_same fun k => by simp [takeReadRecords]) s
  | readCounters => exact requestReadCounters_run ..
  | resetDevice => exact requestResetDevice_run ..
  | _ => exact .refl s

theorem judgeFrame_run (f : FrameBuffer) (first : Head) (s : State) : SeamRun s (judgeFrame f first s) := by
  have counted : SeamRun s (countFrame s) := .of_same (by simp [countFrame])
  unfold judgeFrame
  dsimp only
  split
  · split
    · exact .of_same (by simp)
    · exact .of_same (by simp)
  split
  · refine counted.trans ?_
    unfold takeBroadcast
    split
    · exact broadcastStop_run ..
    split
    · exact requestResetDevice_run ..
    · exact .refl _
  · refine counted.trans ?_
    unfold takeAddressed
    refine refuse_run fun _ => refuse_run fun _ => ?_
    split
    · exact takeRequest_run ..
    · exact answered_run ..

theorem completeFrame_run (d : Byte) (first : Head) (s : State) : SeamRun s (completeFrame d first s) :=
  .after_same (by simp) (judgeFrame_run _ first _)

theorem discardReply_run (s : State) : SeamRun s (discardReply s).2 := by
  unfold discardReply
  split
  · exact deviceReset_run s
  · exact .of_same (by simp)

theorem takeAddressCharacter_run (d : Byte) (s : State) : SeamRun s (takeAddressCharacter d s) := by
  unfold takeAddressCharacter
  dsimp only
  split
  · exact .refl s
  split
  · exact discardReply_run s
  refine (discardReply_run s).trans (.of_same fun k => ?_)
  split <;> split <;> simp [countTruncated]

theorem takeDataCharacter_run (d : Byte) (first : Head) (s : State) : SeamRun s (takeDataCharacter d first s) := by
  unfold takeDataCharacter
  split
  · exact .refl s
  split
  · split
    · exact completeFrame_run ..
    · exact .of_same (by simp)
  · exact .of_same (by simp)

theorem takeBreak_run (first : Head) (s : State) : SeamRun s (takeBreak first s) := by
  unfold takeBreak
  dsimp only
  split
  · exact discardReply_run s
  · exact (discardReply_run s).trans (.after_same (by simp) (haltEvent_run ..))

theorem lineHeldLow_run (first : Head) (s : State) : SeamRun s (lineHeldLow first s) := by
  have e (k : Head) : ({ s with pins := { s.pins with lineLow := true } } : State).seam k = s.seam k := by
    cases k <;> rfl
  unfold lineHeldLow
  dsimp only
  split
  · exact .of_same e
  split
  · exact .refl s
  split
  · exact .after_same e (takeBreak_run ..)
  · exact .of_same e

theorem lineReturns_run (s : State) : SeamRun s (lineReturns s) := .of_same fun k => by
  unfold lineReturns
  dsimp only
  split
  · cases k <;> rfl
  · rw [onPort_seam]; cases k <;> rfl

/-! ### The station check -/

theorem checkAllowance_run (h : Head) (s : State) : SeamRun s (checkAllowance h s) := by
  unfold checkAllowance
  split
  · split
    · exact interruptHead_run ..
    · exact .refl s
  · exact .refl s

theorem starve_run (h : Head) (g : Segment) (s : State) (hw : (s.headState h).welding = true)
    (hq : (s.head h).plan.queue = []) : SeamRun s (starve h g s) := by
  refine .of_heads h ?_ (by simp [starve, ReflTransGen.refl])
  simpa [starve, State.seam] using ReflTransGen.single (SeamMove.starves (s.seam h)
    (some ⟨(g.endStation : Nat), s.toolStation h - (g.endStation : Nat)⟩) hw hq)

theorem measureStarvation_run (h : Head) (s : State) : SeamRun s (measureStarvation h s) := by
  refine .trans (.of_heads h ?_ (by simp [ReflTransGen.refl])) (checkAllowance_run h _)
  simpa [State.seam] using ReflTransGen.single (SeamMove.measures (s.seam h) ((s.head h).plan.starved.map fun v =>
    { v with used := s.toolStation h - v.nominalEnd }) (by simp [State.seam]))

/-- A completed segment is the retained one, and the head's state stands. -/
@[simp] theorem completeSegment_seam_self (h : Head) (g : Segment) (rest : List Segment) (s : State) :
    (completeSegment h g rest s).seam h =
      { s.seam h with plan := { (s.head h).plan with queue := rest, retained := some g } } := by
  simp [completeSegment]

@[simp] theorem completeSegment_seam_other (h : Head) (g : Segment) (rest : List Segment) (s : State) :
    (completeSegment h g rest s).seam h.other = s.seam h.other := by simp [completeSegment]

theorem completeSegment_run (h : Head) (g : Segment) (rest : List Segment) (s : State)
    (hq : (s.head h).plan.queue = g :: rest) (ha : g.endAction = .carryOn) :
    SeamRun s (completeSegment h g rest s) :=
  .of_heads h (by rw [completeSegment_seam_self]; exact .single (.completes (s.seam h) g rest hq ha))
    (by simp [ReflTransGen.refl])

theorem exitSegment_run (h : Head) (g : Segment) (rest : List Segment) (s : State)
    (hq : (s.head h).plan.queue = g :: rest) (ha : g.endAction = .exit) :
    SeamRun s (enterExit h g (completeSegment h g rest s)) := by
  refine .of_heads h ?_ ?_
  · refine .single ?_
    have e := completeSegment_seam_self h g rest s
    simp only [State.seam, SeamView.mk.injEq] at e
    simpa [enterExit, endStarvation, State.seam, setHeadState_self, startRamp, e] using
      SeamMove.exits (s.seam h) g rest hq ha
  · rw [← completeSegment_seam_other h g rest s]
    simpa [enterExit, endStarvation] using setHeadState_other_run h .exit (startRamp h (countHead h
      (fun c => { c with seamsCompleted := bump c.seamsCompleted }) (createRecord h (.seamEnd g.ref
      ((completeSegment h g rest s).head h).seq.kind ((completeSegment h g rest s).toolStation h)) false
      (completeSegment h g rest s))))

theorem completeSegments_run (n : Nat) (h : Head) (s : State) (hw : s.headState h = .weld) :
    SeamRun s (completeSegments n h s) := by
  induction n generalizing s with
  | zero => exact .refl s
  | succ n ih =>
    unfold completeSegments
    split
    · exact .refl s
    rename_i g rest hq
    split
    · exact .refl s
    dsimp only
    have hw1 : (completeSegment h g rest s).headState h = .weld :=
      (congrArg SeamView.state (completeSegment_seam_self h g rest s)).trans hw
    split
    · rename_i ha; exact exitSegment_run h g rest s hq ha
    · rename_i ha
      have r := completeSegment_run h g rest s hq ha
      split
      · rename_i he
        split
        · exact r
        · refine r.trans ((starve_run h g _ (by rw [hw1]; rfl) ?_).trans (checkAllowance_run h _))
          exact (congrArg (fun v => v.plan.queue) (completeSegment_seam_self h g rest s)).trans (List.isEmpty_iff.mp he)
      · exact r.trans (ih _ hw1)

theorem reentryCheck_run (h : Head) (s : State) (hw : s.headState h = .weld) : SeamRun s (reentryCheck h s) := by
  unfold reentryCheck
  split
  · rename_i hq
    split
    · exact starve_run h _ s (by rw [hw]; rfl) (by simpa using hq)
    · exact .refl s
  · exact completeSegments_run _ h s hw

theorem planWork_run (h : Head) (found : HeadState) (s : State) : SeamRun s (planWork h found s) := by
  have check : SeamRun s (if found = .weld ∧ s.headState h = .weld then stationCheck h s else s) := by
    split
    · rename_i hw; exact completeSegments_run _ h s hw.2
    · exact .refl s
  unfold planWork
  dsimp only
  generalize (if found = .weld ∧ s.headState h = .weld then stationCheck h s else s) = t at check ⊢
  split
  · exact check.trans (measureStarvation_run h _)
  · exact check

/-! ### The other work of a head sample -/

theorem reportFault_seam (h k : Head) (n : ChannelName) (kind : FaultKind) (c : Channel) (s : State) :
    (reportFault h n kind c s).seam k = s.seam k := by simp [reportFault]

theorem convertHead_seam (h k : Head) (i : SampleInput) (c : HeadChannel) (s : State) :
    (convertHead h i c s).seam k = s.seam k := by
  unfold convertHead
  dsimp only
  split
  · split <;> simp [reportFault_seam]
  · simp

theorem readSample_run (h : Head) (i : SampleInput) (o : SampleOrder) (s : State) : SeamRun s (readSample h i o s) := by
  refine (foldl_run _ (fun s c => .of_same fun k => convertHead_seam h k i c s) (conversionOrder o) s).trans
    (.of_same fun k => ?_)
  have drives (t : State) : (t.onHead h fun u => { u with drives := readDrives u.seq.state i u.drives }).seam k
      = t.seam k := by rcases head_cases h k with rfl | rfl <;> simp [State.seam]
  unfold readSample
  dsimp only
  rw [onTrack_seam]
  split
  · rw [onSeq_seam h k _ _ (fun q => by rfl) (fun q => by rfl), drives]
  · exact drives _

theorem recordExcursion_seam (h k : Head) (x : Excursion) (s : State) :
    (recordExcursion h x s).seam k = s.seam k := by simp [recordExcursion]

theorem regulatorSample_seam (h k : Head) (split : Bool) (s : State) :
    (regulatorSample h split s).seam k = s.seam k := by
  have depth (d : Int) (t : State) : (t.onSeq h fun q => { q with depth := d }).seam k = t.seam k :=
    onSeq_seam h k (fun q => { q with depth := d }) t (fun _ => rfl) fun _ => rfl
  unfold regulatorSample reportExcursion
  dsimp only
  split
  · rfl
  · split <;> split <;> (try split) <;> simp [depth, recordExcursion_seam]

theorem logWork_seam (h k : Head) (found : HeadState) (a b : Bool) (s : State) :
    (logWork h found a b s).seam k = s.seam k := by
  unfold logWork emitAtMark restartAccumulator
  dsimp only
  split
  · split
    · split
      · split <;> simp
      · simp
    · simp
  · rfl

theorem checkGap_seam (h k : Head) (g : Segment) (e : TrackEntry) (s : State) :
    (checkGap h g e s).seam k = s.seam k := by
  unfold checkGap reportGap
  split
  · split
    · split <;> simp
    · simp
  · simp

theorem checkMismatch_seam (h k : Head) (g : Segment) (e : TrackEntry) (s : State) :
    (checkMismatch h g e s).seam k = s.seam k := by
  unfold checkMismatch
  dsimp only
  split
  · split <;> simp
  · simp

theorem activate_run (h : Head) (g : Segment) (e : TrackEntry) (first : Bool) (s : State) :
    SeamRun s (activate h g e first s) := by
  unfold activate
  dsimp only
  refine SeamRun.then_same (SeamRun.trans (t := checkGap h g e (s.onTrack h fun t => { t with activeFirst := true }))
    (.of_same fun k => by rw [checkGap_seam, onTrack_seam]) ?_) fun k => checkMismatch_seam h k g e _
  split
  · exact interruptHead_run ..
  · exact .refl _

theorem steer_seam (h k : Head) (on : Bool) (e : Option TrackEntry) (s : State) :
    (steer h on e s).seam k = s.seam k := by simp [steer]

theorem checkLoss_run (h : Head) (g : Segment) (r : Int) (s : State) : SeamRun s (checkLoss h g r s) := by
  unfold checkLoss
  dsimp only
  split
  · exact .after_same (by simp) (interruptHead_run ..)
  · exact .of_same (by simp)

theorem trackWelding_run (h : Head) (weld first : Bool) (g : Segment) (s : State) :
    SeamRun s (trackWelding h weld first g s) := by
  unfold trackWelding
  extract_lets due s1 s2 s3
  have activated : SeamRun s s1 := by
    unfold s1
    cases due with
    | some e => exact activate_run ..
    | none => exact .refl s
  have steered : SeamRun s s2 := activated.then_same fun k => steer_seam ..
  have tested : SeamRun s s3 := .of_ite (fun _ => steered.trans (checkLoss_run ..)) fun _ => steered
  exact .of_ite (fun _ => tested.trans (interruptHead_run ..)) fun _ => tested

theorem trackAfterLeaving_run (h : Head) (read : HeadUnit) (first : Bool) (s : State) :
    SeamRun s (trackAfterLeaving h read first s) := by
  have trimmed : SeamRun s (s.onTrack h fun _ => read.track.trim) := .of_same (by simp)
  unfold trackAfterLeaving
  extract_lets s1 s2
  have worked : SeamRun s s2 := by
    unfold s2
    split
    · exact trimmed.trans (trackWelding_run ..)
    · exact trimmed
  exact .of_ite (fun _ => worked) fun _ => worked.then_same fun k => emptyTrack_seam ..

theorem trackWork_run (h : Head) (read : HeadUnit) (first : Bool) (s : State) :
    SeamRun s (trackWork h read first s) := by
  have trimmed : SeamRun s (s.onTrack h Tracking.trim) := .of_same (by simp)
  unfold trackWork
  dsimp only
  refine .of_ite (fun _ => .of_ite (fun _ => ?_) fun _ => trackAfterLeaving_run ..) fun _ =>
    .of_ite (fun _ => trimmed.then_same fun k => steer_seam ..) fun _ => trimmed
  split
  · exact trimmed.trans (trackWelding_run ..)
  · exact trimmed

theorem raiseTool_seam (h k : Head) (s : State) : (raiseTool h s).seam k = s.seam k := by
  unfold raiseTool
  split
  · rfl
  · refine onSeq_seam h k _ s (fun q => ?_) fun q => ?_ <;> dsimp only <;> split <;> (try split) <;> rfl

theorem retractStep_seam (h k : Head) (s : State) : (retractStep h s).seam k = s.seam k :=
  onSeq_seam h k _ s (fun _ => rfl) fun _ => rfl

theorem plungeStep_seam (h k : Head) (s : State) : (plungeStep h s).seam k = s.seam k :=
  onSeq_seam h k _ s (fun q => by dsimp only; split <;> rfl) fun q => by dsimp only; split <;> rfl

theorem enterPlunge_run (h : Head) (s : State) (hs : s.headState h = .spinup) : SeamRun s (enterPlunge h s) :=
  goes_run h .plunge (fun k => onSeq_seam h k _ s (fun _ => rfl) fun _ => rfl) (by decide)
    (fun _ => by rw [hs]; rfl) (by rw [hs]; decide)

theorem enterDwell_run (h : Head) (s : State) (hs : s.headState h = .plunge) : SeamRun s (enterDwell h s) :=
  goes_run h .dwell (fun k => by simp [onSeq_seam]) (by decide)
    (fun _ => by rw [hs]; rfl) (by rw [hs]; decide)

theorem enterWeld_run (h : Head) (s : State) (hs : s.headState h = .dwell) : SeamRun s (enterWeld h s) := by
  unfold enterWeld
  dsimp only
  have entered : SeamRun s (setHeadState h .weld (restartAccumulator h ((s.onSeq h fun q =>
      { q with weldEntry := s.toolStation h }).onReg h Regulator.prepared))) :=
    goes_run h .weld (fun k => by
      rw [restartAccumulator, onLog_seam, onReg_seam]; exact onSeq_seam h k _ s (fun _ => rfl) fun _ => rfl)
      (by decide) (fun _ => by rw [hs]; rfl) (fun _ => rfl)
  exact .of_ite (fun _ => entered.trans (reentryCheck_run h _ (by simp))) fun _ => entered

theorem finishExit_run (h : Head) (s : State) (hs : s.headState h = .exit) : SeamRun s (finishExit h s) := by
  refine goes_run h _ (fun k => onSeq_seam h k _ s (fun _ => rfl) fun _ => rfl) ?_ ?_ (by simp [hs, HeadState.welding]) <;>
    rcases readyOrCalDue_cases (s.head h).seq with e | e <;> simp [e, HeadState.seamOpen]

theorem finishInterrupting_run (h : Head) (s : State) (hs : s.headState h = .interrupting) :
    SeamRun s (finishInterrupting h s) :=
  enterInterrupted_run h (fun k => onSeq_seam h k _ s (fun _ => rfl) fun _ => rfl) (by rw [hs]; rfl) (by rw [hs]; rfl)

theorem findAtSpeed_run (h : Head) (s : State) : SeamRun s (findAtSpeed h s) :=
  .of_ite (fun c => enterPlunge_run h s (by simp at c; exact c.1.2)) fun _ => .refl s

theorem findSpinupTimeout_run (h : Head) (s : State) : SeamRun s (findSpinupTimeout h s) :=
  .of_ite (fun c => failStart_run h _ s (by simp at c; rw [c.1.1.2]; rfl)) fun _ => .refl s

theorem findPlungeDone_run (h : Head) (s : State) : SeamRun s (findPlungeDone h s) :=
  .of_ite (fun c => enterDwell_run h s (by simp at c; exact c.1.2)) fun _ => .refl s

theorem findPlungeTimeout_run (h : Head) (s : State) : SeamRun s (findPlungeTimeout h s) :=
  .of_ite (fun _ => interruptHead_run ..) fun _ => .refl s

theorem findDwellElapsed_run (h : Head) (s : State) : SeamRun s (findDwellElapsed h s) :=
  .of_ite (fun c => enterWeld_run h s (by simp at c; exact c.1.2)) fun _ => .refl s

theorem findExitRetract_run (h : Head) (s : State) : SeamRun s (findExitRetract h s) :=
  .of_ite (fun c => finishExit_run h s (by simp at c; exact c.1.2)) fun _ => .refl s

theorem findInterruptingRetract_run (h : Head) (s : State) : SeamRun s (findInterruptingRetract h s) :=
  .of_ite (fun c => finishInterrupting_run h s (by simp at c; exact c.1.2)) fun _ => .refl s

theorem findCalibrationJudged_run (h : Head) (s : State) : SeamRun s (findCalibrationJudged h s) :=
  .of_ite (fun c => judgeCalibration_run h s (by simp at c; exact c.1.2)) fun _ => .refl s

theorem sequenceWork_run (h : Head) (split : Bool) (s : State) : SeamRun s (sequenceWork h split s) := by
  have take (find : Head → State → State) (hf : ∀ x, SeamRun x (find h x)) {x : State}
      (e : ∀ k, x.seam k = s.seam k) : SeamRun s (if split then x else find h x) :=
    .of_ite (fun _ => .of_same e) fun _ => .after_same e (hf x)
  unfold sequenceWork
  dsimp only
  cases hs : s.headState h <;> dsimp only
  case uncommissioned | commissioning | calDue | ready | interrupted => exact .of_same fun k => raiseTool_seam h k s
  case calibrating => exact calibrationSample_run h split s hs
  case approach => exact .refl s
  case spinup =>
    have e (k : Head) : (s.onSeq h fun q => { q with spinupTimer := q.spinupTimer - 2 }).seam k = s.seam k :=
      onSeq_seam h k (fun q => { q with spinupTimer := q.spinupTimer - 2 }) s (fun _ => rfl) fun _ => rfl
    exact .of_ite (fun _ => take _ (findAtSpeed_run h) e) fun _ => take _ (findSpinupTimeout_run h) e
  case plunge =>
    have e (k : Head) : (plungeStep h (followSpindle h s)).seam k = s.seam k := by
      rw [plungeStep_seam, followSpindle_seam]
    exact .of_ite (fun _ => take _ (findPlungeDone_run h) e) fun _ => take _ (findPlungeTimeout_run h) e
  case dwell =>
    exact take _ (findDwellElapsed_run h) fun k => by simp [onSeq_seam]
  case weld | pause => exact .of_same (by simp)
  case exit => exact take _ (findExitRetract_run h) fun k => retractStep_seam h k s
  case interrupting => exact take _ (findInterruptingRetract_run h) fun k => retractStep_seam h k s

theorem checkWork_run (h : Head) (found : HeadState) (c : FaultCheck) (s : State) :
    SeamRun s (checkWork h found c s) := by
  unfold checkWork
  refine .of_ite (fun _ => .refl s) fun _ => .of_ite (fun _ => interruptHead_run ..) fun _ => ?_
  split
  · exact .of_ite (fun _ => startFault_run ..) fun _ => .refl s
  · exact .refl s

theorem blockAct_run (h : Head) (read : HeadUnit) (o : SampleOrder) (s : State) (a : SampleAct) :
    SeamRun s (blockAct h read o s a) := by
  cases a with
  | regulator => exact .of_ite (fun _ => .of_same fun k => regulatorSample_seam ..) fun _ => .refl s
  | forceRun => exact .of_ite (fun _ => .after_same (by simp) (interruptHead_run ..)) fun _ => .of_same (by simp)
  | station => exact planWork_run ..
  | track => exact trackWork_run ..
  | log => exact .refl s
  | grace => exact .of_ite (fun _ => interruptHead_run ..) fun _ => .refl s
  | check c => exact checkWork_run ..
  | sequence => exact .of_ite (fun _ => sequenceWork_run ..) fun _ => .refl s

theorem sampleActs_run (h : Head) (read : HeadUnit) (o : SampleOrder) (l : List SampleAct) (s : State) :
    SeamRun s (sampleActs h read o l s) := by
  induction l generalizing s with
  | nil => exact .refl s
  | cons a rest ih =>
    exact SeamRun.trans (.of_ite (fun _ => .of_same fun k => logWork_seam ..) fun _ => blockAct_run ..) (ih _)

theorem sampleHead_run (h : Head) (i : SampleInput) (o : SampleOrder) (s : State) : SeamRun s (sampleHead h i o s) := by
  refine .of_ite (fun _ => ?_) fun _ => .refl s
  refine ((readSample_run h i o s).trans (sampleActs_run h ((readSample h i o s).head h) o (actOrder o) _)).then_same fun k => ?_
  rcases head_cases h k with rfl | rfl <;> simp [presentOutputs, State.seam]

/-! ### Track reports and the governor -/

theorem acceptReport_run (l : List Byte) (s : State) : SeamRun s (acceptReport l s) := by
  refine .of_same fun k => ?_
  unfold acceptReport acceptEntry countBadReport
  dsimp only
  repeat' split
  all_goals simp

theorem takeTrackerCharacter_run (d : Byte) (s : State) : SeamRun s (takeTrackerCharacter d s) := by
  have e (r : TrackReceiver) (k : Head) : ({ s with tracker := r } : State).seam k = s.seam k := by cases k <;> rfl
  unfold takeTrackerCharacter
  split
  · exact .of_ite (fun _ => .of_same (e _)) fun _ => .refl s
  · exact .of_ite (fun _ => .of_same (e _)) fun _ => .after_same (e _) (acceptReport_run ..)

theorem takeReportArrival_run (rest : List Byte) (s : State) : SeamRun s (takeReportArrival rest s) :=
  .of_ite (fun _ => .after_same (fun k => by cases k <;> rfl) (acceptReport_run ..)) fun _ => .refl s

theorem abandonReport_run (s : State) : SeamRun s (abandonReport s) := by
  unfold abandonReport
  split
  · exact .refl s
  · exact .of_same fun k => by rw [countBadReport, onLines_seam]; cases k <;> rfl

theorem enterSpinup_run (h : Head) (s : State) (hs : s.headState h = .approach) : SeamRun s (enterSpinup h s) :=
  goes_run h .spinup (fun k => by simp [onSeq_seam]) (by decide)
    (fun _ => by rw [hs]; rfl) (by rw [hs]; decide)

/-- Only a head in APPROACH has an approach to demand (R28). -/
theorem HeadState.demand_approach {st : HeadState} (hd : st.demand = .approach) : st = .approach := by
  revert hd
  cases st <;> decide

theorem findArrival_run (h : Head) (s : State) : SeamRun s (findArrival h s) :=
  .of_ite (fun c => enterSpinup_run h s (by
    simp [State.reached, State.demand] at c; exact HeadState.demand_approach c.2.1)) fun _ => .refl s

theorem endPause_run (h : Head) (s : State) (hs : s.headState h = .pause) : SeamRun s (endPause h s) :=
  goes_run h .weld (by simp) (by decide) (fun _ => by rw [hs]; rfl) (fun _ => rfl)

theorem pauseWork_run (h : Head) (found : HeadState) (hold split : Bool) (s : State) :
    SeamRun s (pauseWork h found hold split s) := by
  have ran : SeamRun s (runPause h s) := .of_same (by simp [runPause])
  refine .of_ite (fun c => .of_ite (fun _ => ?_) fun _ => endPause_run h s c.2) fun _ =>
    .of_ite (fun _ => pauseBegin_run ..) fun _ => .refl s
  exact .of_ite (fun _ => ran) fun _ => ran.trans (interruptHead_run ..)

theorem updateAct_run (u : State) (stops : Bool) (o : UpdateOrder) (s : State) (a : UpdateAct) :
    SeamRun s (updateAct u stops o s a) := by
  cases a with
  | pause h => exact pauseWork_run ..
  | bedEnd h => exact .of_ite (fun _ => interruptHead_run ..) fun _ => .refl s
  | arrival h => exact .of_ite (fun c => enterSpinup_run h s (by simp at c; exact c.2)) fun _ => .refl s

theorem convertGantry_run (first : Head) (i : EncoderReading) (s : State) : SeamRun s (convertGantry first i s) := by
  have e (c : Channel) (k : Head) : ({ s with gantry := c } : State).seam k = s.seam k := by cases k <;> rfl
  unfold convertGantry
  dsimp only
  split
  · exact .of_ite (fun _ => .of_same (e _)) fun _ =>
      .after_same (e _) (foldl_run _ (fun x h => .of_same fun k => reportFault_seam ..) _ _)
  · exact .of_same (e _)

theorem updateGovernor_run (i : UpdateInput) (o : UpdateOrder) (s : State) : SeamRun s (updateGovernor i o s) := by
  have read : SeamRun s (readUpdate i o s) := (convertGantry_run o.first i.gantry s).then_same (by simp [readUpdate])
  unfold updateGovernor
  dsimp only
  generalize readUpdate i o s = s1 at read ⊢
  refine .of_ite (fun _ => read.trans (SeamRun.trans (.of_same fun k => ?_) (foldl_run _ (updateAct_run s1 _ o) _ _)))
    fun _ => read
  cases k <;> rfl

/-! ### The port, and every command -/

theorem findExcursion_run (h : Head) (s : State) : SeamRun s (findExcursion h s) := by
  unfold findExcursion
  split
  · exact .of_ite (fun _ => .of_same (by simp [recordExcursion_seam])) fun _ => .refl s
  · exact .refl s

theorem takeFramingError_run (s : State) : SeamRun s (takeFramingError s) :=
  .of_ite (fun _ => .refl s) fun _ => .of_ite (fun _ => .of_same (by simp)) fun _ => .of_same (by simp)

theorem takeFrameSilence_run (s : State) : SeamRun s (takeFrameSilence s) :=
  .of_ite (fun _ => .of_same (by simp [countTruncated])) fun _ => .refl s

theorem takeFrameComplete_run (d : Byte) (first : Head) (s : State) : SeamRun s (takeFrameComplete d first s) :=
  .of_ite (fun _ => completeFrame_run d first s) fun _ => .refl s

theorem startReply_run (s : State) : SeamRun s (startReply s) :=
  .of_ite (fun _ => .of_same (by simp)) fun _ => .refl s

theorem endReply_run (s : State) : SeamRun s (endReply s) :=
  .of_ite (fun _ => .after_same (by simp) (resetTakesPlace_run _)) fun _ => .refl s

theorem running_run {f : State → State} (hf : ∀ s, SeamRun s (f s)) {s t : State} (e : running f s = .next t) :
    SeamRun s t := by
  unfold running at e
  split at e
  · cases e; exact .refl s
  · cases e; exact hf s

/-- What a command can do to each head's seam: a run of seam moves. -/
theorem exec_run (c : Instr) {s t : State} (e : exec c s = .next t) : SeamRun s t := by
  cases c with
  | identify => exact running_run (fun s => takeRequest_run .identify s) e
  | readStatus head => exact running_run (takeRequest_run (.readStatus head)) e
  | startSeam head => exact running_run (takeRequest_run (.startSeam head)) e
  | stopSeam target => exact running_run (takeRequest_run (.stopSeam target)) e
  | restartSeam head overlap => exact running_run (takeRequest_run (.restartSeam head overlap)) e
  | abandonSeam head => exact running_run (takeRequest_run (.abandonSeam head)) e
  | resetHead head => exact running_run (takeRequest_run (.resetHead head)) e
  | appendSegment head g => exact running_run (takeRequest_run (.appendSegment head g)) e
  | clearPlan head => exact running_run (takeRequest_run (.clearPlan head)) e
  | readPlan head => exact running_run (takeRequest_run (.readPlan head)) e
  | loadProfile head load => exact running_run (takeRequest_run (.loadProfile head load)) e
  | readProfile head code => exact running_run (takeRequest_run (.readProfile head code)) e
  | calibrate head => exact running_run (takeRequest_run (.calibrate head)) e
  | setChannel head c t on v => exact running_run (takeRequest_run (.setChannel head c t on v)) e
  | readChannels head => exact running_run (takeRequest_run (.readChannels head)) e
  | setLog pitch ta tb => exact running_run (takeRequest_run (.setLog pitch ta tb)) e
  | readRecords head n => exact running_run (takeRequest_run (.readRecords head n)) e
  | readCounters scope clear => exact running_run (takeRequest_run (.readCounters scope clear)) e
  | resetDevice broadcast => exact running_run (takeRequest_run (.resetDevice broadcast)) e
  | resetTakesPlace => exact running_run resetTakesPlace_run e
  | resetInputAsserted => cases e; exact assertReset_run s
  | resetInputNegated straps => cases e; exact powerOn_run ..
  | haltInputAsserted first => cases e; exact assertHalt_run first s
  | haltInputNegated => cases e; exact .of_same fun k => by cases k <;> rfl
  | lineBreak first => cases e; exact lineHeldLow_run first s
  | breakDetectorRearm => cases e; exact lineReturns_run s
  | addressCharacter d => exact running_run (takeAddressCharacter_run d) e
  | dataCharacter d first => exact running_run (takeDataCharacter_run d first) e
  | controlFramingError => exact running_run takeFramingError_run e
  | frameSilenceTimeout => exact running_run takeFrameSilence_run e
  | frameComplete d first => exact running_run (takeFrameComplete_run d first) e
  | replyStart => exact running_run startReply_run e
  | replyEnd => exact running_run endReply_run e
  | trackReportArrival rest => exact running_run (takeReportArrival_run rest) e
  | trackFramingError => exact running_run abandonReport_run e
  | trackSilenceTimeout => exact running_run abandonReport_run e
  | headSample h i o => exact running_run (sampleHead_run h i o) e
  | atSpeed h => exact running_run (findAtSpeed_run h) e
  | spinupTimeout h => exact running_run (findSpinupTimeout_run h) e
  | plungeDone h => exact running_run (findPlungeDone_run h) e
  | plungeTimeout h => exact running_run (findPlungeTimeout_run h) e
  | dwellElapsed h => exact running_run (findDwellElapsed_run h) e
  | exitRetractComplete h => exact running_run (findExitRetract_run h) e
  | interruptingRetractComplete h => exact running_run (findInterruptingRetract_run h) e
  | forceLimit h => exact running_run (fun s => .of_ite (fun _ => interruptHead_run ..) fun _ => .refl s) e
  | excursion h => exact running_run (findExcursion_run h) e
  | graceExhausted h => exact running_run (fun s => .of_ite (fun _ => interruptHead_run ..) fun _ => .refl s) e
  | calibrationJudged h => exact running_run (findCalibrationJudged_run h) e
  | governorUpdate i o => exact running_run (updateGovernor_run i o) e
  | arrival h => exact running_run (findArrival_run h) e
  | pauseLimit h => exact running_run (fun s => .of_ite (fun _ => interruptHead_run ..) fun _ => .refl s) e
  | trackerCharacter d => exact running_run (takeTrackerCharacter_run d) e

theorem step_run {s t : State} (e : step s = .next t) : SeamRun s t := by
  unfold step at e
  split at e
  · cases e; exact .refl s
  · rename_i c rest _
    exact .after_same (t := { s with pending := rest }) (fun k => by cases k <;> rfl) (exec_run c e)

/-! ## The plan law (R6) -/

/-- The plan law rests on queue and retained segment, whatever the starvation. -/
theorem PlanStore.Lawful.of_same {p q : PlanStore} (hp : p.Lawful) (hq : q.queue = p.queue)
    (hr : q.retained = p.retained) : q.Lawful := by
  obtain ⟨hl, hc, ho⟩ := hp
  refine ⟨hq ▸ hl, hq ▸ hc, fun g hg => ?_⟩
  rw [hq]
  exact ho g (by simpa [PlanStore.openRetained, hr] using hg)

/-- Without an open retained segment the law is about the queue alone. -/
theorem PlanStore.lawful_of_queue {p : PlanStore} (hl : p.queue.length ≤ 49) (hc : p.queue.IsChain Abuts)
    (ho : p.openRetained = none) : p.Lawful := ⟨hl, hc, fun g hg => by simp [ho] at hg⟩

/-- A completed segment is where the rest of its queue begins. -/
theorem PlanStore.Lawful.complete {p : PlanStore} {g : Segment} {rest : List Segment} (hp : p.Lawful)
    (hq : p.queue = g :: rest) (v : Option Starvation) : PlanStore.Lawful ⟨rest, some g, v⟩ := by
  obtain ⟨hl, hc, -⟩ := hp
  rw [hq] at hl hc
  refine ⟨by simp at hl ⊢; omega, hc.tail, fun k hk => ?_⟩
  obtain ⟨rfl, -⟩ : g = k ∧ _ := by simpa [PlanStore.openRetained, Option.filter_eq_some_iff] using hk
  exact ⟨by simp at hl ⊢; omega, fun n hn => (List.isChain_cons.mp hc).1 n hn⟩

/-- The reinstated segment stands in front of the queue that begins where it ends (R21). -/
theorem PlanStore.Lawful.reinstate {p : PlanStore} (hp : p.Lawful) (station : Int) : (p.reinstate station).Lawful := by
  unfold PlanStore.reinstate
  split
  · rename_i g hg
    split
    · obtain ⟨hl, hn⟩ := hp.2.2 g hg
      exact PlanStore.lawful_of_queue (by simp; omega) (List.isChain_cons.mpr ⟨hn, hp.2.1⟩) rfl
    · exact hp
  · exact hp

/-- A segment that begins at the contiguity reference may join the tail (R7, R8). -/
theorem PlanStore.Lawful.append {p : PlanStore} {g : Segment} (hp : p.Lawful) (hl : p.queue.length < 48)
    (hj : ∀ n, p.contiguityReference = some n → n = g.start) : PlanStore.Lawful { p with queue := p.queue ++ [g] } := by
  obtain ⟨-, hc, ho⟩ := hp
  refine ⟨by simp; omega, List.isChain_append.mpr ⟨hc, .singleton g, fun a ha b hb => ?_⟩, fun k hk => ?_⟩
  · obtain rfl : g = b := by simpa using hb
    exact (hj _ (by simp [PlanStore.contiguityReference, Option.mem_def.mp ha])).symm
  · refine ⟨by simp; omega, fun n hn => ?_⟩
    cases hq : p.queue with
    | nil =>
      obtain rfl : g = n := by simpa [hq] using hn
      exact (hj _ (by simp [PlanStore.contiguityReference, hq, show p.openRetained = some k from hk])).symm
    | cons a rest => exact (ho k hk).2 n (by simpa [hq] using hn)

/-- The clamps of R4 and R5 touch neither the stations of a segment nor its end action. -/
theorem reclampSegment_place (p : ProfileStore) (g : Segment) :
    (reclampSegment p g).start = g.start ∧ (reclampSegment p g).endStation = g.endStation ∧
      (reclampSegment p g).endAction = g.endAction := by
  unfold reclampSegment
  dsimp only
  split <;> exact ⟨rfl, rfl, rfl⟩

theorem reclampPlan_openRetained (c : ProfileStore) (p : PlanStore) :
    (reclampPlan c p).openRetained = p.openRetained.map (reclampSegment c) := by
  have e (g : Segment) : (reclampSegment c g).endAction = g.endAction := (reclampSegment_place c g).2.2
  cases hr : p.retained with
  | none => simp [reclampPlan, PlanStore.openRetained, hr]
  | some g => cases ha : g.endAction <;> simp [reclampPlan, PlanStore.openRetained, hr, Option.filter_some, e, ha]

theorem PlanStore.Lawful.reclamp {p : PlanStore} (hp : p.Lawful) (c : ProfileStore) : (reclampPlan c p).Lawful := by
  obtain ⟨hl, hc, ho⟩ := hp
  have abuts {a b : Segment} (h : Abuts a b) : Abuts (reclampSegment c a) (reclampSegment c b) := by
    obtain ⟨-, ea, -⟩ := reclampSegment_place c a
    obtain ⟨eb, -, -⟩ := reclampSegment_place c b
    unfold Abuts at h ⊢
    rw [ea, eb, h]
  refine ⟨by simpa [reclampPlan] using hl, ?_, fun k hk => ?_⟩
  · exact (List.isChain_map _).mpr (hc.imp fun _ _ => abuts)
  · rw [reclampPlan_openRetained, Option.map_eq_some_iff] at hk
    obtain ⟨g, hg, rfl⟩ := hk
    obtain ⟨h48, hn⟩ := ho g hg
    refine ⟨by simpa [reclampPlan] using h48, fun n h => ?_⟩
    simp only [reclampPlan, List.head?_map, Option.map_eq_some_iff] at h
    obtain ⟨m, hm, rfl⟩ := h
    exact abuts (hn m hm)

theorem PlanStore.lawful_drop {p : PlanStore} (hp : p.Lawful) {rest : List Segment} (hr : rest <:+ p.queue)
    (v : Option Starvation) : PlanStore.Lawful ⟨rest, none, v⟩ :=
  lawful_of_queue (hr.length_le.trans hp.1) (hp.2.1.suffix hr) rfl

theorem SeamMove.keeps_plan {v w : SeamView} (m : SeamMove v w) (hv : v.plan.Lawful) : w.plan.Lawful := by
  cases m with
  | goes | starts | calibrates | calibrated => exact hv
  | reenters station => exact hv.reinstate station
  | interrupts | starves | measures => exact hv.of_same rfl rfl
  | completes g rest hq => exact hv.complete hq _
  | exits g rest hq => exact hv.complete hq _
  | appends g hl hj => exact hv.append hl hj
  | drops st rest _ _ _ hr => exact PlanStore.lawful_drop hv hr _
  | reclamps p => exact hv.reclamp p
  | resets => exact PlanStore.lawful_of_queue (by simp [PlanStore.empty]) .nil rfl

/-- Settles O10: each step is a run of seam moves, and each move keeps the plan law. -/
theorem planContiguityKept : Obligations.PlanContiguityKept := fun _ t hs e k =>
  ((step_run e).moves k).head_induction_on (motive := fun v _ => v.plan.Lawful → (t.seam k).plan.Lawful) id
    (fun m _ ih hv => ih (m.keeps_plan hv)) (hs k)

/-! ## The open seam (R16, R48, R52) -/

/-- Something to resume from: a current segment or a retained CONTINUE segment. -/
def PlanStore.Resumable (p : PlanStore) : Prop := p.current.isSome ∨ p.openRetained.isSome

/-- The open-seam law of one head, with the origin of a calibration that it leans on (R153). -/
structure SeamView.Sound (v : SeamView) : Prop where
  origin : v.state = .calibrating → v.origin.getD .calDue = .calDue ∨ v.origin.getD .calDue = .ready ∨
    v.origin.getD .calDue = .interrupted
  resumable : v.state.seamOpen = true → v.plan.Resumable
  calibrated : v.state = .calibrating → v.origin.getD .calDue = .interrupted → v.plan.Resumable
  starved : v.plan.starved.isSome → v.state.welding = true ∧ v.plan.openRetained.isSome

/-- The law and the view say the same of a head. -/
theorem soundSeam_iff (s : State) (k : Head) : (s.seam k).Sound ↔ (s.head k).seq.OriginKept ∧
    ((s.head k).seq.seamOpen = true → (s.head k).plan.Resumable) ∧
    ((s.head k).plan.starved.isSome → (s.headState k).welding = true ∧ (s.head k).plan.openRetained.isSome) := by
  have e : (s.head k).seq.seamOpen = true ↔ (s.head k).seq.state.seamOpen = true ∨
      (s.head k).seq.state = .calibrating ∧ (s.head k).seq.origin = .interrupted := by
    unfold Sequencer.seamOpen
    cases (s.head k).seq.state <;> simp [HeadState.seamOpen]
  rw [e]
  exact ⟨fun ⟨ho, hr, hc, hv⟩ => ⟨ho, fun h => h.elim hr fun h => hc h.1 h.2, hv⟩,
    fun ⟨ho, hr, hv⟩ => ⟨ho, fun h => hr (.inl h), fun h i => hr (.inr ⟨h, i⟩), hv⟩⟩

/-- Only an open seam welds. -/
theorem HeadState.welding_seamOpen {st : HeadState} (hw : st.welding = true) :
    st.seamOpen = true := by
  revert hw
  cases st <;> decide

theorem HeadState.inMaterial_seamOpen {st : HeadState} (hm : st.inMaterial = true) : st.seamOpen = true := by
  revert hm
  cases st <;> decide

/-- A head that is not welding is not starved. -/
theorem SeamView.Sound.fed {v : SeamView} (hv : v.Sound) (hw : v.state.welding = false) : v.plan.starved = none := by
  cases h : v.plan.starved with
  | none => rfl
  | some x => exact absurd ((hv.starved (by simp [h])).1.symm.trans hw) (by decide)

/-- A reinstated plan has a current segment, or is the plan as it was. -/
theorem PlanStore.Resumable.reinstate {p : PlanStore} (hp : p.Resumable) (station : Int) :
    (p.reinstate station).Resumable := by
  unfold PlanStore.reinstate
  split
  · split
    · exact .inl rfl
    · exact hp
  · exact hp

theorem PlanStore.reinstate_starved (p : PlanStore) (station : Int) : (p.reinstate station).starved = p.starved := by
  unfold PlanStore.reinstate
  split
  · split <;> rfl
  · rfl

theorem SeamMove.keeps_sound {v w : SeamView} (m : SeamMove v w) (hv : v.Sound) : w.Sound := by
  cases m with
  | goes st hc ho hw =>
    exact ⟨fun h => absurd h hc, fun h => hv.resumable (ho h), fun h => absurd h hc,
      fun h => ⟨hw (hv.starved h).1, (hv.starved h).2⟩⟩
  | starts g hs hg =>
    have fed := hv.fed (by rw [hs]; rfl)
    exact ⟨nofun, fun _ => .inl (by simp [hg]), nofun, by simp [fed]⟩
  | reenters station hs =>
    have fed := hv.fed (by rw [hs]; rfl)
    exact ⟨nofun, fun _ => (hv.resumable (by rw [hs]; rfl)).reinstate station, nofun,
      by simp [PlanStore.reinstate_starved, fed]⟩
  | calibrates hs =>
    have fed := hv.fed (by rcases hs with h | h | h <;> rw [h] <;> rfl)
    exact ⟨fun _ => hs, nofun, fun _ h => hv.resumable (by rw [show v.state = _ from h]; rfl), by simp [fed]⟩
  | calibrated st hs ht =>
    have fed := hv.fed (by rw [hs]; rfl)
    have origin : st = .calDue ∨ st = .ready ∨ st = .interrupted ∧ v.origin.getD .calDue = .interrupted := by
      rcases ht with rfl | rfl
      · rcases hv.origin hs with h | h | h <;> simp [h]
      · simp
    rcases origin with rfl | rfl | ⟨rfl, ho⟩
    · exact ⟨nofun, nofun, nofun, by simp [fed]⟩
    · exact ⟨nofun, nofun, nofun, by simp [fed]⟩
    · exact ⟨nofun, fun _ => hv.calibrated hs ho, nofun, by simp [fed]⟩
  | interrupts hm =>
    exact ⟨nofun, fun _ => hv.resumable (HeadState.inMaterial_seamOpen hm), nofun, nofun⟩
  | starves x hw hq =>
    have held : v.plan.openRetained.isSome := by
      rcases hv.resumable (HeadState.welding_seamOpen hw) with h | h
      · simp [PlanStore.current, hq] at h
      · exact h
    exact ⟨hv.origin, fun _ => .inr held, fun _ _ => .inr held, fun _ => ⟨hw, held⟩⟩
  | measures x hx => exact ⟨hv.origin, hv.resumable, hv.calibrated, fun h => hv.starved (hx h)⟩
  | completes g rest hq ha =>
    have held : PlanStore.openRetained { v.plan with queue := rest, retained := some g } = some g := by
      simp [PlanStore.openRetained, ha]
    have resumable : PlanStore.Resumable { v.plan with queue := rest, retained := some g } := .inr (by rw [held]; rfl)
    exact ⟨hv.origin, fun _ => resumable, fun _ _ => resumable, fun h => ⟨(hv.starved h).1, by rw [held]; rfl⟩⟩
  | exits => exact ⟨nofun, nofun, nofun, nofun⟩
  | appends g =>
    have resumable : PlanStore.Resumable { v.plan with queue := v.plan.queue ++ [g] } :=
      .inl (by simp [PlanStore.current])
    exact ⟨hv.origin, fun _ => resumable, fun _ _ => resumable, hv.starved⟩
  | drops st rest hw hc ho =>
    have fed := hv.fed hw
    exact ⟨fun h => absurd h hc, fun h => absurd (ho.symm.trans h) (by decide), fun h => absurd h hc, by simp [fed]⟩
  | reclamps p =>
    have resumable (h : v.plan.Resumable) : (reclampPlan p v.plan).Resumable :=
      h.imp (by simp [PlanStore.current, reclampPlan]) (by simp [reclampPlan_openRetained])
    exact ⟨hv.origin, fun h => resumable (hv.resumable h), fun h i => resumable (hv.calibrated h i),
      fun h => ⟨(hv.starved h).1, by simpa [reclampPlan_openRetained] using (hv.starved h).2⟩⟩
  | resets st hc ho =>
    exact ⟨fun h => absurd h hc, fun h => absurd (ho.symm.trans h) (by decide), fun h => absurd h hc, nofun⟩

/-- Settles O15: each step is a run of seam moves, and each move keeps a head's seam sound. -/
theorem openSeamKept : Obligations.OpenSeamKept := by
  intro s t hc hs e k
  obtain ⟨-, -, origin⟩ := hc k
  have sound : (s.seam k).Sound := (soundSeam_iff s k).mpr ⟨origin, hs k⟩
  have kept : (t.seam k).Sound := ((step_run e).moves k).head_induction_on
    (motive := fun v _ => v.Sound → (t.seam k).Sound) id (fun m _ ih hv => ih (m.keeps_sound hv)) sound
  exact ((soundSeam_iff t k).mp kept).2

end Sys2Proof.Machine

namespace Sys2Proof.Machine

/-! ## Requests: rules their statements share -/

/-- A request sent to a present head is taken by it, once RESET is negated (R183, R190). -/
theorem running_forHead (kind : Byte) (h : Head) (take : Head → State → State) (s : State)
    (hr : s.pins.reset = false) (hp : s.present h = true) :
    running (forHead kind (headCode h) take) s = .next (take h s) := by
  have e : forHead kind (headCode h) take s = take h s := by cases h <;> exact forHead_present kind _ take s hp
  rw [running_negated _ s hr, e]

/-- The reply of a statement is the answer of the model. -/
theorem answer_eq_replied (kind : Byte) (st : Status) (d : List Byte) (s : State) :
    answer kind st d s = replied s kind st d := rfl

@[simp] theorem firstFailure_nil : firstFailure [] = none := rfl

/-- A table of checks is gone through from its front. -/
@[simp] theorem firstFailure_cons (b : Bool) (st : Status) (rest : List (Bool × Status)) :
    firstFailure ((b, st) :: rest) = if b then firstFailure rest else some st := by
  cases b <;> simp [firstFailure]

/-! ### A head's change of state, seen from the governor and from the other head -/

theorem HeadState.not_hold_of_idle {st : HeadState} (he : st.engaged = false) : st.demand ≠ .hold := by
  revert he
  cases st <;> decide

theorem anyEngaged_eq (h : Head) (s : State) :
    s.anyEngaged = ((s.headState h).engaged || (s.headState h.other).engaged) := by
  cases h
  · rfl
  · exact Bool.or_comm _ _

/-- A head that enters a state whose demand is not HOLD leaves the other head as it is. -/
theorem setHeadState_other_of_not_hold (h : Head) {st : HeadState} (s : State) (hd : st.demand ≠ .hold) :
    (setHeadState h st s).head h.other = s.head h.other :=
  setHeadState_other h st s fun y => hd y.1

theorem setHeadState_gov_of_not_hold (h : Head) {st : HeadState} (s : State) (hd : st.demand ≠ .hold) :
    (setHeadState h st s).gov = (takeEngagement ((s.onSeq h fun q =>
      { q with state := st, raising := q.raising && st.raises }).onTravel h fun t => t.entering st)).gov := by
  unfold setHeadState
  dsimp only
  rw [if_neg fun y => hd y.1]

/-- What engagement does to the governor (R85). -/
theorem takeEngagement_gov (s : State) : (takeEngagement s).gov =
    if s.anyEngaged then s.gov.taken else if s.gov.owned then { s.gov with owned := false, speed := 0 } else s.gov := by
  unfold takeEngagement Governor.taken
  split <;> split <;> rfl

/-- A head that enters a state outside engagement leaves the travel output (R85). -/
theorem setHeadState_gov_idle (h : Head) {st : HeadState} (s : State) (he : st.engaged = false) :
    (setHeadState h st s).gov = s.gov.left (s.headState h.other).engaged := by
  rw [setHeadState_gov_of_not_hold h s (HeadState.not_hold_of_idle he), takeEngagement_gov, anyEngaged_eq h]
  cases ho : (s.headState h.other).engaged <;> simp_all [State.headState, Governor.left]

/-- A head that enters an engaged state without a HOLD finds the travel output taken (R85). -/
theorem setHeadState_gov_engaged (h : Head) {st : HeadState} (s : State) (he : st.engaged = true)
    (hd : st.demand ≠ .hold) : (setHeadState h st s).gov = s.gov.taken := by
  rw [setHeadState_gov_of_not_hold h s hd, takeEngagement_gov, anyEngaged_eq h]
  simp [State.headState, he]

/-- What a head outside welding keeps of the governor's items (R91, R105). -/
theorem HeadTravel.entering_rest (t : HeadTravel) {st : HeadState} (hw : st.welding = false) :
    t.entering st = ⟨0, 0, 0⟩ := by
  have hp : st ≠ .pause := by rintro rfl; cases hw
  simp [HeadTravel.entering, hw, hp]

/-! ### Records -/

/-- A record changes the log of its head and nothing else of it. -/
theorem createRecord_self (h : Head) (b : RecordBody) (co : Bool) (s : State) :
    (createRecord h b co s).head h = { s.head h with log := ((createRecord h b co s).head h).log } := by
  unfold createRecord
  split
  · split <;> simp
  · rfl

/-- Counting changes the log of its head and nothing else of it. -/
theorem countHead_self (h : Head) (f : HeadCounters → HeadCounters) (s : State) :
    (countHead h f s).head h = { s.head h with log := ((countHead h f s).head h).log } := by
  unfold countHead
  split <;> simp

/-- An event record joins the log as the statements have it, whatever else of the state has changed. -/
theorem createRecord_logWith (h : Head) (b : RecordBody) {s t : State} (hp : t.present h = s.present h)
    (hc : t.commonUsed = s.commonUsed) (hl : (t.head h).log = (s.head h).log) :
    ((createRecord h b false t).head h).log = logWith h b s :=
  createRecord_log_congr h b false s t hp hc hl

/-- The common slots used rest on the two queues. -/
theorem commonUsed_congr {s t : State} (e : ∀ k, (t.head k).log.queue = (s.head k).log.queue) :
    t.commonUsed = s.commonUsed := by
  have a := e .a
  have b := e .b
  simp only [State.head] at a b
  simp [State.commonUsed, HeadLog.commonUsed, a, b]

/-- A record and what it counts, as the statements have them. -/
theorem countHead_logCounted (h : Head) (b : RecordBody) (f : HeadCounters → HeadCounters) {s t : State}
    (hp : t.present h = s.present h) (hc : t.commonUsed = s.commonUsed) (hl : (t.head h).log = (s.head h).log) :
    ((countHead h f (createRecord h b false t)).head h).log = logCounted h b f s := by
  have e := createRecord_logWith h b hp hc hl
  unfold logCounted
  split
  · rename_i hs
    rw [countHead_log h f _ (by simpa [hp] using hs), e]
  · rename_i hs
    rw [countHead_absent h f _ (by simpa [hp] using hs), e]

/-- A head that enters a state without a HOLD writes no record. -/
theorem setHeadState_log_of_not_hold (h k : Head) {st : HeadState} (s : State) (hd : st.demand ≠ .hold) :
    ((setHeadState h st s).head k).log = (s.head k).log := by
  rcases head_cases h k with rfl | rfl
  · simp [setHeadState_self]
  · rw [setHeadState_other_of_not_hold h s hd]

@[simp] theorem withFree_head (s : State) (n : Nat) (k : Head) : ({ s with free := n } : State).head k = s.head k := by
  cases k <;> rfl
@[simp] theorem withFree_present (s : State) (n : Nat) (k : Head) :
    ({ s with free := n } : State).present k = s.present k := by cases k <;> rfl
@[simp] theorem withFree_commonUsed (s : State) (n : Nat) : ({ s with free := n } : State).commonUsed = s.commonUsed := rfl

/-! ## CLEAR PLAN and ABANDON SEAM (R23, R24, R55) -/

theorem readyOrCalDue_idle (q : Sequencer) : (readyOrCalDue q).engaged = false ∧ (readyOrCalDue q).raises = true ∧
    (readyOrCalDue q).welding = false := by
  rcases readyOrCalDue_cases q with e | e <;> rw [e] <;> decide

/-- A seam abandoned on a changed plan: its record, the state after it, and nothing else (R23, R55). -/
theorem abandon_spec (h : Head) (n : Nat) (f : PlanStore → PlanStore) (s : State) :
    let t := abandon h n (s.onPlan h f)
    SameRest s t ∧ t.port = s.port ∧ t.gov = s.gov.left (s.headState h.other).engaged ∧
    t.head h.other = s.head h.other ∧
    t.head h = { s.head h with
      seq := { (s.head h).seq with state := if (s.head h).seq.budget = 0 then .calDue else .ready }
      plan := f (s.head h).plan
      travel := ⟨0, 0, 0⟩
      log := logWith h (.abandoned n (s.head h).seq.interruptStation (s.head h).seq.cause) s } := by
  obtain ⟨he, hr, hw⟩ := readyOrCalDue_idle (s.head h).seq
  refine ⟨by simp [SameRest, abandon], by simp [abandon], ?_, ?_, ?_⟩
  · simp [abandon, setHeadState_gov_idle h _ he]
  · simp [abandon, setHeadState_other_of_not_hold h _ (HeadState.not_hold_of_idle he)]
  · have log := createRecord_logWith h (.abandoned n (s.head h).seq.interruptStation (s.head h).seq.cause)
      (s := s) (t := s.onPlan h f) (by simp) (by simp) (by simp)
    rw [show (if (s.head h).seq.budget = 0 then HeadState.calDue else .ready) = readyOrCalDue (s.head h).seq from rfl]
    simp only [abandon, setHeadState_self]
    rw [createRecord_self]
    simp [log, HeadTravel.entering_rest _ hw, hr]

/-- Settles O25: the branches of CLEAR PLAN by the head's state. -/
theorem clearPlanEmptiesPlan : Obligations.ClearPlanEmptiesPlan := by
  intro h s hr hp
  have taken : exec (.clearPlan (headCode h)) s = .next (takeClearPlan h s) := running_forHead 0x09 h takeClearPlan s hr hp
  refine ⟨fun hs => ?_, fun hs => ?_, fun hs => ?_⟩
  · refine ⟨s.onPlan h PlanStore.cleared, ?_, by simp [SameRest], by simp, by simp, by simp,
      by simp [PlanStore.cleared]⟩
    rw [taken, takeClearPlan]
    rcases hs with e | e | e | e <;> rw [e] <;> rfl
  · refine ⟨abandon h (s.head h).plan.queue.length (s.onPlan h PlanStore.cleared), ?_, abandon_spec h _ _ s⟩
    rw [taken, takeClearPlan, hs]
    rfl
  · rw [taken, takeClearPlan]
    cases e : s.headState h <;> simp_all [HeadState.engaged, answer_eq_replied]

/-- Behind a seam that the queue holds up to its EXIT segment stands what the statement calls the rest (R24). -/
theorem afterSeam_append (before : List Segment) (g : Segment) (rest : List Segment) (hg : g.endAction = .exit)
    (hb : ∀ b ∈ before, b.endAction = .carryOn) : afterSeam (before ++ [g] ++ rest) = rest := by
  induction before with
  | nil => simp [afterSeam, hg]
  | cons b before ih =>
    have hb0 : b.endAction = .carryOn := hb b (by simp)
    simpa [afterSeam, hb0] using ih fun x hx => hb x (by simp [hx])

/-- A queue without an EXIT segment is the seam's whole (R24). -/
theorem afterSeam_carryOn (q : List Segment) (hq : ∀ b ∈ q, b.endAction = .carryOn) : afterSeam q = [] := by
  induction q with
  | nil => rfl
  | cons b rest ih =>
    have hb : b.endAction = .carryOn := hq b (by simp)
    simpa [afterSeam, hb] using ih fun x hx => hq x (by simp [hx])

/-- Settles O22: the seam that leaves the queue is the front that `afterSeam` drops. -/
theorem abandonSeamRemovesSeam : Obligations.AbandonSeamRemovesSeam := by
  intro h s hr hp
  have taken : exec (.abandonSeam (headCode h)) s = .next (takeAbandonSeam h s) :=
    running_forHead 0x06 h takeAbandonSeam s hr hp
  refine ⟨fun hs => ?_, fun gone rest hs hq hg => ?_⟩
  · rw [taken, takeAbandonSeam, if_neg hs]
    rfl
  · have left : afterSeam (gone ++ rest) = rest := by
      rcases hg with ⟨before, g, rfl, he, hb⟩ | ⟨rfl, hb⟩
      · exact afterSeam_append before g rest he hb
      · simpa using afterSeam_carryOn gone hb
    have removed : (gone ++ rest).length - rest.length = gone.length := by simp
    refine ⟨abandon h gone.length (s.onPlan h fun p => { p with queue := rest, retained := none }), ?_,
      abandon_spec h _ _ s⟩
    rw [taken, takeAbandonSeam, if_pos hs]
    dsimp only
    rw [hq, left, removed]
    rfl

/-! ## RESET HEAD (R58) -/

theorem stateAfterReset_eq (q : Sequencer) : stateAfterReset q =
    if q.state = .uncommissioned ∨ q.state = .commissioning then q.state
    else if q.budget = 0 then .calDue else .ready := by
  unfold stateAfterReset readyOrCalDue
  cases q.state <;> simp

theorem stateAfterReset_idle (q : Sequencer) : (stateAfterReset q).engaged = false ∧ (stateAfterReset q).raises = true ∧
    (stateAfterReset q).welding = false := by
  unfold stateAfterReset
  cases q.state
  case uncommissioned | commissioning => exact ⟨rfl, rfl, rfl⟩
  all_goals exact readyOrCalDue_idle q

/-- Settles O23: each block's reset, then the change of state. -/
theorem resetHeadClearsHead : Obligations.ResetHeadClearsHead := by
  intro h s hr hp
  have taken : exec (.resetHead (headCode h)) s = .next (takeResetHead h s) := running_forHead 0x07 h takeResetHead s hr hp
  obtain ⟨he, hi, hw⟩ := stateAfterReset_idle (s.head h).seq
  have own := setHeadState_self h (stateAfterReset (s.head h).seq) (s.onHead h HeadUnit.reset)
  rw [onHead_self] at own
  refine ⟨fun hs => ?_, fun hs => ⟨setHeadState h (stateAfterReset (s.head h).seq) (s.onHead h HeadUnit.reset), ?_, ?_⟩⟩
  · rw [taken, takeResetHead, if_pos hs]
    rfl
  · rw [taken, takeResetHead, if_neg (by simp [hs])]
    rfl
  · refine ⟨by simp [SameRest], by simp, ?_, ?_, ?_⟩
    · simp [setHeadState_gov_idle h _ he, State.headState]
    · simp [setHeadState_other_of_not_hold h _ (HeadState.not_hold_of_idle he)]
    rw [own]
    refine ⟨?_, rfl, rfl, rfl, fun c => ?_, HeadTravel.entering_rest _ hw, rfl, rfl, rfl, rfl⟩
    · simp only [HeadUnit.reset, Sequencer.reset, hi, Bool.and_true, CalAccumulator.clear]
      rw [stateAfterReset_eq]
      rfl
    · cases c <;> simp [HeadUnit.reset, FrontEnd.reset, FrontEnd.get, Channel.reset]

/-! ## Tables of checks -/

/-- A check that fails answers, and the checks after it are not looked at. -/
theorem firstFailure_elim_cons {α : Type} (b : Bool) (st : Status) (rest : List (Bool × Status)) (x : α)
    (f : Status → α) : (firstFailure ((b, st) :: rest)).elim x f = if b then (firstFailure rest).elim x f else f st := by
  cases b <;> simp

theorem firstFailure_elim_nil {α : Type} (x : α) (f : Status → α) : (firstFailure []).elim x f = x := rfl

/-- Every check passes when none fails. -/
theorem firstFailure_none_iff (b : Bool) (st : Status) (rest : List (Bool × Status)) :
    firstFailure ((b, st) :: rest) = none ↔ b = true ∧ firstFailure rest = none := by
  cases b <;> simp

/-- One spelling of a test on a Boolean. -/
theorem ite_eq_false_swap {α : Type} (b : Bool) (x y : α) :
    (if b = false then x else y) = if b = true then y else x := by cases b <;> rfl

/-! ## RESTART SEAM (R51 to R53) -/

/-- The part's checks and those of the statement fail together, in one order (R51). -/
theorem takeRestartSeam_eq (overlap : Nat) (h : Head) (s : State) : takeRestartSeam overlap h s =
    (firstFailure (restartChecks h s)).elim
      (answer 0x05 (okOr (reentryClamped (s.head h).plan (s.head h).seq.interruptStation overlap))
        (leBytes 3 (reentryStation (s.head h).plan (s.head h).seq.interruptStation overlap) ++
          leBytes 2 ((s.head h).seq.interruptStation -
            reentryStation (s.head h).plan (s.head h).seq.interruptStation overlap))
        (beginReentry h (reentryStation (s.head h).plan (s.head h).seq.interruptStation overlap) s))
      fun st => answer 0x05 st [] s := by
  have sensors : s.sensorsSound h = !s.sensorFaulted h := rfl
  have drives (d : DriveInputs) : d.everyReady = d.allReady := rfl
  have busy : (s.present h.other && (s.headState h.other).engaged) = s.otherEngaged h := rfl
  unfold takeRestartSeam restartChecks
  simp only [firstFailure_elim_cons, firstFailure_elim_nil, sensors, drives, busy, ne_eq, ite_not, beq_iff_eq,
    Bool.not_eq_true', ite_eq_false_swap]

/-- The re-entry station: the interrupt station less the clamped overlap, raised to the bound where there is one (R52). -/
theorem reentryStation_of_bound {p : PlanStore} {b : Int} (hb : p.reentryBound = some b) (interrupt : Int)
    (overlap : Nat) : reentryStation p interrupt overlap = max b (interrupt - max 200 (min 1000 (overlap : Int))) := by
  simp [reentryStation, hb, clampInt]

theorem okOr_reentryClamped {p : PlanStore} {b : Int} (hb : p.reentryBound = some b) (interrupt : Int) (overlap : Nat) :
    okOr (reentryClamped p interrupt overlap) =
      if overlap < 200 ∨ 1000 < overlap ∨ interrupt - max 200 (min 1000 (overlap : Int)) < b then .okClamped else .ok := by
  unfold okOr reentryClamped
  rw [reentryStation_of_bound hb, clampInt]
  simp only [ne_eq, Bool.or_eq_true, decide_eq_true_eq]
  congr 1
  simp only [eq_iff_iff]
  omega

/-- The begin of a re-entry, block by block (R21, R52, R53). -/
theorem beginReentry_spec (h : Head) (station : Int) (s : State) :
    ∃ named, (∀ g, ((s.head h).plan.reinstate station).inForce = some g → named = ⟨g.id, some g.zone⟩) ∧
      let t := beginReentry h station s
      SameRest s t ∧ t.port = s.port ∧ t.gov = s.gov.taken ∧ t.head h.other = s.head h.other ∧
      t.head h = { s.head h with
        seq := { (s.head h).seq with
          state := .approach, raising := false, kind := .reentry, target := station, reentryStation := station
          direction := if station < s.toolStation h then .reverse else .forward }
        plan := (s.head h).plan.reinstate station
        track := (s.head h).track.emptied
        travel := ⟨0, 0, 0⟩
        log := logCounted h (.reentry (s.head h).seq.interruptStation (s.head h).seq.cause station
          ((s.head h).seq.interruptStation - station) named) (fun c => { c with reentries := bump c.reentries }) s } := by
  have hd : HeadState.approach.demand ≠ .hold := by decide
  unfold beginReentry
  extract_lets q direction s1 s2 s3 s4 t
  obtain ⟨named, n, hn, e⟩ := reportInForce_eq h
    (fun g => .reentry q.interruptStation q.cause station (q.interruptStation - station) g) s3
  have plan : (s3.head h).plan = (s.head h).plan.reinstate station := by simp [s3, s2, s1]
  have log (k : Head) : (s3.head k).log = (s.head k).log := by
    simp [s3, setHeadState_log_of_not_hold h k s2 hd, s2, s1]
  have own := countHead_logCounted h (.reentry q.interruptStation q.cause station (q.interruptStation - station) named)
    (fun c => { c with reentries := bump c.reentries }) (s := s) (t := { s3 with free := n }) (by rw [withFree_present]; simp [s3, s2, s1])
    (commonUsed_congr fun k => by simp [log k]) (by simp [log h])
  have self : s3.head h = { s.head h with
      seq := { (s.head h).seq with
        state := .approach, raising := false, kind := .reentry, target := station, reentryStation := station
        direction := direction }
      plan := (s.head h).plan.reinstate station
      track := (s.head h).track.emptied
      travel := ⟨0, 0, 0⟩ } := by
    simp [s3, s2, s1, setHeadState_self, emptyTrack, Tracking.emptied, HeadState.raises,
      HeadTravel.entering_rest _ (show HeadState.approach.welding = false from rfl)]
  refine ⟨named, fun g hg => hn g (plan ▸ hg), ?_⟩
  have ht : t = countHead h (fun c => { c with reentries := bump c.reentries }) (createRecord h
      (.reentry q.interruptStation q.cause station (q.interruptStation - station) named) false { s3 with free := n }) :=
    congrArg (countHead h _) e
  rw [ht]
  refine ⟨by simp [SameRest, s3, s2, s1], by simp [s3, s2, s1], ?_, ?_, ?_⟩
  · simp [s3, s2, s1, setHeadState_gov_engaged h _ (show HeadState.approach.engaged = true from rfl) hd]
  · rw [countHead_other, createRecord_other, withFree_head]
    simp [s3, s2, s1, setHeadState_other_of_not_hold h _ hd]
  · rw [countHead_self, own, createRecord_self, withFree_head, self]

/-- The bound of R52, read off the plan as the statement reads it. -/
theorem reentryBound_of {p : PlanStore} {bound : Nat}
    (hb : match p.retained with
      | some g => if g.endAction = .carryOn then bound = g.start else ∃ c, p.current = some c ∧ bound = c.start
      | none => ∃ c, p.current = some c ∧ bound = c.start) : p.reentryBound = some (bound : Int) := by
  cases hr : p.retained with
  | none =>
    rw [hr] at hb
    obtain ⟨c, hc, rfl⟩ := hb
    simp [PlanStore.reentryBound, PlanStore.openRetained, hr, hc]
  | some g =>
    rw [hr] at hb
    dsimp only at hb
    split at hb
    · rename_i ha
      simp [PlanStore.reentryBound, PlanStore.openRetained, hr, Option.filter_some, ha, hb]
    · rename_i ha
      obtain ⟨c, hc, rfl⟩ := hb
      simp [PlanStore.reentryBound, PlanStore.openRetained, hr, Option.filter_some, ha, hc]

theorem reinstate_eq (p : PlanStore) (station : Int) : p.reinstate station =
    match p.retained with
    | some g =>
      if g.endAction = .carryOn ∧ (g.start : Int) ≤ station ∧ station < ((g.start + g.length : Nat) : Int) then
        { p with queue := g :: p.queue, retained := none }
      else p
    | none => p := by
  unfold PlanStore.reinstate PlanStore.openRetained
  cases p.retained with
  | none => rfl
  | some g => cases ha : g.endAction <;> simp [Option.filter_some, ha, Segment.endStation]

/-- Settles O21: the table of checks, then the re-entry station and its begin. -/
theorem restartSeamTaken : Obligations.RestartSeamTaken := by
  intro h overlap s hr hp
  have taken : exec (.restartSeam (headCode h) overlap) s = .next (takeRestartSeam overlap h s) :=
    running_forHead 0x05 h (takeRestartSeam overlap) s hr hp
  rw [taken, takeRestartSeam_eq]
  refine ⟨fun st hf => by rw [hf]; rfl, fun bound hf hb => ?_⟩
  have hb' := reentryBound_of hb
  intro wanted station plan overlapMade
  have hplan : plan = (s.head h).plan.reinstate station := (reinstate_eq _ _).symm
  obtain ⟨named, hn, hrest⟩ := beginReentry_spec h station s
  refine ⟨beginReentry h station s, named, ?_, fun g hg => hn g (hplan ▸ hg), ?_⟩
  · rw [hf, okOr_reentryClamped hb', reentryStation_of_bound hb']
    rfl
  · rw [hplan]
    exact hrest

/-! ## The limits of R4 -/

/-- Lowering to a limit, in the words of the statements. -/
theorem lowerTo_eq_lowered {α : Type} (limit : α → Nat) (set : Option α) (v : Nat) :
    lowerTo limit set v = lowered set limit v := by
  cases set with
  | none => rfl
  | some p => simp only [lowerTo, lowered]; split <;> omega

/-- Raising to a limit, in the words of the statements. -/
theorem raiseTo_eq_raised {α : Type} (limit : α → Nat) (set : Option α) (v : Nat) :
    raiseTo limit set v = raised set limit v := by
  cases set with
  | none => rfl
  | some p => simp only [raiseTo, raised]; split <;> omega

/-- The re-clamp, in the words of the statements (R5). -/
theorem reclampSegment_eq_reclamped (p : ProfileStore) (g : Segment) : reclampSegment p g = reclamped p g := by
  simp only [reclampSegment, clampSegment, reclamped, lowerTo_eq_lowered, raiseTo_eq_raised]
  split
  · rename_i hc; rw [if_neg (by omega)]
  · rename_i hc; rw [if_pos (by omega)]

/-! ## APPEND SEGMENT (R7) -/

theorem zoneOf_code {n : Nat} {z : Zone} (hz : z.code = n) : zoneOf n = some z := by subst hz; cases z <;> rfl

theorem switchOf_bit {n : Nat} {b : Bool} (hb : bit b = n) : switchOf n = some b := by subst hb; cases b <;> rfl

theorem gapActionOf_code {n : Nat} {a : GapAction} (ha : a.code = n) : gapActionOf n = some a := by
  subst ha; cases a <;> rfl

theorem endActionOf_code {n : Nat} {a : EndAction} (ha : a.code = n) : endActionOf n = some a := by
  subst ha; cases a <;> rfl

theorem zoneOf_le {n : Nat} {z : Zone} (hz : zoneOf n = some z) : n ≤ 3 := by
  rcases n with _ | _ | _ | _ | n <;> simp [zoneOf] at hz ⊢

theorem switchOf_le {n : Nat} {b : Bool} (hb : switchOf n = some b) : n ≤ 1 := by
  rcases n with _ | _ | n <;> simp [switchOf] at hb ⊢

theorem gapActionOf_le {n : Nat} {a : GapAction} (ha : gapActionOf n = some a) : n ≤ 1 := by
  rcases n with _ | _ | n <;> simp [gapActionOf] at ha ⊢

theorem endActionOf_le {n : Nat} {a : EndAction} (ha : endActionOf n = some a) : n ≤ 1 := by
  rcases n with _ | _ | n <;> simp [endActionOf] at ha ⊢

/-- A record outside its ranges fails the encoding check (R3). -/
theorem checkSegment_none {r : SegmentRecord} (hr : recordInRange r = false) : checkSegment r = none := by
  unfold checkSegment
  split
  · rename_i z b a e hz hb ha he
    refine if_neg fun hc => ?_
    have in_range : recordInRange r = true := by
      simp only [recordInRange, Bool.and_eq_true, decide_eq_true_eq]
      have := zoneOf_le hz
      have := switchOf_le hb
      have := gapActionOf_le ha
      have := endActionOf_le he
      omega
    exact absurd (hr.symm.trans in_range) (by decide)
  · rfl

/-- A record within its ranges passes the encoding check, and its clamps give the stored segment (R3, R4). -/
theorem checkSegment_some {p : ProfileStore} {r : SegmentRecord} {g : Segment} (hr : recordInRange r = true)
    (hg : ClampedFrom p r g) :
    ∃ raw, checkSegment r = some raw ∧ clampSegment p raw = g ∧ raw.force = r.force ∧ raw.spindle = r.spindle ∧
      raw.cap = r.cap ∧ raw.windowMin = r.windowMin ∧ raw.windowMax = r.windowMax := by
  obtain ⟨hid, hstart, hlength, hz, ht, ha, he, hforce, hspindle, hcap, hmin, hmax⟩ := hg
  let raw : Segment :=
    { g with force := r.force, spindle := r.spindle, cap := r.cap, windowMin := r.windowMin, windowMax := r.windowMax }
  refine ⟨raw, ?_, ?_, rfl, rfl, rfl, rfl, rfl⟩
  · simp only [checkSegment, zoneOf_code hz, switchOf_bit ht, gapActionOf_code ha, endActionOf_code he]
    simp only [recordInRange, Bool.and_eq_true, decide_eq_true_eq] at hr
    rw [if_pos (by omega), ← hid, ← hstart, ← hlength]
  · simp only [raw, clampSegment, lowerTo_eq_lowered, raiseTo_eq_raised, ← hforce, ← hspindle, ← hcap, ← hmin, ← hmax]

/-- The contiguity check, in the words of the statements (R8). -/
theorem joins_eq (p : PlanStore) (g : Segment) : p.joins g = !p.contiguityReference.any (· ≠ g.start) := by
  have flip (n : Nat) : (g.start == n) = decide (n = g.start) := by simp [beq_eq_decide, eq_comm]
  unfold PlanStore.joins PlanStore.contiguityReference PlanStore.openRetained
  cases p.queue.getLast? with
  | some l => simp [Segment.endStation, flip]
  | none =>
    cases p.retained with
    | none => rfl
    | some k => cases ha : k.endAction <;> simp [Option.filter_some, ha, Segment.endStation, flip]

/-- The checks on the clamped segment fail together with those of the statement (R7). -/
theorem takeClampedSegment_eq (h : Head) (g : Segment) (mask : Nat) (s : State) : takeClampedSegment h g mask s =
    (firstFailure (appendChecks (s.head h).plan g)).elim
      (answer 0x08 (okOr (mask ≠ 0)) (leBytes 1 mask ++ leBytes 1 ((s.head h).plan.queue.length + 1 : Nat))
        (appendToPlan h g s))
      fun st => answer 0x08 st
        (if st = .badField then [] else leBytes 1 mask ++ leBytes 1 (s.head h).plan.queue.length) s := by
  unfold takeClampedSegment appendChecks
  simp only [firstFailure_elim_cons, firstFailure_elim_nil, joins_eq, Config.appendCapacity]
  by_cases hw : g.windowMax ≤ g.windowMin
  · simp [hw]
  by_cases hl : 48 ≤ (s.head h).plan.queue.length
  · simp [hw, hl, Nat.not_le.mp hw]
  · cases (s.head h).plan.contiguityReference.any (· ≠ g.start) <;> simp [hw, hl, Nat.not_le.mp hw, Nat.not_le.mp hl]

/-- The append itself, block by block (R7, R18). -/
theorem appendToPlan_spec (h : Head) (g : Segment) (s : State) :
    let resumes : Bool := (s.head h).plan.starved.isSome && s.toolStation h < ((g.start + g.length : Nat) : Int)
    let t := appendToPlan h g s
    SameRest s t ∧ t.port = s.port ∧ t.gov = s.gov ∧ t.head h.other = s.head h.other ∧
    t.head h = { s.head h with
      plan := { (s.head h).plan with
        queue := (s.head h).plan.queue ++ [g], starved := if resumes then none else (s.head h).plan.starved }
      log := if resumes then logWith h (.planResumed ⟨g.id, some g.zone⟩ (s.head h).plan.distanceUsed) s
        else (s.head h).log } := by
  intro resumes t
  by_cases hs : (s.head h).plan.starved.isSome = true ∧ s.toolStation h < (g.endStation : Int)
  · have hr : resumes = true := by simpa [resumes, Segment.endStation] using hs
    have ht : t = createRecord h (.planResumed g.ref (s.head h).plan.distanceUsed) false
        (endStarvation h (s.onPlan h fun p => { p with queue := p.queue ++ [g] })) := if_pos hs
    have log := createRecord_logWith h (.planResumed g.ref (s.head h).plan.distanceUsed) (s := s)
      (t := endStarvation h (s.onPlan h fun p => { p with queue := p.queue ++ [g] })) (by simp)
      (by simp [endStarvation]) (by simp)
    rw [hr, ht]
    refine ⟨by simp [SameRest], by simp, by simp, by simp, ?_⟩
    rw [createRecord_self, log]
    simp [endStarvation, Segment.ref]
  · have hr : resumes = false := by
      rw [← Bool.not_eq_true]
      simpa [resumes, Segment.endStation] using hs
    have ht : t = s.onPlan h fun p => { p with queue := p.queue ++ [g] } := if_neg hs
    rw [hr, ht]
    exact ⟨by simp [SameRest], by simp, by simp, by simp, by simp⟩

/-- Settles O24: the encoding check, the clamps, the table of checks, and the append. -/
theorem appendSegmentTaken : Obligations.AppendSegmentTaken := by
  intro h r s hr hp
  have taken : exec (.appendSegment (headCode h) r) s = .next (takeAppendSegment r h s) :=
    running_forHead 0x08 h (takeAppendSegment r) s hr hp
  rw [taken]
  refine ⟨fun hs => ?_, fun hs hf => ?_, fun g hs hf hg => ?_⟩
  · rw [takeAppendSegment, if_pos hs]
    rfl
  · rw [takeAppendSegment, if_neg hs, checkSegment_none hf]
    rfl
  · obtain ⟨raw, hraw, hclamp, e1, e2, e3, e4, e5⟩ := checkSegment_some hf hg
    intro queue mask
    have hmask : clampMask raw g = mask := by
      simp only [clampMask, e1, e2, e3, e4, e5, mask]
      simp only [ne_comm]
    have eq : takeAppendSegment r h s = takeClampedSegment h g mask s := by
      rw [takeAppendSegment, if_neg hs, hraw]
      dsimp only
      rw [hclamp, hmask]
    rw [eq, takeClampedSegment_eq]
    refine ⟨fun st hst => by rw [hst]; rfl, fun hst => ⟨appendToPlan h g s, ?_, appendToPlan_spec h g s⟩⟩
    have status : okOr (mask ≠ 0) = if mask = 0 then .ok else .okClamped := by
      unfold okOr
      by_cases hm : mask = 0 <;> simp [hm]
    rw [hst, status]
    rfl

/-! ## LOAD PROFILE (R147 to R151) -/

theorem profileRank_eq_setPlace (load : ProfileLoad) : profileRank load = setPlace load := by cases load <;> rfl

/-- The states that take a load (R149). -/
theorem admitsLoad_eq (st : HeadState) (load : ProfileLoad) : admitsLoad st load =
    (st == .uncommissioned || st == .commissioning || st == .calDue || st == .ready ||
      (st == .interrupted && decide (2 ≤ setPlace load))) := by
  rw [← profileRank_eq_setPlace]
  cases st <;> simp [admitsLoad]

/-- The ranges of R143 to R146, field by field. -/
theorem loadInRange_eq {load : ProfileLoad} (hl : setPlace load < 4) :
    loadInRange load = (fieldRanges load).all fun f => f.2.1 ≤ f.1 && f.1 ≤ f.2.2 := by
  cases load with
  | limits l => simp [loadInRange, limitsInRange, fieldRanges, Bool.and_assoc]
  | tool t => simp [loadInRange, toolInRange, fieldRanges, Bool.and_assoc]
  | regulator r => simp [loadInRange, regulatorInRange, fieldRanges, Bool.and_assoc]
  | travel t => simp [loadInRange, travelInRange, fieldRanges, Bool.and_assoc]
  | unknown => exact absurd hl (Nat.lt_irrefl 4)

/-- The part's checks and those of the statement fail together, in one order (R147). -/
theorem takeLoadProfile_eq (load : ProfileLoad) (h : Head) (s : State) : takeLoadProfile load h s =
    (firstFailure (loadChecks h load s)).elim
      (answer 0x0B (okOr (loadMask (s.head h).profiles load ≠ 0 || dependentMask (s.head h).profiles load ≠ 0))
        (leBytes 2 (loadMask (s.head h).profiles load) ++ leBytes 1 (dependentMask (s.head h).profiles load) ++
          leBytes 1 ((acceptProfile h load s).headState h).code) (acceptProfile h load s))
      fun st => answer 0x0B st [] s := by
  unfold takeLoadProfile loadChecks
  simp only [firstFailure_elim_cons, firstFailure_elim_nil, profileRank_eq_setPlace, admitsLoad_eq]
  by_cases hl : 4 ≤ setPlace load
  · simp [hl, Nat.not_lt.mpr hl]
  · have hlt := Nat.not_le.mp hl
    rw [← loadInRange_eq hlt, ← admitsLoad_eq]
    by_cases hp : (s.head h).profiles.progress < setPlace load
    · cases admitsLoad (s.headState h) load <;> simp [hl, hlt, hp, Nat.not_le.mpr hp]
    · cases admitsLoad (s.headState h) load <;> cases loadInRange load <;> simp [hl, hlt, hp, Nat.not_lt.mp hp]

/-- The store after an accepted set, in the words of the statements (R143 to R145, R148, R150). -/
theorem storeProfile_stored (p : ProfileStore) {load : ProfileLoad} (hl : setPlace load < 4) :
    ProfileStored p load (storeProfile p load) := by
  have below (a b : Nat) : min a (b - 1) = if b ≤ a then b - 1 else a := by split <;> omega
  have lower (a b : Nat) : min a b = if b < a then b else a := by split <;> omega
  have next (n : Nat) : (if n = p.progress then p.progress + 1 else p.progress) =
      if p.progress = n then n + 1 else p.progress := by split <;> split <;> omega
  cases load with
  | limits l =>
    refine ⟨?_, ?_, ?_, rfl, next 0⟩
    · simp only [storeProfile, settleLimits, below]
    · exact congrArg (p.tool.map ·) (funext fun t => by simp only [dependentTool, settleLimits, lower])
    · exact congrArg (p.regulator.map ·) (funext fun r => by
        simp only [settleRegulator, settleLimits, lowerTo, below])
  | tool t =>
    refine ⟨?_, rfl, rfl, rfl, next 1⟩
    simp only [storeProfile, settleTool, lowerTo_eq_lowered, lower]
  | regulator r =>
    refine ⟨?_, rfl, rfl, rfl, next 2⟩
    simp only [storeProfile, settleRegulator, lowerTo_eq_lowered]
  | travel t => exact ⟨rfl, rfl, rfl, rfl, next 3⟩
  | unknown => exact absurd hl (Nat.lt_irrefl 4)

theorem loadMask_eq_loadClamps (p : ProfileStore) (load : ProfileLoad) :
    loadMask p load = loadClamps (storeProfile p load) load := by cases load <;> rfl

theorem dependentMask_eq (p : ProfileStore) (load : ProfileLoad) : dependentMask p load =
    if setPlace load = 0 then
      bit ((storeProfile p load).tool ≠ p.tool) + 2 * bit ((storeProfile p load).regulator ≠ p.regulator)
    else 0 := by cases load <;> rfl

/-- The head state after an accepted set, by the place of the set (R148, R149). -/
theorem stateAfterLoad_eq (st : HeadState) (progress : Nat) (load : ProfileLoad) : stateAfterLoad st progress load =
    if setPlace load = 0 ∧ st = .uncommissioned then .commissioning
    else if setPlace load ≤ 1 ∧ st = .ready then .calDue
    else if setPlace load = 3 ∧ progress = 3 then .calDue
    else st := by cases load <;> simp [stateAfterLoad, setPlace]

/-- A state that admits a load leads to one that is not engaged and in which the raise runs. -/
theorem stateAfterLoad_idle {st : HeadState} {load : ProfileLoad} (ha : admitsLoad st load = true) (n : Nat) :
    (stateAfterLoad st n load).engaged = false ∧ (stateAfterLoad st n load).raises = true ∧
      (stateAfterLoad st n load).welding = false := by
  have own : st.engaged = false ∧ st.raises = true ∧ st.welding = false := by
    revert ha
    cases st <;> simp [admitsLoad, HeadState.engaged, HeadState.raises, HeadState.welding]
  rcases stateAfterLoad_cases st n load with e | e | e <;> rw [e]
  · exact own
  · decide
  · decide

/-- An accepted set, block by block (R5, R148, R149, R151). -/
theorem acceptProfile_spec (h : Head) (load : ProfileLoad) (s : State) (ha : admitsLoad (s.headState h) load = true) :
    let new := storeProfile (s.head h).profiles load
    let st := s.headState h
    let t := acceptProfile h load s
    SameRest s t ∧ t.port = s.port ∧ t.gov = s.gov.left (s.headState h.other).engaged ∧
    t.head h.other = s.head h.other ∧
    t.head h = { s.head h with
      seq := { (s.head h).seq with
        state := stateAfterLoad st (s.head h).profiles.progress load
        budget := if setPlace load ≤ 1 ∧ (st = .ready ∨ st = .calDue) then 0 else (s.head h).seq.budget }
      plan := if setPlace load = 2 then (s.head h).plan else { (s.head h).plan with
        queue := (s.head h).plan.queue.map (reclamped new)
        retained := (s.head h).plan.retained.map (reclamped new) }
      profiles := new
      travel := ⟨0, 0, 0⟩ } := by
  obtain ⟨he, hi, hw⟩ := stateAfterLoad_idle ha (s.head h).profiles.progress
  have clamp (p : ProfileStore) : reclampSegment p = reclamped p := funext (reclampSegment_eq_reclamped p)
  intro new st t
  have invalid : invalidates st load = true ↔ setPlace load ≤ 1 ∧ (st = .ready ∨ st = .calDue) := by
    simp [invalidates, profileRank_eq_setPlace]
  have ht : t = setHeadState h (stateAfterLoad st (s.head h).profiles.progress load)
      (if invalidates st load then
        (if profileRank load = 2 then s.onProfiles h fun _ => new
          else (s.onProfiles h fun _ => new).onPlan h (reclampPlan new)).onSeq h fun q => { q with budget := 0 }
      else if profileRank load = 2 then s.onProfiles h fun _ => new
        else (s.onProfiles h fun _ => new).onPlan h (reclampPlan new)) := rfl
  rw [profileRank_eq_setPlace] at ht
  rw [ht]
  refine ⟨?_, ?_, ?_, ?_, ?_⟩
  · unfold SameRest; split <;> split <;> simp
  · split <;> split <;> simp
  · rw [setHeadState_gov_idle h _ he]; split <;> split <;> simp [State.headState]
  · rw [setHeadState_other_of_not_hold h _ (HeadState.not_hold_of_idle he)]; split <;> split <;> simp
  · rw [setHeadState_self, HeadTravel.entering_rest _ hw, hi]
    simp only [← invalid]
    by_cases hn : invalidates st load = true <;> by_cases h2 : setPlace load = 2 <;>
      simp [hn, h2, st, reclampPlan, clamp]

/-- Settles O26: the table of checks, then the accepted set. -/
theorem loadProfileTaken : Obligations.LoadProfileTaken := by
  intro h load s hr hp
  have taken : exec (.loadProfile (headCode h) load) s = .next (takeLoadProfile load h s) :=
    running_forHead 0x0B h (takeLoadProfile load) s hr hp
  rw [taken, takeLoadProfile_eq]
  refine ⟨fun st hf => by rw [hf]; rfl, fun hf => ?_⟩
  have hf' := hf
  simp only [loadChecks, firstFailure_none_iff, decide_eq_true_eq, ← admitsLoad_eq] at hf'
  obtain ⟨hl, ha, -⟩ := hf'
  intro old st after
  have state : stateAfterLoad st old.progress load = after := stateAfterLoad_eq ..
  have entered : (acceptProfile h load s).headState h = after := state ▸ setHeadState_headState ..
  have status (m d : Nat) : okOr (m ≠ 0 || d ≠ 0) = if m = 0 ∧ d = 0 then .ok else .okClamped := by
    unfold okOr
    by_cases hm : m = 0 <;> by_cases hd : d = 0 <;> simp [hm, hd]
  refine ⟨acceptProfile h load s, storeProfile old load, storeProfile_stored old hl, ?_, ?_⟩
  · rw [hf, status, entered, loadMask_eq_loadClamps, dependentMask_eq]
    rfl
  · rw [← state]
    exact acceptProfile_spec h load s ha

/-! ## The requests that read (R25, R140, R152, R188) -/

@[simp] theorem leBytes_length (n : Nat) (v : Int) : (leBytes n v).length = n := by
  induction n generalizing v with
  | zero => rfl
  | succ n ih => simp [leBytes, ih]

/-- IDENTIFY's data are the bytes that R195 lists. -/
theorem identity_eq (s : State) : s.identity = [0x40, 0x22, 0x02, BitVec.ofNat 8 s.straps.address.toNat,
    if s.straps.fast then 1 else 0, if s.straps.headB then 2 else 1] := by
  unfold State.identity
  cases s.straps.fast <;> cases s.straps.headB <;> simp [leBytes, bit]

/-- A field of a reply stands between what comes before it and what comes after it. -/
theorem fieldAt_append (a b c : List Byte) {i n : Nat} (ha : a.length = i) (hb : b.length = n) :
    fieldAt (a ++ (b ++ c)) i n = b := by
  subst ha hb
  simp [fieldAt]

/-- The current segment's nine bytes in READ PLAN (R195). -/
def currentBytes : Option Segment → List Byte
  | some g => leBytes 2 g.id ++ leBytes 3 g.start ++ leBytes 3 (g.endStation : Nat) ++ leBytes 1 g.endAction.code
  | none => leBytes 9 0

/-- The retained segment's two bytes in READ PLAN (R195). -/
def retainedBytes : Option Segment → List Byte
  | some g => leBytes 2 g.id
  | none => leBytes 2 0

theorem currentBytes_length (o : Option Segment) : (currentBytes o).length = 9 := by
  cases o <;> simp [currentBytes]

theorem retainedBytes_length (o : Option Segment) : (retainedBytes o).length = 2 := by
  cases o <;> simp [retainedBytes]

theorem planBytes_eq (p : PlanStore) : p.bytes = leBytes 1 p.queue.length ++
    leBytes 1 (bit p.current.isSome + 2 * bit p.retained.isSome) ++ currentBytes p.current ++ retainedBytes p.retained := by
  unfold PlanStore.bytes currentBytes retainedBytes
  cases p.current <;> cases p.retained <;> rfl

/-- READ PLAN's thirteen bytes, field by field (R25, R195). -/
theorem planBytes_fields (p : PlanStore) : p.bytes.length = 13 ∧ fieldAt p.bytes 0 1 = leBytes 1 p.queue.length ∧
    fieldAt p.bytes 1 1 = leBytes 1 (bit p.current.isSome + 2 * bit p.retained.isSome) ∧
    fieldAt p.bytes 2 9 = currentBytes p.current ∧ fieldAt p.bytes 11 2 = retainedBytes p.retained := by
  rw [planBytes_eq]
  have hc := currentBytes_length p.current
  have hr := retainedBytes_length p.retained
  refine ⟨by simp [hc, hr], ?_, ?_, ?_, ?_⟩
  · simpa using fieldAt_append [] (leBytes 1 p.queue.length) _ rfl (by simp)
  · simpa using fieldAt_append (leBytes 1 p.queue.length) (leBytes 1 (bit p.current.isSome + 2 * bit p.retained.isSome))
      (currentBytes p.current ++ retainedBytes p.retained) (by simp) (by simp)
  · simpa using fieldAt_append (leBytes 1 p.queue.length ++ leBytes 1 (bit p.current.isSome + 2 * bit p.retained.isSome))
      (currentBytes p.current) (retainedBytes p.retained) (by simp) hc
  · simpa using fieldAt_append (leBytes 1 p.queue.length ++ leBytes 1 (bit p.current.isSome + 2 * bit p.retained.isSome) ++
      currentBytes p.current) (retainedBytes p.retained) [] (by simp [hc]) hr

/-- The block of a channel, in the words of the statements (R195). -/
theorem block_eq_channelBlock (c : Channel) : c.block = channelBlock c := by
  simp [Channel.block, channelBlock]

/-- The travel command as presented (R140). -/
theorem governorApplied_eq (g : Governor) : g.applied =
    if g.owned then leBytes 2 g.speed ++ leBytes 1 (if g.direction = .reverse then 3 else 1) else [0, 0, 0] := by
  unfold Governor.applied
  cases g.direction <;> simp [Direction.code] <;> rfl

/-- Settles O17: the data of each reading request, laid out as R195 has them. -/
theorem readingRequestsAnswer : Obligations.ReadingRequestsAnswer := by
  refine ⟨fun s hr => ?_, fun h s hr hp => ?_, fun h code s hr hp => ?_, fun h s hr hp => ?_⟩
  · rw [← identity_eq]
    exact running_negated requestIdentify s hr
  · obtain ⟨hl, hcount, hflags, hcurrent, hretained⟩ := planBytes_fields (s.head h).plan
    refine ⟨(s.head h).plan.bytes, running_forHead 0x0A h takeReadPlan s hr hp, hl, hcount, ?_, ?_, ?_, ?_, ?_⟩
    · intro g hg
      rw [hcurrent, PlanStore.current, hg]
      rfl
    · intro hq
      rw [hcurrent, PlanStore.current, hq]
      decide
    · intro g hg
      rw [hretained, hg]
      rfl
    · intro hq
      rw [hretained, hq]
      decide
    · rw [hflags, PlanStore.current]
      cases (s.head h).plan.queue <;> simp
  · have taken : exec (.readProfile (headCode h) code) s = .next (takeReadProfile code h s) :=
      running_forHead 0x0C h (takeReadProfile code) s hr hp
    rw [taken]
    intro p sets
    have read : sets[code]? = p.setBytes code := by
      rcases code with _ | _ | _ | _ | n <;> rfl
    have none_iff : sets[code]? = none ↔ 4 ≤ code := by simp [sets]
    unfold takeReadProfile
    dsimp only
    rw [show (s.head h).profiles.setBytes code = sets[code]? from read.symm]
    refine ⟨fun hc => ?_, fun hc => ?_, fun fields hc => ?_⟩
    · rw [none_iff.mpr hc]; rfl
    · rw [hc]; rfl
    · rw [hc]; rfl
  · have taken : exec (.readChannels (headCode h)) s = .next (takeReadChannels h s) :=
      running_forHead 0x0F h takeReadChannels s hr hp
    intro u
    rw [taken, takeReadChannels, State.channelBytes, governorApplied_eq]
    simp only [block_eq_channelBlock, DriveInputs.byte]
    rfl

/-! ## The laws at reset -/

@[simp] theorem reset_head (h : Head) : State.reset.head h = HeadUnit.powerOn := by cases h <;> rfl

@[simp] theorem reset_headState (h : Head) : State.reset.headState h = .uncommissioned := by cases h <;> rfl

/-- The pool is empty, and so is its law. -/
theorem recordPoolLaw_reset : RecordPoolLaw State.reset := by
  refine ⟨fun h => ?_, fun h => ?_, by decide, by decide, fun h r hr => ?_⟩
  · simp [State.level, HeadUnit.powerOn, HeadLog.commonUsed, HeadLog.reservedUsed]
  · simp [HeadUnit.powerOn, HeadLog.reservedUsed]
  · simp [HeadUnit.powerOn] at hr

theorem commissioningLaw_reset : CommissioningLaw State.reset := fun h => by
  simp [HeadUnit.powerOn, ProfileStore.Commissioned, StateFits, Sequencer.OriginKept, Sequencer.powerOn]

theorem budgetLaw_reset : BudgetLaw State.reset := fun h => by
  simp [HeadUnit.powerOn, GrantsBudget, Sequencer.needsBudget, Sequencer.powerOn, HeadState.starting]

/-- Settles O3: both heads stand at power-on, with empty queues, no plan and no speed. -/
theorem lawsHoldAtReset : Obligations.LawsHoldAtReset := by
  refine ⟨recordPoolLaw_reset, fun h => ?_, fun h hs => ?_, ⟨fun _ => rfl, fun _ => rfl, fun _ => rfl⟩,
    commissioningLaw_reset, budgetLaw_reset, fun h => ?_, fun h => ?_, nofun, ⟨fun h hs => ?_, fun hs => ?_⟩,
    fun h hs => ?_, fun h => ?_, by simp [SettingsLaw, State.reset, State.powerOn]⟩
  · simp [HeadLog.Numbered, HeadUnit.powerOn]
  · simp [HeadUnit.powerOn, Sequencer.powerOn] at hs
  · rw [reset_head]; exact PlanStore.lawful_of_queue (by decide) .nil rfl
  · simp [Tracking.Lawful, PitchPositive, HeadUnit.powerOn, Tracking.powerOn]
  · simp at hs
  · exact absurd rfl hs
  · simp [HeadState.welding] at hs
  · simp [HeadUnit.powerOn, Sequencer.seamOpen, Sequencer.powerOn, PlanStore.empty]

end Sys2Proof.Machine

namespace Sys2Proof.Machine

/-! ## What records and counts leave of a log -/

theorem createRecord_counters (h k : Head) (b : RecordBody) (co : Bool) (s : State) :
    ∃ n, ((createRecord h b co s).head k).log.counters = { (s.head k).log.counters with recordsLost := n } := by
  rcases head_cases h k with rfl | rfl
  · unfold createRecord
    split
    · split
      · exact ⟨(s.head k).log.counters.recordsLost, by simp⟩
      · exact ⟨bump (s.head k).log.counters.recordsLost, by simp⟩
    · exact ⟨_, rfl⟩
  · exact ⟨_, by rw [createRecord_other]⟩

@[simp] theorem createRecord_segmentsCompleted (h k : Head) (b : RecordBody) (co : Bool) (s : State) :
    ((createRecord h b co s).head k).log.counters.segmentsCompleted = (s.head k).log.counters.segmentsCompleted := by
  obtain ⟨n, e⟩ := createRecord_counters h k b co s
  rw [e]
@[simp] theorem createRecord_seamsCompleted (h k : Head) (b : RecordBody) (co : Bool) (s : State) :
    ((createRecord h b co s).head k).log.counters.seamsCompleted = (s.head k).log.counters.seamsCompleted := by
  obtain ⟨n, e⟩ := createRecord_counters h k b co s
  rw [e]
@[simp] theorem createRecord_seamsInterrupted (h k : Head) (b : RecordBody) (co : Bool) (s : State) :
    ((createRecord h b co s).head k).log.counters.seamsInterrupted = (s.head k).log.counters.seamsInterrupted := by
  obtain ⟨n, e⟩ := createRecord_counters h k b co s
  rw [e]
@[simp] theorem createRecord_acc (h k : Head) (b : RecordBody) (co : Bool) (s : State) :
    ((createRecord h b co s).head k).log.acc = (s.head k).log.acc := by
  rcases head_cases h k with rfl | rfl
  · unfold createRecord; split <;> [split <;> simp; rfl]
  · rw [createRecord_other]
@[simp] theorem createRecord_nextMark (h k : Head) (b : RecordBody) (co : Bool) (s : State) :
    ((createRecord h b co s).head k).log.nextMark = (s.head k).log.nextMark := by
  rcases head_cases h k with rfl | rfl
  · unfold createRecord; split <;> [split <;> simp; rfl]
  · rw [createRecord_other]

/-- A queue of records only grows at its tail when a record is created (R166). -/
theorem createRecord_grows (h k : Head) (b : RecordBody) (co : Bool) (s : State) :
    (s.head k).log.queue <+: ((createRecord h b co s).head k).log.queue := by
  rcases head_cases h k with rfl | rfl
  · unfold createRecord
    split
    · split <;> simp
    · exact List.prefix_rfl
  · rw [createRecord_other]

@[simp] theorem countHead_acc (h k : Head) (f : HeadCounters → HeadCounters) (s : State) :
    ((countHead h f s).head k).log.acc = (s.head k).log.acc := by
  rcases head_cases h k with rfl | rfl
  · unfold countHead; split <;> simp
  · rw [countHead_other]
@[simp] theorem countHead_nextMark (h k : Head) (f : HeadCounters → HeadCounters) (s : State) :
    ((countHead h f s).head k).log.nextMark = (s.head k).log.nextMark := by
  rcases head_cases h k with rfl | rfl
  · unfold countHead; split <;> simp
  · rw [countHead_other]

/-- What is counted elsewhere leaves a counter as it is. -/
theorem countHead_keeps {α : Type} (get : HeadCounters → α) (h k : Head) (f : HeadCounters → HeadCounters) (s : State)
    (hf : ∀ c, get (f c) = get c) : get ((countHead h f s).head k).log.counters = get (s.head k).log.counters := by
  rcases head_cases h k with rfl | rfl
  · unfold countHead; split <;> simp [hf]
  · rw [countHead_other]

/-! ## Two states between which the next record of a head is the same -/

/-- Two states agree on all that a record of the head rests on: its presence, the pool and the head's queue and
numbering (R165 to R167). -/
structure SameRecords (h : Head) (s t : State) : Prop where
  present : t.present h = s.present h
  common : t.commonUsed = s.commonUsed
  queue : (t.head h).log.queue = (s.head h).log.queue
  seq : (t.head h).log.seq = (s.head h).log.seq
  loss : (t.head h).log.lossPending = (s.head h).log.lossPending

theorem SameRecords.refl (h : Head) (s : State) : SameRecords h s s := ⟨rfl, rfl, rfl, rfl, rfl⟩

theorem SameRecords.trans {h : Head} {s t u : State} (a : SameRecords h s t) (b : SameRecords h t u) :
    SameRecords h s u :=
  ⟨b.present.trans a.present, b.common.trans a.common, b.queue.trans a.queue, b.seq.trans a.seq, b.loss.trans a.loss⟩

/-- A state with the same logs and the same straps. -/
theorem SameRecords.of_log {h : Head} {s t : State} (hp : t.present h = s.present h)
    (hl : ∀ k, (t.head k).log = (s.head k).log) : SameRecords h s t :=
  ⟨hp, commonUsed_congr fun k => by rw [hl k], by rw [hl h], by rw [hl h], by rw [hl h]⟩

theorem SameRecords.countHead {h : Head} {s t : State} (r : SameRecords h s t) (f : HeadCounters → HeadCounters) :
    SameRecords h s (countHead h f t) := by
  refine r.trans ⟨by simp, by simp, by simp, ?_, ?_⟩ <;> unfold Machine.countHead <;> split <;> simp

/-- The common slots used, head by head. -/
theorem commonUsed_eq (h : Head) (s : State) :
    s.commonUsed = (s.head h).log.commonUsed + (s.head h.other).log.commonUsed := by
  cases h
  · rfl
  · exact Nat.add_comm _ _

/-- The same record keeps two such states together. -/
theorem SameRecords.createRecord {h : Head} {s t : State} (r : SameRecords h s t) (b : RecordBody) :
    SameRecords h (createRecord h b false s) (createRecord h b false t) := by
  have slot := slotFor_congr h b s t r.common r.queue
  have other : ∀ x : State, (Machine.createRecord h b false x).commonUsed =
      ((Machine.createRecord h b false x).head h).log.commonUsed + (x.head h.other).log.commonUsed := fun x => by
    rw [commonUsed_eq h, createRecord_other]
  have rest : (t.head h.other).log.commonUsed = (s.head h.other).log.commonUsed := by
    have e := r.common
    rw [commonUsed_eq h t, commonUsed_eq h s, HeadLog.commonUsed, r.queue] at e
    simpa [HeadLog.commonUsed] using e
  have own : ((Machine.createRecord h b false t).head h).log.queue = ((Machine.createRecord h b false s).head h).log.queue ∧
      ((Machine.createRecord h b false t).head h).log.seq = ((Machine.createRecord h b false s).head h).log.seq ∧
      ((Machine.createRecord h b false t).head h).log.lossPending =
        ((Machine.createRecord h b false s).head h).log.lossPending := by
    unfold Machine.createRecord
    rw [r.present, slot]
    split
    · split <;> simp [r.queue, r.seq, r.loss]
    · exact ⟨r.queue, r.seq, r.loss⟩
  refine ⟨by simp [r.present], ?_, own.1, own.2.1, own.2.2⟩
  have used : ((Machine.createRecord h b false t).head h).log.commonUsed =
      ((Machine.createRecord h b false s).head h).log.commonUsed := by simp [HeadLog.commonUsed, own.1]
  rw [other, other, rest, used]

/-- A head's state after several event records (R166). -/
def recordAll (h : Head) (bodies : List RecordBody) (s : State) : State :=
  bodies.foldl (fun x b => createRecord h b false x) s

theorem logAll_eq (h : Head) (bodies : List RecordBody) (s : State) :
    logAll h bodies s = ((recordAll h bodies s).head h).log := rfl

@[simp] theorem recordAll_nil (h : Head) (s : State) : recordAll h [] s = s := rfl

@[simp] theorem recordAll_cons (h : Head) (b : RecordBody) (bodies : List RecordBody) (s : State) :
    recordAll h (b :: bodies) s = recordAll h bodies (createRecord h b false s) := rfl

theorem recordAll_append (h : Head) (a b : List RecordBody) (s : State) :
    recordAll h (a ++ b) s = recordAll h b (recordAll h a s) := List.foldl_append

theorem SameRecords.recordAll {h : Head} (bodies : List RecordBody) {s t : State} (r : SameRecords h s t) :
    SameRecords h (recordAll h bodies s) (recordAll h bodies t) := by
  induction bodies generalizing s t with
  | nil => exact r
  | cons b rest ih => exact ih (r.createRecord b)

/-! ## The station check: segments completed one after the other (R10, R11, R14) -/

/-- A completed segment, block by block. -/
theorem completeSegment_self (h : Head) (g : Segment) (rest : List Segment) (s : State) :
    (completeSegment h g rest s).head h = { s.head h with
      plan := { (s.head h).plan with queue := rest, retained := some g }
      reg := { (s.head h).reg with saturationCount := 0 }
      log := ((completeSegment h g rest s).head h).log } := by
  unfold completeSegment
  dsimp only
  rw [onReg_self, countHead_self, createRecord_self]
  simp

@[simp] theorem completeSegment_other (h : Head) (g : Segment) (rest : List Segment) (s : State) :
    (completeSegment h g rest s).head h.other = s.head h.other := by simp [completeSegment]

@[simp] theorem completeSegment_gov (h : Head) (g : Segment) (rest : List Segment) (s : State) :
    (completeSegment h g rest s).gov = s.gov := by simp [completeSegment]

@[simp] theorem completeSegment_port (h : Head) (g : Segment) (rest : List Segment) (s : State) :
    (completeSegment h g rest s).port = s.port := by simp [completeSegment]

@[simp] theorem completeSegment_present (h k : Head) (g : Segment) (rest : List Segment) (s : State) :
    (completeSegment h g rest s).present k = s.present k := by simp [completeSegment]

@[simp] theorem completeSegment_headState (h k : Head) (g : Segment) (rest : List Segment) (s : State) :
    (completeSegment h g rest s).headState k = s.headState k := by simp [completeSegment, State.headState]

@[simp] theorem completeSegment_toolStation (h k : Head) (g : Segment) (rest : List Segment) (s : State) :
    (completeSegment h g rest s).toolStation k = s.toolStation k := by simp [completeSegment, State.toolStation]

/-- What belongs to no head, governor or port stays (R11). -/
theorem completeSegment_rest (h : Head) (g : Segment) (rest : List Segment) (s : State) :
    SameRest s (completeSegment h g rest s) := by simp [SameRest, completeSegment]

/-- The SEGMENT_END record of a segment completed at a tool station, with a saturation count (R14). -/
def Segment.endRecord (g : Segment) (tool : Int) (saturations : Nat) : RecordBody :=
  .segmentEnd g.id g.zone g.endAction (g.endStation : Nat) tool saturations g.untracked

/-- A completed segment has its one record. -/
theorem completeSegment_records (h : Head) (g : Segment) (rest : List Segment) (s : State) :
    SameRecords h (createRecord h (g.endRecord (s.toolStation h) (s.head h).reg.saturationCount) false s)
      (completeSegment h g rest s) := by
  have planned : SameRecords h s (s.onPlan h fun p => { p with queue := rest, retained := some g }) :=
    .of_log (by simp) (by simp)
  unfold completeSegment
  exact ((planned.createRecord _).countHead _).trans (.of_log (onReg_present ..) fun k => onReg_head_log ..)

/-- What a completed segment counts (R14). -/
theorem completeSegment_counts (h : Head) (g : Segment) (rest : List Segment) (s : State) (hp : s.present h = true) :
    ((completeSegment h g rest s).head h).log.counters.segmentsCompleted =
        bump (s.head h).log.counters.segmentsCompleted ∧
      ((completeSegment h g rest s).head h).log.counters.seamsCompleted = (s.head h).log.counters.seamsCompleted ∧
      ((completeSegment h g rest s).head h).log.counters.seamsInterrupted = (s.head h).log.counters.seamsInterrupted ∧
      ((completeSegment h g rest s).head h).log.acc = (s.head h).log.acc ∧
      ((completeSegment h g rest s).head h).log.nextMark = (s.head h).log.nextMark := by
  unfold completeSegment
  dsimp only
  rw [onReg_head_log, countHead_log h _ _ (by simpa using hp)]
  simp

/-- Segments completed one after the other, up to the rest of the queue. -/
def completeRun (h : Head) : List Segment → List Segment → State → State
  | [], _, s => s
  | g :: gs, rest, s => completeRun h gs rest (completeSegment h g (gs ++ rest) s)

/-- The SEGMENT_END records of a run: the saturation count goes into the first (R14, R72). -/
def endRecords (tool : Int) : Nat → List Segment → List RecordBody
  | _, [] => []
  | n, g :: gs => g.endRecord tool n :: endRecords tool 0 gs

/-- What a run of completed segments does (R11, R14, R72). -/
structure RunCompleted (h : Head) (gone rest : List Segment) (s t : State) : Prop where
  self : t.head h = { s.head h with
    plan := { (s.head h).plan with queue := rest, retained := gone.getLast?.or (s.head h).plan.retained }
    reg := { (s.head h).reg with saturationCount := if gone = [] then (s.head h).reg.saturationCount else 0 }
    log := (t.head h).log }
  other : t.head h.other = s.head h.other
  gov : t.gov = s.gov
  port : t.port = s.port
  rest : SameRest s t
  segmentsCompleted : (t.head h).log.counters.segmentsCompleted =
    bump^[gone.length] (s.head h).log.counters.segmentsCompleted
  seamsCompleted : (t.head h).log.counters.seamsCompleted = (s.head h).log.counters.seamsCompleted
  seamsInterrupted : (t.head h).log.counters.seamsInterrupted = (s.head h).log.counters.seamsInterrupted
  acc : (t.head h).log.acc = (s.head h).log.acc
  nextMark : (t.head h).log.nextMark = (s.head h).log.nextMark
  records : SameRecords h (recordAll h (endRecords (s.toolStation h) (s.head h).reg.saturationCount gone) s) t

theorem SameRest.trans {s t u : State} (a : SameRest s t) (b : SameRest t u) : SameRest s u := by
  simp_all [SameRest]

theorem completeRun_spec (h : Head) (gone rest : List Segment) (s : State) (hp : s.present h = true)
    (hq : (s.head h).plan.queue = gone ++ rest) : RunCompleted h gone rest s (completeRun h gone rest s) := by
  induction gone generalizing s with
  | nil =>
    refine ⟨?_, rfl, rfl, rfl, by simp [SameRest, completeRun], rfl, rfl, rfl, rfl, rfl, .refl h s⟩
    have e : (s.head h).plan.queue = rest := hq
    simp [completeRun, ← e]
  | cons g gs ih =>
    have self := completeSegment_self h g (gs ++ rest) s
    obtain ⟨c1, c2, c3, c4, c5⟩ := completeSegment_counts h g (gs ++ rest) s hp
    have r := ih (completeSegment h g (gs ++ rest) s) (by simpa using hp) (by rw [self])
    refine ⟨?_, ?_, ?_, ?_, ?_, ?_, ?_, ?_, ?_, ?_, ?_⟩
    · refine r.self.trans ?_
      rw [self]
      cases gs with
      | nil => simp [completeRun]
      | cons g' gs => simp [completeRun, List.getLast?_cons]
    · exact r.other.trans (completeSegment_other ..)
    · exact r.gov.trans (completeSegment_gov ..)
    · exact r.port.trans (completeSegment_port ..)
    · exact (completeSegment_rest ..).trans r.rest
    · exact r.segmentsCompleted.trans (by rw [c1]; rfl)
    · exact r.seamsCompleted.trans c2
    · exact r.seamsInterrupted.trans c3
    · exact r.acc.trans c4
    · exact r.nextMark.trans c5
    · have e := r.records
      rw [completeSegment_toolStation, self] at e
      exact ((completeSegment_records h g (gs ++ rest) s).recordAll _).trans e

/-! ## What ends a run of completed segments: EXIT, starvation, the allowance (R12, R16, R17) -/

theorem setHeadState_gov_hold (h : Head) {st : HeadState} (s : State) (hd : st.demand = .hold)
    (hs : s.demand h ≠ .hold) : (setHeadState h st s).gov.speed = 0 := by
  rw [setHeadState_hold h st s ⟨hd, hs⟩]
  simp [takeHold]

theorem pauseBegin_pauses (h : Head) (s : State) (hw : s.headState h = .weld) :
    (pauseBegin h s).headState h = .pause := by
  unfold pauseBegin reportInForce
  rw [if_pos hw]
  dsimp only
  split <;> simp [State.headState]

/-- A head that takes a HOLD begins a pause at a welding other head (R86, R102). -/
theorem setHeadState_hold_other (h : Head) {st : HeadState} (s : State) (hd : st.demand = .hold)
    (hs : s.demand h ≠ .hold) (ho : s.headState h.other = .weld) :
    (setHeadState h st s).headState h.other = .pause := by
  rw [setHeadState_hold h st s ⟨hd, hs⟩]
  exact pauseBegin_pauses h.other _ (by simpa [State.headState] using ho)

/-- The end of a seam at a completed EXIT segment (R44, R12, R20, R116). -/
structure SeamEnded (h : Head) (g : Segment) (s t : State) : Prop where
  state : t.headState h = .exit
  seq : (t.head h).seq = { (s.head h).seq with
    state := .exit, raising := (s.head h).seq.raising && HeadState.exit.raises, rampAcc := 499 }
  plan : (t.head h).plan = { (s.head h).plan with starved := none }
  track : (t.head h).track = (s.head h).track.emptied
  travel : (t.head h).travel = ⟨0, 0, 0⟩
  queue : (t.head h).log.queue =
    ((createRecord h (.seamEnd g.ref (s.head h).seq.kind (s.toolStation h)) false s).head h).log.queue
  seamsCompleted : (t.head h).log.counters.seamsCompleted = bump (s.head h).log.counters.seamsCompleted
  segmentsCompleted : (t.head h).log.counters.segmentsCompleted = (s.head h).log.counters.segmentsCompleted
  acc : (t.head h).log.acc = (s.head h).log.acc
  nextMark : (t.head h).log.nextMark = (s.head h).log.nextMark
  speed : t.gov.speed = 0
  other : s.headState h.other = .weld → t.headState h.other = .pause

theorem enterExit_ends (h : Head) (g : Segment) (s : State) (hp : s.present h = true) (hw : s.headState h = .weld) :
    SeamEnded h g s (enterExit h g s) := by
  have demand : (s.headState h).demand ≠ .hold := by rw [hw]; decide
  have log : ((enterExit h g s).head h).log = ((countHead h (fun c => { c with seamsCompleted := bump c.seamsCompleted })
      (createRecord h (.seamEnd g.ref (s.head h).seq.kind (s.toolStation h)) false s)).head h).log := by
    simp [enterExit, setHeadState_self, startRamp]
  have counted := countHead_log h (fun c => { c with seamsCompleted := bump c.seamsCompleted })
    (createRecord h (.seamEnd g.ref (s.head h).seq.kind (s.toolStation h)) false s) (by simpa using hp)
  rw [counted] at log
  refine ⟨?_, ?_, ?_, ?_, ?_, ?_, ?_, ?_, ?_, ?_, ?_, ?_⟩
  · simp [enterExit]
  · simp [enterExit, setHeadState_self, startRamp]
  · simp [enterExit, startRamp, endStarvation]
  · simp [enterExit, startRamp, emptyTrack, Tracking.emptied]
  · have rest := HeadTravel.entering_rest (s.head h).travel (st := .exit) rfl
    simp [enterExit, setHeadState_self, startRamp, rest]
  · rw [log]
  · simp [log]
  · simp [log]
  · simp [log]
  · simp [log]
  · simp only [enterExit, emptyTrack_gov, endStarvation_gov]
    exact setHeadState_gov_hold h _ rfl (by simpa [State.demand, State.headState, startRamp] using demand)
  · intro ho
    simp only [enterExit, emptyTrack_headState, endStarvation_headState]
    exact setHeadState_hold_other h _ rfl (by simpa [State.demand, State.headState, startRamp] using demand)
      (by simpa [State.headState, startRamp] using ho)

/-- An interrupt taken with a cause (R45, R20). -/
structure Interrupts (h : Head) (c : Cause) (s t : State) : Prop where
  state : t.headState h = .interrupting
  seq : (t.head h).seq = { (s.head h).seq with
    state := .interrupting, raising := (s.head h).seq.raising && HeadState.interrupting.raises, cause := some c
    interruptStation := s.toolStation h, rampAcc := 499 }
  plan : (t.head h).plan = { (s.head h).plan with starved := none }
  queue : (s.head h).log.queue <+: (t.head h).log.queue
  seamsInterrupted : (t.head h).log.counters.seamsInterrupted = bump (s.head h).log.counters.seamsInterrupted
  seamsCompleted : (t.head h).log.counters.seamsCompleted = (s.head h).log.counters.seamsCompleted
  segmentsCompleted : (t.head h).log.counters.segmentsCompleted = (s.head h).log.counters.segmentsCompleted
  acc : (t.head h).log.acc = (s.head h).log.acc
  nextMark : (t.head h).log.nextMark = (s.head h).log.nextMark

/-- The INTERRUPT record is one record of the head and one count of the seams interrupted (R45, R172). -/
theorem reportInterrupt_log (h : Head) (c : Cause) (e s : State) (hp : s.present h = true) :
    ∃ b : RecordBody, ((reportInterrupt h c e s).head h).log =
      { ((createRecord h b false s).head h).log with
        counters := interruptCount c ((createRecord h b false s).head h).log.counters } := by
  unfold reportInterrupt
  dsimp only
  rw [countHead_log h _ _ (by split <;> simpa using hp)]
  split
  · exact ⟨_, rfl⟩
  · rw [createRecord_log_congr h _ false s s.tick (by simp) (by simp) (by simp)]
    exact ⟨_, rfl⟩

theorem interruptHead_interrupts (h : Head) (c : Cause) (s : State) (hp : s.present h = true)
    (ha : c.actsIn (s.headState h) = true) : Interrupts h c s (interruptHead h c s) := by
  have e : interruptHead h c s = reportInterrupt h c s (endStarvation h (setHeadState h .interrupting (s.onSeq h fun q =>
      { q with cause := some c, interruptStation := s.toolStation h, rampAcc := 499 }))) := by
    rw [interruptHead, if_pos ha]
  obtain ⟨b, log⟩ := reportInterrupt_log h c s (endStarvation h (setHeadState h .interrupting (s.onSeq h fun q =>
      { q with cause := some c, interruptStation := s.toolStation h, rampAcc := 499 }))) (by simpa using hp)
  have before : ((endStarvation h (setHeadState h .interrupting (s.onSeq h fun q =>
      { q with cause := some c, interruptStation := s.toolStation h, rampAcc := 499 }))).head h).log = (s.head h).log := by
    simp [setHeadState_self]
  rw [← e] at log
  refine ⟨?_, ?_, ?_, ?_, ?_, ?_, ?_, ?_, ?_⟩
  · simp [e]
  · simp [e, setHeadState_self]
  · simp [e, endStarvation]
  · rw [log]
    exact before ▸ createRecord_grows h h b false _
  all_goals simp [log, before, interruptCount]

/-- Starvation begins behind a completed segment (R16, R22). -/
theorem starve_self (h : Head) (g : Segment) (s : State) : (starve h g s).head h = { s.head h with
      plan := { (s.head h).plan with
        starved := some ⟨(g.endStation : Nat), s.toolStation h - (g.endStation : Nat)⟩ }
      log := ((createRecord h (.starved (g.endStation : Nat) g.ref) false s).head h).log } := by
  unfold starve
  dsimp only
  rw [createRecord_self, createRecord_log_congr h _ false s _ (by simp) (by simp) (by simp)]
  simp

/-! ## The station check as a whole (R10 to R12, R16) -/

/-- What the station check does past its completed segments, the last of them being `last`. -/
def stationEnd (h : Head) (last : Option Segment) (rest : List Segment) (c : State) : State :=
  match last with
  | none => c
  | some g =>
    match g.endAction with
    | .exit => enterExit h g c
    | .carryOn => if rest = [] ∧ (c.head h).plan.starved = none then checkAllowance h (starve h g c) else c

/-- A queue cut where the station check stops: the segments before the cut end behind the tool, only the last of them may
end the seam, and the rest begins with one that ends ahead unless the seam has ended (R10 to R12). -/
structure StationCut (tool : Int) (gone rest : List Segment) : Prop where
  behind : ∀ g ∈ gone, (g.endStation : Int) ≤ tool
  carry : ∀ g ∈ gone.dropLast, g.endAction = .carryOn
  stops : (gone.getLast?.any fun g => g.endAction == .exit) = true ∨ ∀ n, rest.head? = some n → tool < n.endStation

theorem StationCut.tail {tool : Int} {g g' : Segment} {gs rest : List Segment}
    (cut : StationCut tool (g :: g' :: gs) rest) : StationCut tool (g' :: gs) rest where
  behind x hx := cut.behind x (List.mem_cons_of_mem _ hx)
  carry x hx := cut.carry x (by simpa using Or.inr hx)
  stops := by simpa using cut.stops

theorem completeSegment_plan (h : Head) (g : Segment) (rest : List Segment) (s : State) :
    ((completeSegment h g rest s).head h).plan = { (s.head h).plan with queue := rest, retained := some g } := by
  rw [completeSegment_self]

/-- Nothing to complete: the check stops at once. -/
theorem completeSegments_ahead (n : Nat) (h : Head) (s : State)
    (ahead : ∀ g, (s.head h).plan.queue.head? = some g → s.toolStation h < g.endStation) :
    completeSegments n h s = s := by
  cases n with
  | zero => rfl
  | succ n =>
    rw [completeSegments]
    split
    · rfl
    · next g rest e => rw [if_pos (ahead g (by simp [e]))]

theorem completeSegments_eq (h : Head) (gone rest : List Segment) (n : Nat) (s : State)
    (hq : (s.head h).plan.queue = gone ++ rest) (hn : gone.length ≤ n) (cut : StationCut (s.toolStation h) gone rest) :
    completeSegments n h s = stationEnd h gone.getLast? rest (completeRun h gone rest s) := by
  induction gone generalizing n s with
  | nil =>
    refine completeSegments_ahead n h s fun g hg => ?_
    rw [hq] at hg
    exact cut.stops.resolve_left (by simp) g hg
  | cons g gs ih =>
    obtain ⟨n, rfl⟩ : ∃ m, n = m + 1 := ⟨n - 1, by simp at hn; omega⟩
    have plan := completeSegment_plan h g (gs ++ rest) s
    have behind : ¬s.toolStation h < g.endStation := by simpa using cut.behind g (by simp)
    rw [completeSegments]
    simp only [hq, List.cons_append, if_neg behind]
    cases gs with
    | nil =>
      simp only [List.getLast?_singleton, stationEnd, completeRun, List.nil_append]
      rw [List.nil_append] at plan
      cases he : g.endAction with
      | exit => rfl
      | carryOn =>
        cases rest with
        | nil => cases hv : (s.head h).plan.starved <;> simp [plan, hv]
        | cons m ms =>
          have ahead := cut.stops.resolve_left (by simp [he])
          simpa using completeSegments_ahead n h _ (by simpa [plan] using ahead)
    | cons g' gs =>
      have carry : g.endAction = .carryOn := cut.carry g (by simp)
      rw [carry]
      simpa [List.getLast?_cons_cons, completeRun] using
        ih n (completeSegment h g (g' :: gs ++ rest) s) (by rw [plan]) (by simpa using hn) (by simpa using cut.tail)

/-- The station check of a cut queue (R10). -/
theorem stationCheck_eq (h : Head) (gone rest : List Segment) (s : State) (hq : (s.head h).plan.queue = gone ++ rest)
    (cut : StationCut (s.toolStation h) gone rest) :
    stationCheck h s = stationEnd h gone.getLast? rest (completeRun h gone rest s) :=
  completeSegments_eq h gone rest _ s hq (by simp [hq]) cut

/-! ## What the station check leaves (R10 to R12, R14, R16, R17, R44) -/

@[simp] theorem completeRun_present (h k : Head) (gone rest : List Segment) (s : State) :
    (completeRun h gone rest s).present k = s.present k := by
  induction gone generalizing s with
  | nil => rfl
  | cons g gs ih => simp [completeRun, ih]

@[simp] theorem completeRun_headState (h k : Head) (gone rest : List Segment) (s : State) :
    (completeRun h gone rest s).headState k = s.headState k := by
  induction gone generalizing s with
  | nil => rfl
  | cons g gs ih => simp [completeRun, ih]

@[simp] theorem completeRun_toolStation (h k : Head) (gone rest : List Segment) (s : State) :
    (completeRun h gone rest s).toolStation k = s.toolStation k := by
  induction gone generalizing s with
  | nil => rfl
  | cons g gs ih => simp [completeRun, ih]

/-- The record that closes a run of completed segments: SEAM_END behind an EXIT segment, STARVED behind the last
segment of a plan (R12, R16). -/
def closingRecords (kind : SeamKind) (tool : Int) (starved : Option Starvation) (rest : List Segment) :
    Option Segment → List RecordBody
  | none => []
  | some g =>
    if g.endAction = .exit then [.seamEnd g.ref kind tool]
    else if rest = [] ∧ starved = none then [.starved (g.endStation : Nat) g.ref] else []

/-- What the station check leaves of a head in WELD whose queue is cut into completed segments and a rest. -/
structure StationChecked (h : Head) (gone rest : List Segment) (s t : State) : Prop where
  queue : (t.head h).plan.queue = rest
  retained : (t.head h).plan.retained = gone.getLast?.or (s.head h).plan.retained
  reg : (t.head h).reg = { (s.head h).reg with
    saturationCount := if gone = [] then (s.head h).reg.saturationCount else 0 }
  weldEntry : (t.head h).seq.weldEntry = (s.head h).seq.weldEntry
  acc : (t.head h).log.acc = (s.head h).log.acc
  nextMark : (t.head h).log.nextMark = (s.head h).log.nextMark
  segmentsCompleted : (t.head h).log.counters.segmentsCompleted =
    bump^[gone.length] (s.head h).log.counters.segmentsCompleted
  records : (logAll h (endRecords (s.toolStation h) (s.head h).reg.saturationCount gone ++
    closingRecords (s.head h).seq.kind (s.toolStation h) (s.head h).plan.starved rest gone.getLast?) s).queue <+:
      (t.head h).log.queue
  exits : ∀ g, gone.getLast? = some g → g.endAction = .exit →
    t.headState h = .exit ∧ (t.head h).plan.starved = none ∧ (t.head h).seq.rampAcc = 499 ∧
    (t.head h).seq.spindle = (s.head h).seq.spindle ∧ (t.head h).track = (s.head h).track.emptied ∧
    (t.head h).travel = ⟨0, 0, 0⟩ ∧
    (t.head h).log.counters.seamsCompleted = bump (s.head h).log.counters.seamsCompleted ∧ t.gov.speed = 0 ∧
    (s.headState h.other = .weld → t.headState h.other = .pause)
  starves : ∀ g, gone.getLast? = some g → g.endAction = .carryOn → rest = [] → (s.head h).plan.starved = none →
    if ((s.head h).travelSet.starvationAllowance : Int) ≤ s.toolStation h - (g.endStation : Nat) then
      t.headState h = .interrupting ∧ (t.head h).seq.cause = some .planStarved ∧
      (t.head h).seq.interruptStation = s.toolStation h ∧ (t.head h).plan.starved = none ∧
      (t.head h).log.counters.seamsInterrupted = bump (s.head h).log.counters.seamsInterrupted
    else t.headState h = .weld ∧
      (t.head h).plan.starved = some ⟨(g.endStation : Nat), s.toolStation h - (g.endStation : Nat)⟩
  stays : (∀ g, gone.getLast? = some g → g.endAction = .carryOn) →
    (gone = [] ∨ rest ≠ [] ∨ (s.head h).plan.starved ≠ none) →
    t.headState h = .weld ∧ (t.head h).plan.starved = (s.head h).plan.starved ∧
    (t.head h).log.counters.seamsInterrupted = (s.head h).log.counters.seamsInterrupted

section
variable {h : Head} {gone rest : List Segment} {s c : State}

theorem RunCompleted.seq (r : RunCompleted h gone rest s c) : (c.head h).seq = (s.head h).seq := by rw [r.self]
theorem RunCompleted.plan (r : RunCompleted h gone rest s c) : (c.head h).plan =
    { (s.head h).plan with queue := rest, retained := gone.getLast?.or (s.head h).plan.retained } := by rw [r.self]
theorem RunCompleted.reg (r : RunCompleted h gone rest s c) : (c.head h).reg = { (s.head h).reg with
    saturationCount := if gone = [] then (s.head h).reg.saturationCount else 0 } := by rw [r.self]
theorem RunCompleted.track (r : RunCompleted h gone rest s c) : (c.head h).track = (s.head h).track := by rw [r.self]
theorem RunCompleted.travelSet (r : RunCompleted h gone rest s c) : (c.head h).travelSet = (s.head h).travelSet := by
  rw [HeadUnit.travelSet, r.self]; rfl

/-- The queue of records behind a run and one more record. -/
theorem RunCompleted.closing (r : RunCompleted h gone rest s c) (b : RecordBody) :
    (logAll h (endRecords (s.toolStation h) (s.head h).reg.saturationCount gone ++ [b]) s).queue =
      ((createRecord h b false c).head h).log.queue := by
  rw [logAll_eq, recordAll_append, recordAll_cons, recordAll_nil]
  exact (r.records.createRecord b).queue.symm

end

/-- The check stops where it is: no segment, or more of the seam to come, or a head already starved. -/
theorem stationChecked_stays {h : Head} {gone rest : List Segment} {s c : State} (r : RunCompleted h gone rest s c)
    (hw : c.headState h = .weld) (carry : ∀ g, gone.getLast? = some g → g.endAction = .carryOn)
    (hs : gone = [] ∨ rest ≠ [] ∨ (s.head h).plan.starved ≠ none) : StationChecked h gone rest s c where
  queue := by rw [r.plan]
  retained := by rw [r.plan]
  reg := r.reg
  weldEntry := by rw [r.seq]
  acc := r.acc
  nextMark := r.nextMark
  segmentsCompleted := r.segmentsCompleted
  records := by
    have none_closing : closingRecords (s.head h).seq.kind (s.toolStation h) (s.head h).plan.starved rest
        gone.getLast? = [] := by
      unfold closingRecords
      split
      · rfl
      · next g hg =>
        rw [if_neg (by simp [carry g hg]), if_neg]
        rintro ⟨hr, hv⟩
        rcases hs with rfl | hs | hs
        · simp at hg
        · exact hs hr
        · exact hs hv
    rw [none_closing, List.append_nil, logAll_eq]
    exact r.records.queue ▸ List.prefix_rfl
  exits g hg he := by rw [carry g hg] at he; cases he
  starves g hg _ hr hv := by
    rcases hs with rfl | hs | hs
    · simp at hg
    · exact absurd hr hs
    · exact absurd hv hs
  stays _ _ := ⟨hw, by rw [r.plan], r.seamsInterrupted⟩

/-- The check ends the seam. -/
theorem stationChecked_exits {h : Head} {gone rest : List Segment} {s c : State} {g : Segment}
    (r : RunCompleted h gone rest s c) (hp : c.present h = true) (hw : c.headState h = .weld)
    (htool : c.toolStation h = s.toolStation h) (hg : gone.getLast? = some g) (he : g.endAction = .exit) :
    StationChecked h gone rest s (enterExit h g c) := by
  have x := enterExit_ends h g c hp hw
  constructor
  case queue => rw [x.plan, r.plan]
  case retained => rw [x.plan, r.plan]
  case reg => rw [enterExit_head_reg, r.reg]
  case weldEntry => rw [x.seq, r.seq]
  case acc => rw [x.acc, r.acc]
  case nextMark => rw [x.nextMark, r.nextMark]
  case segmentsCompleted => rw [x.segmentsCompleted, r.segmentsCompleted]
  case records =>
    rw [hg, closingRecords, if_pos he, r.closing, x.queue, r.seq, htool]
  case exits =>
    intro _ _ _
    refine ⟨x.state, by rw [x.plan], by rw [x.seq], by rw [x.seq, r.seq], by rw [x.track, r.track], x.travel, ?_,
      x.speed, fun ho => x.other (by rwa [State.headState, r.other])⟩
    rw [x.seamsCompleted, r.seamsCompleted]
  case starves =>
    intro g' hg' hc
    rw [hg, Option.some.injEq] at hg'
    rw [← hg', he] at hc
    cases hc
  case stays =>
    intro hc
    have := hc g hg
    rw [he] at this
    cases this

theorem checkAllowance_eq (h : Head) {s : State} {v : Starvation} (hv : (s.head h).plan.starved = some v) :
    checkAllowance h s =
      if ((s.head h).travelSet.starvationAllowance : Int) ≤ v.used then interruptHead h .planStarved s else s := by
  rw [checkAllowance, hv]

/-- The check starves the head, and interrupts it where its allowance is exhausted. -/
theorem stationChecked_starves {h : Head} {gone rest : List Segment} {s c : State} {g : Segment}
    (r : RunCompleted h gone rest s c) (hp : c.present h = true) (hw : c.headState h = .weld)
    (htool : c.toolStation h = s.toolStation h) (hg : gone.getLast? = some g) (he : g.endAction = .carryOn)
    (hr : rest = []) (hv : (s.head h).plan.starved = none) :
    StationChecked h gone rest s (checkAllowance h (starve h g c)) := by
  have v := starve_self h g c
  have records : (logAll h (endRecords (s.toolStation h) (s.head h).reg.saturationCount gone ++
      closingRecords (s.head h).seq.kind (s.toolStation h) (s.head h).plan.starved rest gone.getLast?) s).queue =
      ((starve h g c).head h).log.queue := by
    rw [hg, closingRecords, if_neg (by simp [he]), if_pos ⟨hr, hv⟩, r.closing, v]
  have seq : ((starve h g c).head h).seq = (s.head h).seq := by rw [v, r.seq]
  have plan : ((starve h g c).head h).plan = ⟨rest, gone.getLast?.or (s.head h).plan.retained,
      some ⟨(g.endStation : Nat), s.toolStation h - (g.endStation : Nat)⟩⟩ := by rw [v, r.plan, htool]
  have reg : ((starve h g c).head h).reg = (c.head h).reg := by rw [v]
  have travelSet : ((starve h g c).head h).travelSet = (s.head h).travelSet := by
    rw [← r.travelSet, HeadUnit.travelSet, v]; rfl
  have present : (starve h g c).present h = true := by simpa [starve] using hp
  have state : (starve h g c).headState h = .weld := by simpa [starve, State.headState] using hw
  have tool : (starve h g c).toolStation h = s.toolStation h := by simpa [starve, State.toolStation] using htool
  have acc : ((starve h g c).head h).log.acc = (s.head h).log.acc := by rw [v]; simp [r.acc]
  have nextMark : ((starve h g c).head h).log.nextMark = (s.head h).log.nextMark := by rw [v]; simp [r.nextMark]
  have segments : ((starve h g c).head h).log.counters.segmentsCompleted =
      bump^[gone.length] (s.head h).log.counters.segmentsCompleted := by rw [v]; simp [r.segmentsCompleted]
  have seams : ((starve h g c).head h).log.counters.seamsInterrupted =
      (s.head h).log.counters.seamsInterrupted := by rw [v]; simp [r.seamsInterrupted]
  have not_exit : ∀ g', gone.getLast? = some g' → g'.endAction ≠ .exit := by
    rintro g' hg'
    rw [hg, Option.some.injEq] at hg'
    simp [← hg', he]
  have not_stays : ¬(gone = [] ∨ rest ≠ [] ∨ (s.head h).plan.starved ≠ none) := by
    rintro (rfl | hs | hs)
    · simp at hg
    · exact hs hr
    · exact hs hv
  rw [checkAllowance_eq h (by rw [plan]), travelSet]
  dsimp only
  split
  · next exhausted =>
    have i := interruptHead_interrupts h .planStarved _ present (by rw [state]; rfl)
    constructor
    case queue => rw [i.plan, plan]
    case retained => rw [i.plan, plan]
    case reg => rw [interruptHead_head_reg, reg, r.reg]
    case weldEntry => rw [i.seq, seq]
    case acc => rw [i.acc, acc]
    case nextMark => rw [i.nextMark, nextMark]
    case segmentsCompleted => rw [i.segmentsCompleted, segments]
    case records => exact records ▸ i.queue
    case exits => exact fun g' hg' he' => absurd he' (not_exit g' hg')
    case starves =>
      intro g' hg' _ _ _
      rw [hg, Option.some.injEq] at hg'
      rw [← hg', if_pos exhausted]
      exact ⟨i.state, by rw [i.seq], by rw [i.seq, tool], by rw [i.plan], by rw [i.seamsInterrupted, seams]⟩
    case stays => exact fun _ hs => absurd hs not_stays
  · next left =>
    constructor
    case queue => rw [plan]
    case retained => rw [plan]
    case reg => rw [reg, r.reg]
    case weldEntry => rw [seq]
    case acc => exact acc
    case nextMark => exact nextMark
    case segmentsCompleted => exact segments
    case records => exact records ▸ List.prefix_rfl
    case exits => exact fun g' hg' he' => absurd he' (not_exit g' hg')
    case starves =>
      intro g' hg' _ _ _
      rw [hg, Option.some.injEq] at hg'
      rw [← hg', if_neg left]
      exact ⟨state, by rw [plan]⟩
    case stays => exact fun _ hs => absurd hs not_stays

/-- The station check of a head in WELD whose queue is cut where the check stops. -/
theorem stationCheck_checked (h : Head) (gone rest : List Segment) (s : State) (hp : s.present h = true)
    (hw : s.headState h = .weld) (hq : (s.head h).plan.queue = gone ++ rest)
    (cut : StationCut (s.toolStation h) gone rest) : StationChecked h gone rest s (stationCheck h s) := by
  have r := completeRun_spec h gone rest s hp hq
  have present : (completeRun h gone rest s).present h = true := by simpa using hp
  have state : (completeRun h gone rest s).headState h = .weld := by simpa using hw
  have tool := completeRun_toolStation h h gone rest s
  rw [stationCheck_eq h gone rest s hq cut]
  cases hg : gone.getLast? with
  | none => exact stationChecked_stays r state (by simp [hg]) (.inl (List.getLast?_eq_none_iff.mp hg))
  | some g =>
    rw [stationEnd]
    cases he : g.endAction with
    | exit => exact stationChecked_exits r present state tool hg he
    | carryOn =>
      dsimp only
      rw [r.plan]
      split
      · next c => exact stationChecked_starves r present state tool hg he c.1 c.2
      · next c => exact stationChecked_stays r state (by simp [hg, he]) (.inr (by tauto))

/-! ## The entry to WELD (R42, R43, R63, R162, R22) -/

/-- A head that has just entered WELD from DWELL, before a re-entry's check of its plan. -/
def weldEntered (h : Head) (s : State) : State :=
  setHeadState h .weld (restartAccumulator h
    ((s.onSeq h fun q => { q with weldEntry := s.toolStation h }).onReg h Regulator.prepared))

theorem enterWeld_eq (h : Head) (s : State) : enterWeld h s =
    if (s.head h).seq.kind = .reentry then reentryCheck h (weldEntered h s) else weldEntered h s := rfl

/-- The first mark of a head at its entry to WELD: one effective pitch on (R162). -/
def entryMark (h : Head) (s : State) : PitchMark :=
  let doubled : Bool := decide (s.threshold h ≤ s.level h)
  let pitch : Nat := if doubled then 2 * s.settings.pitch else s.settings.pitch
  ⟨s.toolStation h + pitch, doubled⟩

/-- The log of a head at its entry to WELD (R162). -/
def entryLog (h : Head) (s : State) : HeadLog :=
  { (s.head h).log with acc := SampleAccumulator.clear, nextMark := some (entryMark h s) }

/-- On its entry station the grid's next mark is one pitch on. -/
theorem gridMark_at_entry (tool pitch : Int) : gridMark tool tool pitch = tool + pitch := by simp [gridMark]

theorem computeMark_at_entry (h : Head) (f : Regulator → Regulator) (s : State) :
    computeMark h ((s.onSeq h fun q => { q with weldEntry := s.toolStation h }).onReg h f) = entryMark h s := by
  have tool : ((s.onSeq h fun q => { q with weldEntry := s.toolStation h }).onReg h f).toolStation h =
      s.toolStation h := by simp [State.toolStation]
  have threshold : ((s.onSeq h fun q => { q with weldEntry := s.toolStation h }).onReg h f).threshold h =
      s.threshold h := by cases h <;> simp [State.threshold]
  unfold computeMark entryMark
  rw [tool, threshold]
  by_cases doubled : s.threshold h ≤ s.level h <;> simp [gridMark_at_entry, doubled]

theorem weldEntered_self (h : Head) (s : State) : (weldEntered h s).head h = { s.head h with
    seq := { (s.head h).seq with state := .weld, raising := false, weldEntry := s.toolStation h }
    reg := (s.head h).reg.prepared
    travel := ⟨(s.head h).travel.permitted, 0, 0⟩
    log := entryLog h s } := by
  have travel : (s.head h).travel.entering .weld = ⟨(s.head h).travel.permitted, 0, 0⟩ := rfl
  have raises : HeadState.weld.raises = false := rfl
  simp [weldEntered, setHeadState_self, restartAccumulator, computeMark_at_entry, entryLog, travel, raises]

@[simp] theorem weldEntered_headState (h : Head) (s : State) : (weldEntered h s).headState h = .weld := by
  simp [weldEntered]
@[simp] theorem weldEntered_present (h k : Head) (s : State) : (weldEntered h s).present k = s.present k := by
  simp [weldEntered, restartAccumulator]
@[simp] theorem weldEntered_port (h : Head) (s : State) : (weldEntered h s).port = s.port := by
  simp [weldEntered, restartAccumulator]
@[simp] theorem weldEntered_gov (h : Head) (s : State) : (weldEntered h s).gov = s.gov.taken := by
  simp [weldEntered, restartAccumulator, setHeadState_gov_engaged h (st := .weld) _ rfl (by decide)]
@[simp] theorem weldEntered_other (h : Head) (s : State) : (weldEntered h s).head h.other = s.head h.other := by
  simp [weldEntered, restartAccumulator, setHeadState_other_of_not_hold h (st := .weld) _ (by decide)]
theorem weldEntered_rest (h : Head) (s : State) : SameRest s (weldEntered h s) := by
  simp [SameRest, weldEntered, restartAccumulator]

@[simp] theorem weldEntered_toolStation (h : Head) (s : State) :
    (weldEntered h s).toolStation h = s.toolStation h := by
  rw [State.toolStation, State.toolStation, weldEntered_self, (weldEntered_rest h s).1]

/-- The next records of a head that has entered WELD are those of its state before, with its log begun anew. -/
theorem weldEntered_records (h : Head) (s : State) :
    SameRecords h (s.onHead h fun u => { u with log := entryLog h s }) (weldEntered h s) := by
  have same : ∀ k, ((weldEntered h s).head k).log = ((s.onHead h fun u => { u with log := entryLog h s }).head k).log := by
    intro k
    rcases head_cases h k with rfl | rfl
    · rw [weldEntered_self, onHead_self]
    · rw [weldEntered_other, onHead_other]
  exact .of_log (by simp) same

theorem logAll_queue_congr {h : Head} {s t : State} (r : SameRecords h s t) (bodies : List RecordBody) :
    (logAll h bodies t).queue = (logAll h bodies s).queue := (r.recordAll bodies).queue

/-! ### The plan store's check touches the two heads, the governor and the pool alone -/

theorem starve_rest (h : Head) (g : Segment) (s : State) : SameRest s (starve h g s) ∧ (starve h g s).port = s.port := by
  simp [SameRest, starve]

theorem checkAllowance_rest (h : Head) (s : State) :
    SameRest s (checkAllowance h s) ∧ (checkAllowance h s).port = s.port := by
  unfold checkAllowance
  split
  · split <;> simp [SameRest]
  · simp [SameRest]

theorem completeSegments_rest (n : Nat) (h : Head) (s : State) :
    SameRest s (completeSegments n h s) ∧ (completeSegments n h s).port = s.port := by
  induction n generalizing s with
  | zero => exact ⟨by simp [SameRest, completeSegments], rfl⟩
  | succ n ih =>
    have onward {t u : State} (a : SameRest s t ∧ t.port = s.port) (b : SameRest t u ∧ u.port = t.port) :
        SameRest s u ∧ u.port = s.port := ⟨a.1.trans b.1, b.2.trans a.2⟩
    have still : SameRest s s ∧ s.port = s.port := by simp [SameRest]
    rw [completeSegments]
    split
    · exact still
    · next g rest _ =>
      have completed : SameRest s (completeSegment h g rest s) ∧ (completeSegment h g rest s).port = s.port :=
        ⟨completeSegment_rest .., completeSegment_port ..⟩
      split
      · exact still
      · dsimp only
        split
        · exact onward completed (by simp [SameRest])
        · split
          · split
            · exact completed
            · exact onward (onward completed (starve_rest h g _)) (checkAllowance_rest h _)
          · exact onward completed (ih _)

theorem reentryCheck_rest (h : Head) (s : State) : SameRest s (reentryCheck h s) ∧ (reentryCheck h s).port = s.port := by
  unfold reentryCheck
  split
  · split
    · exact starve_rest h _ s
    · simp [SameRest]
  · exact completeSegments_rest _ h s

theorem enterWeld_rest (h : Head) (s : State) : SameRest s (enterWeld h s) ∧ (enterWeld h s).port = s.port := by
  rw [enterWeld_eq]
  split
  · have e := reentryCheck_rest h (weldEntered h s)
    exact ⟨(weldEntered_rest h s).trans e.1, e.2.trans (weldEntered_port h s)⟩
  · exact ⟨weldEntered_rest h s, weldEntered_port h s⟩

/-! ### The three ways of a re-entry (R22, R54) -/

/-- A fresh entry, or one whose first segment ends ahead of the tool, finds nothing to check. -/
theorem enterWeld_plain (h : Head) (s : State)
    (e : (s.head h).seq.kind = .fresh ∨
      ∃ g rest, (s.head h).plan.queue = g :: rest ∧ s.toolStation h < ((g.start + g.length : Nat) : Int)) :
    enterWeld h s = weldEntered h s := by
  rw [enterWeld_eq]
  split
  · next reentry =>
    obtain ⟨g, rest, hq, ahead⟩ := e.resolve_left (by simp [reentry])
    have queue : ((weldEntered h s).head h).plan.queue = g :: rest := by rw [weldEntered_self, hq]
    rw [reentryCheck, if_neg (by simp [queue]), stationCheck]
    refine completeSegments_ahead _ h _ fun g' hg' => ?_
    rw [queue, List.head?_cons, Option.some.injEq] at hg'
    rwa [weldEntered_toolStation, ← hg']
  · rfl

/-- A re-entry behind an empty queue starves the head at once. -/
theorem enterWeld_starved (h : Head) (s : State) (g : Segment) (hk : (s.head h).seq.kind = .reentry)
    (hq : (s.head h).plan.queue = []) (hg : (s.head h).plan.retained = some g) :
    enterWeld h s = starve h g (weldEntered h s) := by
  rw [enterWeld_eq, if_pos hk, reentryCheck, if_pos (by simp [weldEntered_self, hq])]
  simp [weldEntered_self, hg]

/-- A re-entry with segments left makes a station check. -/
theorem enterWeld_checked (h : Head) (s : State) (gone rest : List Segment) (hp : s.present h = true)
    (hk : (s.head h).seq.kind = .reentry) (hq : (s.head h).plan.queue = gone ++ rest) (hne : gone ≠ [])
    (cut : StationCut (s.toolStation h) gone rest) : StationChecked h gone rest (weldEntered h s) (enterWeld h s) := by
  have queue : ((weldEntered h s).head h).plan.queue = gone ++ rest := by rw [weldEntered_self, hq]
  rw [enterWeld_eq, if_pos hk, reentryCheck, if_neg (by simp [queue, hne])]
  exact stationCheck_checked h gone rest _ (by simpa using hp) (weldEntered_headState h s) queue (by simpa using cut)

/-- Where nothing saturated, no SEGMENT_END of a run counts one. -/
theorem endRecords_zero (tool : Int) (gone : List Segment) :
    endRecords tool 0 gone = gone.map fun g => g.endRecord tool 0 := by
  induction gone with
  | nil => rfl
  | cons g gs ih => rw [endRecords, ih, List.map_cons]

/-- Settles O49: the entry by itself, the starved entry, and the station check at the entry. -/
theorem dwellEndsInWeld : Obligations.DwellEndsInWeld := by
  unfold Obligations.DwellEndsInWeld
  intro h s hr hp hd ht doubled pitch log welding
  have taken : exec (.dwellElapsed h) s = .next (enterWeld h s) := by
    refine (running_negated (findDwellElapsed h) s hr).trans ?_
    rw [findDwellElapsed, if_pos (by simp [hp, hd, ht])]
  have entered : (weldEntered h s).head h = welding := weldEntered_self h s
  refine ⟨enterWeld h s, taken, (enterWeld_rest h s).1, ?_, ?_, ?_⟩
  · intro plain
    rw [enterWeld_plain h s plain]
    exact ⟨weldEntered_port h s, weldEntered_gov h s, weldEntered_other h s, entered⟩
  · intro g hk hq hg
    have logged := createRecord_logWith h (.starved (g.endStation : Nat) g.ref)
      (s := s.onHead h fun u => { u with log := log }) (t := weldEntered h s)
      (by simp) (weldEntered_records h s).common (by rw [entered, onHead_self])
    rw [enterWeld_starved h s g hk hq hg]
    refine ⟨by simp [starve], by simp [starve], by simp [starve], ?_⟩
    rw [starve_self, entered, logged, weldEntered_toolStation]
    rfl
  · intro gone rest hk hq hne hv tool u stop exits last records m behind carry stops
    have c := enterWeld_checked h s gone rest hp hk hq hne ⟨behind, carry, stops⟩
    obtain ⟨g, hg⟩ : ∃ g, gone.getLast? = some g := ⟨_, List.getLast?_eq_getLast_of_ne_nil hne⟩
    have ends : exits = true ↔ g.endAction = .exit := by simp [exits, hg]
    have same : ∀ b, (logAll h b (weldEntered h s)).queue = (logAll h b m).queue :=
      logAll_queue_congr (weldEntered_records h s)
    have written := c.records
    rw [same, entered, weldEntered_toolStation] at written
    have closing : closingRecords welding.seq.kind tool welding.plan.starved rest gone.getLast? = last := by
      have plan : welding.plan.starved = none := hv
      have kind : welding.seq.kind = .reentry := hk
      simp only [closingRecords, last, hg, plan, kind, ends, and_true]
      rfl
    rw [closing, show welding.reg.saturationCount = 0 from rfl, endRecords_zero] at written
    have carries : exits = false → g.endAction = .carryOn := by
      cases he : g.endAction <;> simp [exits, hg, he]
    have unstarved : ((weldEntered h s).head h).plan.starved = none := by rw [entered]; exact hv
    refine ⟨(enterWeld_rest h s).2, c.queue, ?_, c.weldEntry.trans ?_, c.reg.trans ?_, c.acc.trans ?_,
      c.nextMark.trans ?_, c.segmentsCompleted.trans ?_, written, ?_, ?_, ?_⟩
    · exact c.retained.trans (by rw [hg]; rfl)
    · rw [entered]
    · rw [entered, if_neg hne]
    · rw [entered]
    · rw [entered]
    · rw [entered]
    · intro he
      obtain ⟨state, starved, ramp, spindle, track, travel, seams, speed, -⟩ := c.exits g hg (ends.mp he)
      rw [entered] at spindle track seams
      exact ⟨state, starved, ramp, spindle, track, travel, seams, speed⟩
    · intro he hrest
      obtain ⟨state, starved, -⟩ := c.stays (by simp [hg, carries he]) (.inr (.inl hrest))
      exact ⟨state, starved.trans unstarved⟩
    · intro g' he hrest hg'
      have starves := c.starves g' hg' (by rw [hg, Option.some.injEq] at hg'; exact hg' ▸ carries he) hrest unstarved
      rw [weldEntered_toolStation, entered] at starves
      change if ((s.head h).travelSet.starvationAllowance : Int) ≤ tool - stop g' then _ else _ at starves
      split
      · next exhausted =>
        rw [if_pos exhausted] at starves
        obtain ⟨state, cause, station, starved, -⟩ := starves
        exact ⟨state, cause, station, starved⟩
      · next left => rwa [if_neg left] at starves

end Sys2Proof.Machine

namespace Sys2Proof.Machine
open Relation

/-! ## The work of a head sample, step by step

Every piece of work of a sample but the plan store's, and the sequencer's where it leaves a state of its own accord, is a
run of five kinds of step. What such a run keeps is shown once, on the steps. -/

/-- Records and counts of a head, the counts of segments and of seams aside, and nothing else about the sample. -/
structure Noted (h : Head) (s t : State) : Prop where
  self : t.head h = { s.head h with log := (t.head h).log }
  other : t.head h.other = s.head h.other
  gov : t.gov = s.gov
  gantry : t.gantry = s.gantry
  present : t.present h = s.present h
  records : (s.head h).log.queue <+: (t.head h).log.queue
  segmentsCompleted : (t.head h).log.counters.segmentsCompleted = (s.head h).log.counters.segmentsCompleted
  seamsCompleted : (t.head h).log.counters.seamsCompleted = (s.head h).log.counters.seamsCompleted
  seamsInterrupted : (t.head h).log.counters.seamsInterrupted = (s.head h).log.counters.seamsInterrupted

theorem Noted.refl (h : Head) (s : State) : Noted h s s := ⟨rfl, rfl, rfl, rfl, rfl, List.prefix_rfl, rfl, rfl, rfl⟩

theorem Noted.trans {h : Head} {s t u : State} (a : Noted h s t) (b : Noted h t u) : Noted h s u where
  self := b.self.trans (by rw [a.self])
  other := b.other.trans a.other
  gov := b.gov.trans a.gov
  gantry := b.gantry.trans a.gantry
  present := b.present.trans a.present
  records := a.records.trans b.records
  segmentsCompleted := b.segmentsCompleted.trans a.segmentsCompleted
  seamsCompleted := b.seamsCompleted.trans a.seamsCompleted
  seamsInterrupted := b.seamsInterrupted.trans a.seamsInterrupted

theorem createRecord_noted (h : Head) (b : RecordBody) (co : Bool) (s : State) : Noted h s (createRecord h b co s) where
  self := createRecord_self h b co s
  other := by simp
  gov := by simp
  gantry := by simp
  present := by simp
  records := createRecord_grows h h b co s
  segmentsCompleted := by simp
  seamsCompleted := by simp
  seamsInterrupted := by simp

/-- A count of another item than segments and seams. -/
theorem countHead_noted (h : Head) (f : HeadCounters → HeadCounters) (s : State)
    (hg : ∀ c, (f c).segmentsCompleted = c.segmentsCompleted) (hs : ∀ c, (f c).seamsCompleted = c.seamsCompleted)
    (hi : ∀ c, (f c).seamsInterrupted = c.seamsInterrupted) : Noted h s (countHead h f s) where
  self := countHead_self h f s
  other := by simp
  gov := by simp
  gantry := by simp
  present := by simp
  records := by rw [countHead_queue]
  segmentsCompleted := countHead_keeps HeadCounters.segmentsCompleted h h f s hg
  seamsCompleted := countHead_keeps HeadCounters.seamsCompleted h h f s hs
  seamsInterrupted := countHead_keeps HeadCounters.seamsInterrupted h h f s hi

/-- What the accumulator and the pitch mark take. -/
theorem onLog_noted (h : Head) (f : HeadLog → HeadLog) (s : State) (hq : ∀ l, (f l).queue = l.queue)
    (hc : ∀ l, (f l).counters = l.counters) : Noted h s (s.onLog h f) where
  self := by simp
  other := by simp
  gov := by simp
  gantry := by simp
  present := by simp
  records := by simp [hq]
  segmentsCompleted := by simp [hc]
  seamsCompleted := by simp [hc]
  seamsInterrupted := by simp [hc]

theorem tick_noted (h : Head) (s : State) : Noted h s s.tick := by constructor <;> simp

/-- One step of the work of a sample; `r` says whether the regulator's items are written. A welding head alone has
sequencer items written that are not its state. -/
inductive WorkStep (h : Head) (r : Bool) : State → State → Prop
  | notes {s t : State} (n : Noted h s t) : WorkStep h r s t
  | steers (s : State) (f : Tracking → Tracking) : WorkStep h r s (s.onTrack h f)
  | regulates (s : State) (f : Regulator → Regulator) (hr : r = true) : WorkStep h r s (s.onReg h f)
  | sequences (s : State) (f : Sequencer → Sequencer) (hw : (s.headState h).welding = true)
      (hf : ∀ q, (f q).state = q.state ∧ (f q).kind = q.kind ∧ (f q).originTaken = q.originTaken) :
      WorkStep h r s (s.onSeq h f)
  | interrupts (s : State) (c : Cause) : WorkStep h r s (interruptHead h c s)

/-- A run of such steps. -/
structure Work (h : Head) (r : Bool) (s t : State) : Prop where
  steps : ReflTransGen (WorkStep h r) s t

theorem Work.refl (h : Head) {r : Bool} (s : State) : Work h r s s := ⟨.refl⟩

section
variable {h : Head} {r : Bool} {s t u : State}

theorem Work.trans (v : Work h r s t) (w : Work h r t u) : Work h r s u := ⟨v.steps.trans w.steps⟩
theorem Work.tail (w : Work h r s t) (x : WorkStep h r t u) : Work h r s u := ⟨w.steps.tail x⟩
theorem Work.notes (w : Work h r s t) (n : Noted h t u) : Work h r s u := w.tail (.notes n)
theorem Work.steers (w : Work h r s t) (f : Tracking → Tracking) : Work h r s (t.onTrack h f) := w.tail (.steers t f)
theorem Work.regulates (w : Work h true s t) (f : Regulator → Regulator) : Work h true s (t.onReg h f) :=
  w.tail (.regulates t f rfl)
theorem Work.interrupts (w : Work h r s t) (c : Cause) : Work h r s (interruptHead h c t) := w.tail (.interrupts t c)
theorem Work.records (w : Work h r s t) (b : RecordBody) (co : Bool) : Work h r s (createRecord h b co t) :=
  w.notes (createRecord_noted h b co t)

/-- Both ways of a condition are work. -/
theorem Work.of_ite {c : Prop} [Decidable c] {a b : State} (ha : c → Work h r s a) (hb : ¬c → Work h r s b) :
    Work h r s (if c then a else b) := by
  split
  · next hc => exact ha hc
  · next hc => exact hb hc

end

/-! ### The pieces of work are such runs -/

section
variable {r : Bool}

theorem recordExcursion_work {h : Head} {s t : State} (w : Work h r s t) (x : Excursion) :
    Work h r s (recordExcursion h x t) :=
  (w.records _ _).notes (countHead_noted h _ _ (fun _ => rfl) (fun _ => rfl) fun _ => rfl)

/-- Stages 1 to 6 of a sample on the segment `g` (R64 to R71). -/
def regulation (h : Head) (g : Segment) (s : State) : Regulator × Int :=
  let u := s.head h
  regulate u.regulator g (u.seq.state == .pause) u.front.temp.effective u.front.force.effective u.reg u.seq.depth

/-- The head after these stages, a saturated sample counted. -/
def regulated (h : Head) (g : Segment) (s : State) : State :=
  let r := regulation h g s
  let s1 := (s.onReg h fun _ => r.1).onSeq h fun q => { q with depth := r.2 }
  if r.1.saturated then countHead h (fun c => { c with saturatedSamples := bump c.saturatedSamples }) s1 else s1

/-- A regulator sample is the six stages and the excursion watch (R77). -/
theorem regulatorSample_eq (h : Head) (split : Bool) (s : State) {g : Segment} (hg : (s.head h).plan.inForce = some g) :
    regulatorSample h split s = if ((regulated h g s).head h).excursionDue then
      reportExcursion h g split (regulated h g s) else regulated h g s := by
  unfold regulatorSample
  simp only [hg]
  rfl

theorem regulated_work (h : Head) (g : Segment) (s : State) (hw : (s.headState h).welding = true) :
    Work h true s (regulated h g s) := by
  have stages : Work h true s ((s.onReg h fun _ => (regulation h g s).1).onSeq h fun q =>
      { q with depth := (regulation h g s).2 }) :=
    ((Work.refl h s).regulates _).tail (.sequences _ _ (by simpa using hw) fun q => ⟨rfl, rfl, rfl⟩)
  exact .of_ite (fun _ => stages.notes (countHead_noted h _ _ (fun _ => rfl) (fun _ => rfl) fun _ => rfl))
    fun _ => stages

theorem regulatorSample_work (h : Head) (split : Bool) (s : State) (hw : (s.headState h).welding = true) :
    Work h true s (regulatorSample h split s) := by
  cases hg : (s.head h).plan.inForce with
  | none =>
    have idle : regulatorSample h split s = s := by simp only [regulatorSample, hg]
    rw [idle]
    exact .refl h s
  | some g =>
    have w := regulated_work h g s hw
    rw [regulatorSample_eq h split s hg]
    refine .of_ite (fun _ => ?_) fun _ => w
    exact .of_ite (fun _ => (w.regulates _).regulates _) fun _ => recordExcursion_work (w.regulates _) _

theorem regulatorWork_work (h : Head) (found : HeadState) (split : Bool) (s : State) :
    Work h true s (regulatorWork h found split s) :=
  .of_ite (fun c => regulatorSample_work h split s (by simp at c; exact c.2)) fun _ => .refl h s

theorem forceRunWork_work (h : Head) (found : HeadState) (split : Bool) (s : State) :
    Work h true s (forceRunWork h found split s) :=
  .of_ite (fun _ => ((Work.refl h s).regulates _).interrupts _) fun _ => (Work.refl h s).regulates _

theorem logWork_work (h : Head) (found : HeadState) (a b : Bool) (s : State) : Work h r s (logWork h found a b s) := by
  have add : Work h r s (s.onLog h fun l => { l with acc := l.acc.add ((s.head h).sampleValues a b) }) :=
    (Work.refl h s).notes (onLog_noted h _ s (fun _ => rfl) fun _ => rfl)
  refine .of_ite (fun _ => .of_ite (fun _ => ?_) fun _ => add) fun _ => .refl h s
  unfold emitAtMark
  dsimp only
  split
  · exact .of_ite (fun _ => (add.records _ _).notes (onLog_noted h _ _ (fun _ => rfl) fun _ => rfl)) fun _ => add
  · exact add

theorem checkGap_work {h : Head} {s t : State} (w : Work h r s t) (g : Segment) (e : TrackEntry) :
    Work h r s (checkGap h g e t) := by
  refine .of_ite (fun _ => ?_) fun _ => w.steers _
  split
  · exact .of_ite (fun _ => w) fun _ => (w.steers _).records _ _
  · exact w.records _ _

theorem checkMismatch_work {h : Head} {s t : State} (w : Work h r s t) (g : Segment) (e : TrackEntry) :
    Work h r s (checkMismatch h g e t) :=
  .of_ite (fun _ => .of_ite (fun _ => w) fun _ => (w.steers _).records _ _) fun _ => w.steers _

theorem activate_work {h : Head} {s t : State} (w : Work h r s t) (g : Segment) (e : TrackEntry) (first : Bool) :
    Work h r s (activate h g e first t) :=
  have gap := checkGap_work (w.steers _) g e
  checkMismatch_work (.of_ite (fun _ => gap.interrupts _) fun _ => gap) g e

theorem steer_work {h : Head} {s t : State} (w : Work h r s t) (on : Bool) (e : Option TrackEntry) :
    Work h r s (steer h on e t) := by
  unfold steer
  exact w.steers _

theorem checkLoss_work {h : Head} {s t : State} (w : Work h r s t) (g : Segment) (reference : Int) :
    Work h r s (checkLoss h g reference t) :=
  .of_ite (fun _ => (((w.steers _).records _ _).notes
    (countHead_noted h (fun c => { c with trackLosses := bump c.trackLosses }) _ (fun _ => rfl) (fun _ => rfl)
      fun _ => rfl)).interrupts _) fun _ => w.steers _

theorem trackWelding_work {h : Head} {s t : State} (w : Work h r s t) (weld first : Bool) (g : Segment) :
    Work h r s (trackWelding h weld first g t) := by
  unfold trackWelding
  extract_lets due s1 s2 s3
  have activated : Work h r s s1 := by
    unfold s1
    cases due with
    | some e => exact activate_work w g e first
    | none => exact w
  have steered : Work h r s s2 := steer_work activated _ _
  have tested : Work h r s s3 := .of_ite (fun _ => checkLoss_work steered _ _) fun _ => steered
  exact .of_ite (fun _ => tested.interrupts _) fun _ => tested

theorem trackAfterLeaving_work (h : Head) (read : HeadUnit) (first : Bool) (s : State) :
    Work h r s (trackAfterLeaving h read first s) := by
  have trimmed : Work h r s (s.onTrack h fun _ => read.track.trim) := (Work.refl h s).steers _
  unfold trackAfterLeaving
  extract_lets s1 s2
  have worked : Work h r s s2 := by
    unfold s2
    split
    · exact trackWelding_work trimmed _ _ _
    · exact trimmed
  exact .of_ite (fun _ => worked) fun _ => worked.steers _

theorem trackWork_work (h : Head) (read : HeadUnit) (first : Bool) (s : State) :
    Work h r s (trackWork h read first s) := by
  have trimmed : Work h r s (s.onTrack h Tracking.trim) := (Work.refl h s).steers _
  unfold trackWork
  dsimp only
  refine .of_ite (fun _ => .of_ite (fun _ => ?_) fun _ => trackAfterLeaving_work ..) fun _ =>
    .of_ite (fun _ => steer_work trimmed _ _) fun _ => trimmed
  split
  · exact trackWelding_work trimmed _ _ _
  · exact trimmed

theorem graceWork_work (h : Head) (found : HeadState) (split : Bool) (s : State) :
    Work h r s (graceWork h found split s) := .of_ite (fun _ => (Work.refl h s).interrupts _) fun _ => .refl h s

/-- A check at a sample that did not find a start. -/
theorem checkWork_work (h : Head) {found : HeadState} (c : FaultCheck) (s : State) (hs : found.starting = false) :
    Work h r s (checkWork h found c s) := by
  unfold checkWork
  refine .of_ite (fun _ => .refl h s) fun _ => .of_ite (fun _ => (Work.refl h s).interrupts _) fun _ => ?_
  split
  · rw [if_neg (by simp [hs])]
    exact .refl h s
  · exact .refl h s

/-- The sequencer's work at a sample that found a welding head. -/
theorem sequencerWork_work (h : Head) {found : HeadState} (split : Bool) (s : State) (hw : found.welding = true) :
    Work h r s (sequencerWork h found split s) := by
  refine .of_ite (fun e => ?_) fun _ => .refl h s
  have follows : sequenceWork h split s = followSpindle h s := by
    revert hw
    unfold sequenceWork
    rw [e]
    cases found <;> simp [HeadState.welding]
  have speed (n : Nat) : Work h r s (s.onSeq h fun q => { q with spindle := n }) :=
    (Work.refl h s).tail (.sequences s _ (by rw [e, hw]) fun q => ⟨rfl, rfl, rfl⟩)
  rw [follows, followSpindle]
  split
  · exact speed _
  · exact (speed _).notes (tick_noted h _)

end

/-! ### What such a run keeps -/

/-- What the work of a sample keeps of a head: the plan's segments, what the station check reads, and either the state and
the starvation or an interrupt (R20, R45). -/
structure Worked (h : Head) (s t : State) : Prop where
  present : t.present h = s.present h
  tool : t.toolStation h = s.toolStation h
  kind : (t.head h).seq.kind = (s.head h).seq.kind
  profiles : (t.head h).profiles = (s.head h).profiles
  front : (t.head h).front = (s.head h).front
  queue : (t.head h).plan.queue = (s.head h).plan.queue
  retained : (t.head h).plan.retained = (s.head h).plan.retained
  segmentsCompleted : (t.head h).log.counters.segmentsCompleted = (s.head h).log.counters.segmentsCompleted
  records : (s.head h).log.queue <+: (t.head h).log.queue
  stays : t.headState h = s.headState h ∧ (t.head h).plan.starved = (s.head h).plan.starved ∨
    t.headState h = .interrupting ∧ (t.head h).plan.starved = none

theorem Worked.refl (h : Head) (s : State) : Worked h s s :=
  ⟨rfl, rfl, rfl, rfl, rfl, rfl, rfl, rfl, List.prefix_rfl, .inl ⟨rfl, rfl⟩⟩

theorem Worked.trans {h : Head} {s t u : State} (a : Worked h s t) (b : Worked h t u) : Worked h s u where
  present := b.present.trans a.present
  tool := b.tool.trans a.tool
  kind := b.kind.trans a.kind
  profiles := b.profiles.trans a.profiles
  front := b.front.trans a.front
  queue := b.queue.trans a.queue
  retained := b.retained.trans a.retained
  segmentsCompleted := b.segmentsCompleted.trans a.segmentsCompleted
  records := a.records.trans b.records
  stays := by
    rcases b.stays with ⟨state, starved⟩ | left
    · rw [state, starved]
      exact a.stays
    · exact .inr left

theorem Noted.worked {h : Head} {s t : State} (n : Noted h s t) : Worked h s t := by
  have self := n.self
  constructor
  case present => exact n.present
  case tool => rw [State.toolStation, State.toolStation, n.gantry, self]
  case segmentsCompleted => exact n.segmentsCompleted
  case records => exact n.records
  case stays => exact .inl ⟨by rw [State.headState, self]; rfl, by rw [self]⟩
  all_goals rw [self]

theorem interruptHead_worked (h : Head) (c : Cause) (s : State) (hp : s.present h = true) :
    Worked h s (interruptHead h c s) := by
  by_cases ha : c.actsIn (s.headState h) = true
  · have i := interruptHead_interrupts h c s hp ha
    constructor
    case present => simp
    case tool => rw [State.toolStation, State.toolStation, interruptHead_gantry, i.seq]
    case kind => rw [i.seq]
    case profiles => simp
    case front => simp
    case queue => rw [i.plan]
    case retained => rw [i.plan]
    case segmentsCompleted => exact i.segmentsCompleted
    case records => exact i.queue
    case stays => exact .inr ⟨i.state, by rw [i.plan]⟩
  · rw [interruptHead, if_neg ha]
    exact .refl h s

theorem WorkStep.worked {h : Head} {r : Bool} {s t : State} (x : WorkStep h r s t) (hp : s.present h = true) : Worked h s t := by
  cases x with
  | notes n => exact n.worked
  | steers f => constructor <;> simp [State.headState, State.toolStation]
  | regulates f hr => constructor <;> simp [State.headState, State.toolStation]
  | sequences f hw hf => constructor <;> simp [State.headState, State.toolStation, hf]
  | interrupts c => exact interruptHead_worked h c s hp

theorem Work.worked {h : Head} {r : Bool} {s t : State} (w : Work h r s t) (hp : s.present h = true) : Worked h s t := by
  obtain ⟨steps⟩ := w
  induction steps with
  | refl => exact .refl h s
  | tail _ x ih => exact ih.trans (x.worked (ih.present.trans hp))

/-- What the work of a sample keeps of a head that has left WELD and PAUSE at this sample. -/
structure Aside (h : Head) (s t : State) : Prop where
  seq : (t.head h).seq = (s.head h).seq
  plan : (t.head h).plan = (s.head h).plan
  travel : (t.head h).travel = (s.head h).travel
  gov : t.gov = s.gov
  other : t.head h.other = s.head h.other
  seamsCompleted : (t.head h).log.counters.seamsCompleted = (s.head h).log.counters.seamsCompleted
  seamsInterrupted : (t.head h).log.counters.seamsInterrupted = (s.head h).log.counters.seamsInterrupted

theorem Aside.refl (h : Head) (s : State) : Aside h s s := ⟨rfl, rfl, rfl, rfl, rfl, rfl, rfl⟩

theorem Aside.trans {h : Head} {s t u : State} (a : Aside h s t) (b : Aside h t u) : Aside h s u :=
  ⟨b.seq.trans a.seq, b.plan.trans a.plan, b.travel.trans a.travel, b.gov.trans a.gov, b.other.trans a.other,
    b.seamsCompleted.trans a.seamsCompleted, b.seamsInterrupted.trans a.seamsInterrupted⟩

theorem Aside.headState {h : Head} {s t : State} (a : Aside h s t) : t.headState h = s.headState h := by
  rw [State.headState, a.seq, State.headState]

/-- Outside the material no cause acts. -/
theorem interruptHead_outside (h : Head) (c : Cause) (s : State) (hm : (s.headState h).inMaterial = false) :
    interruptHead h c s = s := by
  rw [interruptHead, if_neg]
  intro ha
  rw [Cause.actsIn_inMaterial ha] at hm
  cases hm

theorem HeadState.welding_inMaterial {st : HeadState} (hm : st.inMaterial = false) : st.welding = false := by
  revert hm
  cases st <;> decide

theorem WorkStep.aside {h : Head} {r : Bool} {s t : State} (x : WorkStep h r s t) (hm : (s.headState h).inMaterial = false) :
    Aside h s t := by
  cases x with
  | notes n =>
    have self := n.self
    exact ⟨by rw [self], by rw [self], by rw [self], n.gov, n.other, n.seamsCompleted, n.seamsInterrupted⟩
  | steers f => constructor <;> simp
  | regulates f hr => constructor <;> simp
  | sequences f hw hf => simp [HeadState.welding_inMaterial hm] at hw
  | interrupts c =>
    rw [interruptHead_outside h c s hm]
    exact .refl h s

theorem Work.aside {h : Head} {r : Bool} {s t : State} (w : Work h r s t) (hm : (s.headState h).inMaterial = false) :
    Aside h s t := by
  obtain ⟨steps⟩ := w
  induction steps with
  | refl => exact .refl h s
  | tail _ x ih => exact ih.trans (x.aside (by rw [ih.headState, hm]))

theorem WorkStep.reg {h : Head} {s t : State} (x : WorkStep h false s t) : (t.head h).reg = (s.head h).reg := by
  cases x with
  | notes n => rw [n.self]
  | steers f => simp
  | regulates f hr => cases hr
  | sequences f hw hf => simp
  | interrupts c => simp

/-- Without the regulator's work its items stay. -/
theorem Work.reg {h : Head} {s t : State} (w : Work h false s t) : (t.head h).reg = (s.head h).reg := by
  obtain ⟨steps⟩ := w
  induction steps with
  | refl => rfl
  | tail _ x ih => exact x.reg.trans ih

/-! ### Lists of pieces of work -/

/-- A piece of work that is such a run at a sample which found the head in a state. -/
structure PlainAct (found : HeadState) (r : Bool) (a : SampleAct) : Prop where
  regulator : a = .regulator ∨ a = .forceRun → r = true
  station : a = .station → found.welding = false
  sequence : a = .sequence → found.welding = true
  check : ∀ c, a = .check c → found.starting = false

/-- The plan store works in WELD and PAUSE alone (R10, R17). -/
theorem planWork_outside (h : Head) {found : HeadState} (s : State) (hw : found.welding = false) :
    planWork h found s = s := by
  have hn : ¬(found = .weld ∧ s.headState h = .weld) := by
    rintro ⟨rfl, -⟩
    cases hw
  unfold planWork
  dsimp only
  rw [if_neg hn, if_neg (by simp [hw])]

theorem blockAct_work (h : Head) (read : HeadUnit) (o : SampleOrder) {r : Bool} (s : State) {a : SampleAct}
    (p : PlainAct read.seq.state r a) : Work h r s (blockAct h read o s a) := by
  cases a with
  | regulator =>
    obtain rfl := p.regulator (.inl rfl)
    exact regulatorWork_work h _ _ s
  | forceRun =>
    obtain rfl := p.regulator (.inr rfl)
    exact forceRunWork_work h _ _ s
  | station =>
    rw [blockAct, planWork_outside h s (p.station rfl)]
    exact .refl h s
  | track => exact trackWork_work h read _ s
  | log => exact .refl h s
  | grace => exact graceWork_work h _ _ s
  | check c => exact checkWork_work h c s (p.check c rfl)
  | sequence => exact sequencerWork_work h _ s (p.sequence rfl)

/-- One piece of work in its place among the others. -/
def placedAct (h : Head) (read : HeadUnit) (o : SampleOrder) (a : SampleAct) (rest : List SampleAct) (s : State) : State :=
  if a = .log then
    logWork h read.seq.state (handedFlags h read o rest s).1 (handedFlags h read o rest s).2 s
  else blockAct h read o s a

theorem sampleActs_cons (h : Head) (read : HeadUnit) (o : SampleOrder) (a : SampleAct) (rest : List SampleAct)
    (s : State) : sampleActs h read o (a :: rest) s = sampleActs h read o rest (placedAct h read o a rest s) := rfl

theorem placedAct_work (h : Head) (read : HeadUnit) (o : SampleOrder) {r : Bool} {a : SampleAct} (rest : List SampleAct)
    (s : State) (p : PlainAct read.seq.state r a) : Work h r s (placedAct h read o a rest s) :=
  .of_ite (fun _ => logWork_work h _ _ _ s) fun _ => blockAct_work h read o s p

theorem placedAct_block (h : Head) (read : HeadUnit) (o : SampleOrder) {a : SampleAct} (rest : List SampleAct)
    (s : State) (ha : a ≠ .log) : placedAct h read o a rest s = blockAct h read o s a := if_neg ha

/-- Plain pieces of work lead to a state from which the others go on. -/
theorem sampleActs_front (h : Head) (read : HeadUnit) (o : SampleOrder) {r : Bool} (front rest : List SampleAct)
    (s : State) (p : ∀ a ∈ front, PlainAct read.seq.state r a) :
    ∃ m, Work h r s m ∧ sampleActs h read o (front ++ rest) s = sampleActs h read o rest m := by
  induction front generalizing s with
  | nil => exact ⟨s, .refl h s, rfl⟩
  | cons a l ih =>
    obtain ⟨m, w, e⟩ := ih (placedAct h read o a (l ++ rest) s) fun b hb => p b (List.mem_cons_of_mem _ hb)
    exact ⟨m, (placedAct_work h read o _ s (p a List.mem_cons_self)).trans w, e⟩

theorem sampleActs_work (h : Head) (read : HeadUnit) (o : SampleOrder) {r : Bool} (l : List SampleAct) (s : State)
    (p : ∀ a ∈ l, PlainAct read.seq.state r a) : Work h r s (sampleActs h read o l s) := by
  obtain ⟨m, w, e⟩ := sampleActs_front h read o l [] s p
  rw [← List.append_nil l, e]
  exact w

/-! ### The lookahead queue of a head that has entered EXIT (R116) -/

/-- Empty, and nothing of it active or flagged (R116). -/
structure Tracking.Idle (x : Tracking) : Prop where
  queue : x.queue = []
  activeFirst : x.activeFirst = false
  gapSlow : x.gapSlow = false
  mismatchLatch : x.mismatchLatch = false

theorem Tracking.emptied_idle (x : Tracking) : x.emptied.Idle := ⟨rfl, rfl, rfl, rfl⟩

theorem trackWork_idle (h : Head) (read : HeadUnit) (first : Bool) (s : State) (hw : read.seq.state.welding = true)
    (hs : s.headState h = .exit) : ((trackWork h read first s).head h).track.Idle := by
  have st : (s.headState h).welding = false := by rw [hs]; rfl
  unfold trackWork
  dsimp only
  rw [if_pos hw, if_neg (by simp [st])]
  unfold trackAfterLeaving
  dsimp only
  rw [if_neg (by simp [hs])]
  constructor <;> simp [emptyTrack]

theorem placedAct_idle (h : Head) (read : HeadUnit) (o : SampleOrder) {a : SampleAct} (rest : List SampleAct) (s : State)
    (hw : read.seq.state.welding = true) (hs : s.headState h = .exit) (ha : a ≠ .station)
    (hi : (s.head h).track.Idle) : ((placedAct h read o a rest s).head h).track.Idle := by
  have st : (s.headState h).welding = false := by rw [hs]; rfl
  have elsewhere : s.headState h ≠ read.seq.state := by
    intro e
    rw [e, hw] at st
    cases st
  have material : read.seq.state.inMaterial = true := by
    revert hw
    cases read.seq.state <;> decide
  by_cases hl : a = .log
  · rw [placedAct, if_pos hl, logWork, if_neg (by simp [st])]
    exact hi
  rw [placedAct_block h read o rest s hl]
  cases a with
  | station => exact absurd rfl ha
  | log => exact absurd rfl hl
  | track => exact trackWork_idle h read _ s hw hs
  | regulator =>
    rw [blockAct, regulatorWork, if_neg (by simp [st])]
    exact hi
  | sequence =>
    rw [blockAct, sequencerWork, if_neg elsewhere]
    exact hi
  | forceRun =>
    simp only [blockAct, forceRunWork]
    split <;> simpa using hi
  | grace =>
    simp only [blockAct, graceWork]
    split <;> simpa using hi
  | check c =>
    simp only [blockAct, checkWork, material, if_true]
    split <;> simpa using hi

/-- The lookahead queue stays empty to the end of the sample. -/
theorem sampleActs_idle (h : Head) (read : HeadUnit) (o : SampleOrder) (l : List SampleAct) (s : State)
    (hw : read.seq.state.welding = true) (p : ∀ a ∈ l, PlainAct read.seq.state true a) (hs : s.headState h = .exit)
    (hi : (s.head h).track.Idle) : ((sampleActs h read o l s).head h).track.Idle := by
  induction l generalizing s with
  | nil => exact hi
  | cons a rest ih =>
    have pa := p a List.mem_cons_self
    have station : a ≠ .station := fun e => by
      have := pa.station e
      rw [hw] at this
      cases this
    have state := ((placedAct_work h read o rest s pa).aside (by rw [hs]; rfl)).headState
    exact ih _ (fun b hb => p b (List.mem_cons_of_mem _ hb)) (state.trans hs)
      (placedAct_idle h read o rest s hw hs station hi)

/-! ### The place of the station check among the pieces of work (log 1) -/

theorem mem_firstOccurrences {α : Type} [DecidableEq α] (seen l : List α) (a : α) :
    a ∈ firstOccurrences seen l ↔ a ∈ l ∧ a ∉ seen := by
  induction l generalizing seen with
  | nil => simp [firstOccurrences]
  | cons x rest ih =>
    rw [firstOccurrences]
    split
    · next hx =>
      rw [ih]
      grind
    · next hx =>
      rw [List.mem_cons, ih]
      grind

theorem firstOccurrences_nodup {α : Type} [DecidableEq α] (seen l : List α) : (firstOccurrences seen l).Nodup := by
  induction l generalizing seen with
  | nil => exact List.nodup_nil
  | cons x rest ih =>
    rw [firstOccurrences]
    split
    · exact ih seen
    · exact List.nodup_cons.mpr ⟨by simp [mem_firstOccurrences], ih _⟩

/-- What is no work of the log is not passed over. -/
theorem mem_logAfterRegulator {a : SampleAct} (ha : a ≠ .log) (l : List SampleAct) :
    a ∈ logAfterRegulator l ↔ a ∈ l := by
  induction l with
  | nil => rfl
  | cons x rest ih =>
    rw [logAfterRegulator]
    split
    · rfl
    · split
      · next hx => simp [ih, hx, ha]
      · simp [ih]

theorem station_mem_actOrder (o : SampleOrder) : .station ∈ actOrder o := by
  rw [actOrder, mem_firstOccurrences, mem_logAfterRegulator (by decide)]
  simp [defaultActs]

/-- The station check comes once, and first where the order takes it first. -/
theorem actOrder_split (o : SampleOrder) : ∃ front rest, actOrder o = front ++ .station :: rest ∧ .station ∉ front ∧
    .station ∉ rest ∧ (o.acts.head? = some .station → front = []) := by
  obtain ⟨front, rest, e⟩ := List.append_of_mem (station_mem_actOrder o)
  have once : (front ++ SampleAct.station :: rest).Nodup := e ▸ firstOccurrences_nodup ..
  have apart := List.nodup_append.mp once
  have behind := List.nodup_cons.mp apart.2.1
  have before : SampleAct.station ∉ front := fun hf => apart.2.2 _ hf _ List.mem_cons_self rfl
  refine ⟨front, rest, e, before, behind.1, fun hh => ?_⟩
  obtain ⟨acts, ha⟩ : ∃ acts, o.acts = .station :: acts := List.head?_eq_some_iff.mp hh
  have first : (actOrder o).head? = some .station := by
    simp [actOrder, ha, logAfterRegulator, firstOccurrences]
  cases front with
  | nil => rfl
  | cons a l =>
    rw [e] at first
    simp at first
    simp [first] at before

theorem actOrder_default (o : SampleOrder) (hn : o.acts = []) : actOrder o = defaultActs := by
  simp only [actOrder, hn, List.nil_append]
  decide

/-! ### The distance used, taken anew (R17) -/

theorem onPlan_fixed (h : Head) (f : PlanStore → PlanStore) (s : State) (e : f (s.head h).plan = (s.head h).plan) :
    s.onPlan h f = s := by
  cases h <;> simp_all [State.onPlan, State.onHead, State.head]

/-- What the plan store's measure of a welding head does. -/
structure PlanMeasured (h : Head) (s t : State) : Prop where
  present : t.present h = s.present h
  kind : (t.head h).seq.kind = (s.head h).seq.kind
  tool : t.toolStation h = s.toolStation h
  profiles : (t.head h).profiles = (s.head h).profiles
  front : (t.head h).front = (s.head h).front
  reg : (t.head h).reg = (s.head h).reg
  queue : (t.head h).plan.queue = (s.head h).plan.queue
  retained : (t.head h).plan.retained = (s.head h).plan.retained
  segmentsCompleted : (t.head h).log.counters.segmentsCompleted = (s.head h).log.counters.segmentsCompleted
  records : (s.head h).log.queue <+: (t.head h).log.queue
  fed : (s.head h).plan.starved = none → t.headState h = s.headState h ∧ (t.head h).plan.starved = none
  starved : ∀ v, (s.head h).plan.starved = some v →
    if ((s.head h).travelSet.starvationAllowance : Int) ≤ s.toolStation h - v.nominalEnd then
      t.headState h = .interrupting ∧ (t.head h).seq.cause = some .planStarved ∧
      (t.head h).seq.interruptStation = s.toolStation h ∧ (t.head h).plan.starved = none ∧
      (t.head h).log.counters.seamsInterrupted = bump (s.head h).log.counters.seamsInterrupted
    else t.headState h = s.headState h ∧
      (t.head h).plan.starved = some ⟨v.nominalEnd, s.toolStation h - v.nominalEnd⟩

theorem PlanMeasured.refl (h : Head) (s : State) (hv : (s.head h).plan.starved = none) : PlanMeasured h s s := by
  constructor <;> simp [hv]

/-- The distance used taken anew, before the allowance is looked at. -/
def measured (h : Head) (s : State) : State := s.onPlan h fun p =>
  { p with starved := p.starved.map fun v => { v with used := s.toolStation h - v.nominalEnd } }

theorem measureStarvation_eq (h : Head) (s : State) {v : Starvation} (hv : (s.head h).plan.starved = some v) :
    measureStarvation h s =
      if ((s.head h).travelSet.starvationAllowance : Int) ≤ s.toolStation h - v.nominalEnd then
        interruptHead h .planStarved (measured h s) else measured h s := by
  have starved : ((measured h s).head h).plan.starved = some ⟨v.nominalEnd, s.toolStation h - v.nominalEnd⟩ := by
    simp [measured, hv]
  have travelSet : ((measured h s).head h).travelSet = (s.head h).travelSet := by simp [measured, HeadUnit.travelSet]
  rw [← travelSet]
  exact checkAllowance_eq h starved

/-- A head that is not starved is left as it is. -/
theorem measureStarvation_fed (h : Head) (s : State) (hv : (s.head h).plan.starved = none) :
    measureStarvation h s = s := by
  have same : ∀ f : Starvation → Starvation, (s.head h).plan.starved.map f = (s.head h).plan.starved := by simp [hv]
  rw [measureStarvation, onPlan_fixed h _ s (by rw [same]), checkAllowance, hv]

theorem measureStarvation_measures (h : Head) (s : State) (hp : s.present h = true)
    (hw : (s.headState h).welding = true) : PlanMeasured h s (measureStarvation h s) := by
  cases hv : (s.head h).plan.starved with
  | none =>
    rw [measureStarvation_fed h s hv]
    exact .refl h s hv
  | some v =>
    have present : (measured h s).present h = true := by simpa [measured] using hp
    have state : (measured h s).headState h = s.headState h := by simp [measured]
    have tool : (measured h s).toolStation h = s.toolStation h := by simp [measured]
    have log : ((measured h s).head h).log = (s.head h).log := by simp [measured]
    have w : Worked h (measured h s) (interruptHead h .planStarved (measured h s)) :=
      interruptHead_worked h .planStarved _ present
    have i := interruptHead_interrupts h .planStarved _ present (by rw [state]; exact hw)
    rw [measureStarvation_eq h s hv]
    split
    · next exhausted =>
      constructor
      case present => exact w.present.trans (by simp [measured])
      case kind => exact w.kind.trans (by simp [measured])
      case tool => exact w.tool.trans tool
      case profiles => exact w.profiles.trans (by simp [measured])
      case front => exact w.front.trans (by simp [measured])
      case reg => rw [interruptHead_head_reg]; simp [measured]
      case queue => exact w.queue.trans (by simp [measured])
      case retained => exact w.retained.trans (by simp [measured])
      case segmentsCompleted => rw [i.segmentsCompleted, log]
      case records => exact log ▸ i.queue
      case fed => exact fun hn => by rw [hv] at hn; cases hn
      case starved =>
        intro v' hv'
        rw [hv, Option.some.injEq] at hv'
        rw [← hv', if_pos exhausted]
        exact ⟨i.state, by rw [i.seq], by rw [i.seq, tool], by rw [i.plan], by rw [i.seamsInterrupted, log]⟩
    · next left =>
      constructor
      case fed => exact fun hn => by rw [hv] at hn; cases hn
      case starved =>
        intro v' hv'
        rw [hv, Option.some.injEq] at hv'
        rw [← hv', if_neg left]
        exact ⟨state, by simp [measured, hv]⟩
      all_goals simp [measured]

/-! ### The plan store's work in WELD: the station check, then the measure (R10, R17, log 45) -/

/-- What stays of a head over the plan store's work that the rest of the sample reads. -/
structure SameRead (h : Head) (s t : State) : Prop where
  present : t.present h = s.present h
  tool : t.toolStation h = s.toolStation h
  profiles : (t.head h).profiles = (s.head h).profiles
  front : (t.head h).front = (s.head h).front

theorem SameRead.refl (h : Head) (s : State) : SameRead h s s := ⟨rfl, rfl, rfl, rfl⟩

theorem SameRead.trans {h : Head} {s t u : State} (a : SameRead h s t) (b : SameRead h t u) : SameRead h s u :=
  ⟨b.present.trans a.present, b.tool.trans a.tool, b.profiles.trans a.profiles, b.front.trans a.front⟩

theorem SameRead.travelSet {h : Head} {s t : State} (a : SameRead h s t) :
    (t.head h).travelSet = (s.head h).travelSet := by rw [HeadUnit.travelSet, a.profiles, HeadUnit.travelSet]

theorem Worked.read {h : Head} {s t : State} (w : Worked h s t) : SameRead h s t :=
  ⟨w.present, w.tool, w.profiles, w.front⟩

theorem PlanMeasured.read {h : Head} {s t : State} (m : PlanMeasured h s t) : SameRead h s t :=
  ⟨m.present, m.tool, m.profiles, m.front⟩

theorem completeSegment_read (h : Head) (g : Segment) (rest : List Segment) (s : State) :
    SameRead h s (completeSegment h g rest s) where
  present := by simp
  tool := by simp
  profiles := by rw [completeSegment_self]
  front := by rw [completeSegment_self]

theorem enterExit_read (h : Head) (g : Segment) (s : State) : SameRead h s (enterExit h g s) where
  present := by simp
  tool := by simp [enterExit, State.toolStation, setHeadState_self, startRamp]
  profiles := by simp
  front := by simp

theorem starve_read (h : Head) (g : Segment) (s : State) : SameRead h s (starve h g s) where
  present := by simp [starve]
  tool := by simp [starve, State.toolStation]
  profiles := by rw [starve_self]
  front := by rw [starve_self]

theorem checkAllowance_read (h : Head) (s : State) (hp : s.present h = true) : SameRead h s (checkAllowance h s) := by
  unfold checkAllowance
  split
  · split
    · exact (interruptHead_worked h _ s hp).read
    · exact .refl h s
  · exact .refl h s

theorem completeSegments_read (n : Nat) (h : Head) (s : State) (hp : s.present h = true) :
    SameRead h s (completeSegments n h s) := by
  induction n generalizing s with
  | zero => exact .refl h s
  | succ n ih =>
    rw [completeSegments]
    split
    · exact .refl h s
    · next g rest _ =>
      have completed := completeSegment_read h g rest s
      split
      · exact .refl h s
      · dsimp only
        split
        · exact completed.trans (enterExit_read h g _)
        · split
          · split
            · exact completed
            · have starved := completed.trans (starve_read h g _)
              exact starved.trans (checkAllowance_read h _ (starved.present.trans hp))
          · exact completed.trans (ih _ (completed.present.trans hp))

/-- The nominal end that a head which welds on starves behind after the station check (R16). -/
def starvedEnd (starved : Option Starvation) (last : Option Segment) (rest : List Segment) : Option Int :=
  match starved with
  | some v => some v.nominalEnd
  | none => if rest = [] then last.map fun g => (g.endStation : Int) else none

theorem starvedEnd_eq_none {starved : Option Starvation} {last : Option Segment} {rest : List Segment}
    (e : starvedEnd starved last rest = none) : starved = none ∧ (last = none ∨ rest ≠ []) := by
  cases starved with
  | some v => cases e
  | none =>
    refine ⟨rfl, ?_⟩
    by_cases hr : rest = []
    · simp [starvedEnd, hr] at e
      exact .inl e
    · exact .inr hr

theorem starvedEnd_eq_some {starved : Option Starvation} {last : Option Segment} {rest : List Segment} {n : Int}
    (e : starvedEnd starved last rest = some n) : (∃ v, starved = some v ∧ v.nominalEnd = n) ∨
      starved = none ∧ rest = [] ∧ ∃ g, last = some g ∧ (g.endStation : Int) = n := by
  cases starved with
  | some v => exact .inl ⟨v, rfl, Option.some.inj e⟩
  | none =>
    by_cases hr : rest = []
    · simp [starvedEnd, hr] at e
      exact .inr ⟨rfl, hr, e⟩
    · simp [starvedEnd, hr] at e

/-- What the plan store's work leaves of a head in WELD whose queue is cut where the station check stops. -/
structure StationWorked (h : Head) (gone rest : List Segment) (s t : State) : Prop where
  read : SameRead h s t
  queue : (t.head h).plan.queue = rest
  retained : (t.head h).plan.retained = gone.getLast?.or (s.head h).plan.retained
  segmentsCompleted : (t.head h).log.counters.segmentsCompleted =
    bump^[gone.length] (s.head h).log.counters.segmentsCompleted
  records : (logAll h (endRecords (s.toolStation h) (s.head h).reg.saturationCount gone ++
    closingRecords (s.head h).seq.kind (s.toolStation h) (s.head h).plan.starved rest gone.getLast?) s).queue <+:
      (t.head h).log.queue
  exits : ∀ g, gone.getLast? = some g → g.endAction = .exit →
    t.headState h = .exit ∧ (t.head h).plan.starved = none ∧ (t.head h).seq.rampAcc = 499 ∧
    (t.head h).seq.spindle = (s.head h).seq.spindle ∧ (t.head h).track.Idle ∧ (t.head h).travel = ⟨0, 0, 0⟩ ∧
    (t.head h).log.counters.seamsCompleted = bump (s.head h).log.counters.seamsCompleted ∧ t.gov.speed = 0 ∧
    (s.headState h.other = .weld → t.headState h.other = .pause)
  fed : (∀ g, gone.getLast? = some g → g.endAction = .carryOn) →
    starvedEnd (s.head h).plan.starved gone.getLast? rest = none → (t.head h).plan.starved = none
  starves : (∀ g, gone.getLast? = some g → g.endAction = .carryOn) →
    ∀ e, starvedEnd (s.head h).plan.starved gone.getLast? rest = some e →
    if ((s.head h).travelSet.starvationAllowance : Int) ≤ s.toolStation h - e then
      t.headState h = .interrupting ∧ (t.head h).seq.cause = some .planStarved ∧
      (t.head h).seq.interruptStation = s.toolStation h ∧ (t.head h).plan.starved = none ∧
      (t.head h).log.counters.seamsInterrupted = bump (s.head h).log.counters.seamsInterrupted
    else t.headState h = .weld → (t.head h).plan.starved = some ⟨e, s.toolStation h - e⟩

/-- The seam ended, or the head interrupted, by the station check alone: no measure follows. -/
theorem stationWorked_left {h : Head} {gone rest : List Segment} {s t : State} (c : StationChecked h gone rest s t)
    (read : SameRead h s t) (hn : (t.headState h).welding = false) : StationWorked h gone rest s t where
  read := read
  queue := c.queue
  retained := c.retained
  segmentsCompleted := c.segmentsCompleted
  records := c.records
  exits g hg he := by
    obtain ⟨state, starved, ramp, spindle, track, travel, seams, speed, other⟩ := c.exits g hg he
    exact ⟨state, starved, ramp, spindle, track ▸ Tracking.emptied_idle _, travel, seams, speed, other⟩
  fed carry hv := by
    obtain ⟨unstarved, open_⟩ := starvedEnd_eq_none hv
    have stay := c.stays carry (open_.imp List.getLast?_eq_none_iff.mp .inl)
    rw [stay.1] at hn
    cases hn
  starves carry e he := by
    rcases starvedEnd_eq_some he with ⟨v, hv, -⟩ | ⟨hv, hr, g, hg, rfl⟩
    · have stay := c.stays carry (.inr (.inr (by simp [hv])))
      rw [stay.1] at hn
      cases hn
    · have starves := c.starves g hg (carry g hg) hr hv
      split
      · next exhausted => rwa [if_pos exhausted] at starves
      · next left =>
        rw [if_neg left] at starves
        rw [starves.1] at hn
        cases hn

/-- A head that welds on after the station check has its distance used taken anew. -/
theorem stationWorked_measured {h : Head} {gone rest : List Segment} {s c t : State} (k : StationChecked h gone rest s c)
    (read : SameRead h s c) (hw : (c.headState h).welding = true) (m : PlanMeasured h c t) :
    StationWorked h gone rest s t where
  read := read.trans m.read
  queue := m.queue.trans k.queue
  retained := m.retained.trans k.retained
  segmentsCompleted := m.segmentsCompleted.trans k.segmentsCompleted
  records := k.records.trans m.records
  exits g hg he := by
    rw [(k.exits g hg he).1] at hw
    cases hw
  fed carry hv := by
    obtain ⟨unstarved, open_⟩ := starvedEnd_eq_none hv
    obtain ⟨-, starved, -⟩ := k.stays carry (open_.imp List.getLast?_eq_none_iff.mp .inl)
    exact (m.fed (starved.trans unstarved)).2
  starves carry e he := by
    rcases starvedEnd_eq_some he with ⟨v, hv, rfl⟩ | ⟨hv, hr, g, hg, rfl⟩
    · obtain ⟨state, starved, seams⟩ := k.stays carry (.inr (.inr (by simp [hv])))
      have starves := m.starved v (starved.trans hv)
      rw [read.travelSet, read.tool, seams] at starves
      split
      · next exhausted => rwa [if_pos exhausted] at starves
      · next left =>
        rw [if_neg left] at starves
        exact fun _ => starves.2
    · have onset := k.starves g hg (carry g hg) hr hv
      by_cases exhausted : ((s.head h).travelSet.starvationAllowance : Int) ≤ s.toolStation h - (g.endStation : Nat)
      · rw [if_pos exhausted] at onset
        rw [onset.1] at hw
        cases hw
      · rw [if_neg exhausted] at onset
        have starves := m.starved _ onset.2
        rw [read.travelSet, read.tool, if_neg exhausted] at starves
        rw [if_neg exhausted]
        exact fun _ => starves.2

theorem planWork_worked (h : Head) (gone rest : List Segment) (s : State) (hp : s.present h = true)
    (hw : s.headState h = .weld) (hq : (s.head h).plan.queue = gone ++ rest)
    (cut : StationCut (s.toolStation h) gone rest) : StationWorked h gone rest s (planWork h .weld s) ∧
      ((planWork h .weld s).head h).reg.saturated = (s.head h).reg.saturated := by
  have k := stationCheck_checked h gone rest s hp hw hq cut
  have read : SameRead h s (stationCheck h s) := completeSegments_read _ h s hp
  have work : planWork h .weld s = if ((stationCheck h s).headState h).welding then
      measureStarvation h (stationCheck h s) else stationCheck h s := by
    unfold planWork
    simp only [hw, and_self, if_true, show HeadState.weld.welding = true from rfl, Bool.true_and]
  have reg : ((stationCheck h s).head h).reg.saturated = (s.head h).reg.saturated := by rw [k.reg]
  rw [work]
  split
  · next welds =>
    have m := measureStarvation_measures h _ (read.present.trans hp) welds
    exact ⟨stationWorked_measured k read welds m, by rw [m.reg, reg]⟩
  · next left => exact ⟨stationWorked_left k read (by simpa using left), reg⟩

/-- The work that comes after the plan store's takes nothing back. -/
theorem StationWorked.work {h : Head} {gone rest : List Segment} {r : Bool} {s p t : State}
    (k : StationWorked h gone rest s p) (w : Work h r p t) (hp : p.present h = true)
    (idle : p.headState h = .exit → (p.head h).track.Idle → (t.head h).track.Idle) : StationWorked h gone rest s t := by
  have v := w.worked hp
  constructor
  case read => exact k.read.trans v.read
  case queue => exact v.queue.trans k.queue
  case retained => exact v.retained.trans k.retained
  case segmentsCompleted => exact v.segmentsCompleted.trans k.segmentsCompleted
  case records => exact k.records.trans v.records
  case exits =>
    intro g hg he
    obtain ⟨state, starved, ramp, spindle, track, travel, seams, speed, other⟩ := k.exits g hg he
    have a := w.aside (by rw [state]; rfl)
    refine ⟨a.headState.trans state, by rw [a.plan, starved], by rw [a.seq, ramp], by rw [a.seq, spindle],
      idle state track, a.travel.trans travel, a.seamsCompleted.trans seams, by rw [a.gov, speed], fun ho => ?_⟩
    rw [State.headState, a.other]
    exact other ho
  case fed =>
    intro carry hn
    rcases v.stays with ⟨-, starved⟩ | ⟨-, starved⟩
    · exact starved.trans (k.fed carry hn)
    · exact starved
  case starves =>
    intro carry e he
    have onset := k.starves carry e he
    split
    · next exhausted =>
      rw [if_pos exhausted] at onset
      obtain ⟨state, cause, station, starved, seams⟩ := onset
      have a := w.aside (by rw [state]; rfl)
      exact ⟨a.headState.trans state, by rw [a.seq, cause], by rw [a.seq, station], by rw [a.plan, starved],
        a.seamsInterrupted.trans seams⟩
    · next left =>
      rw [if_neg left] at onset
      intro welds
      rcases v.stays with ⟨state, starved⟩ | ⟨state, -⟩
      · exact starved.trans (onset (state.symm.trans welds))
      · rw [state] at welds
        cases welds


/-! ### What a sample reads before its work (R112, R127, R130, R136) -/

/-- A head in the state and on the plan in which the sample found it. -/
structure Reached (h : Head) (s t : State) : Prop where
  present : t.present h = s.present h
  state : t.headState h = s.headState h
  other : t.headState h.other = s.headState h.other
  kind : (t.head h).seq.kind = (s.head h).seq.kind
  spindle : (t.head h).seq.spindle = (s.head h).seq.spindle
  plan : (t.head h).plan = (s.head h).plan
  profiles : (t.head h).profiles = (s.head h).profiles
  segmentsCompleted : (t.head h).log.counters.segmentsCompleted = (s.head h).log.counters.segmentsCompleted
  seamsCompleted : (t.head h).log.counters.seamsCompleted = (s.head h).log.counters.seamsCompleted
  seamsInterrupted : (t.head h).log.counters.seamsInterrupted = (s.head h).log.counters.seamsInterrupted

theorem Reached.refl (h : Head) (s : State) : Reached h s s := ⟨rfl, rfl, rfl, rfl, rfl, rfl, rfl, rfl, rfl, rfl⟩

theorem Reached.trans {h : Head} {s t u : State} (a : Reached h s t) (b : Reached h t u) : Reached h s u :=
  ⟨b.present.trans a.present, b.state.trans a.state, b.other.trans a.other, b.kind.trans a.kind,
    b.spindle.trans a.spindle, b.plan.trans a.plan, b.profiles.trans a.profiles,
    b.segmentsCompleted.trans a.segmentsCompleted, b.seamsCompleted.trans a.seamsCompleted,
    b.seamsInterrupted.trans a.seamsInterrupted⟩

theorem Noted.reached {h : Head} {s t : State} (n : Noted h s t) : Reached h s t := by
  have self := n.self
  refine ⟨n.present, ?_, ?_, ?_, ?_, ?_, ?_, n.segmentsCompleted, n.seamsCompleted, n.seamsInterrupted⟩
  · rw [State.headState, self, State.headState]
  · rw [State.headState, n.other, State.headState]
  all_goals rw [self]

/-- A fault onset is a record and a count (R132). -/
theorem reportFault_noted (h : Head) (name : ChannelName) (kind : FaultKind) (c : Channel) (s : State) :
    Noted h s (reportFault h name kind c s) :=
  (createRecord_noted h _ false s).trans (countHead_noted h _ _ (fun _ => rfl) (fun _ => rfl) fun _ => rfl)

theorem convertHead_reached (h : Head) (i : SampleInput) (c : HeadChannel) (s : State) :
    Reached h s (convertHead h i c s) ∧ ((convertHead h i c s).head h).reg = (s.head h).reg := by
  have front (f : FrontEnd → FrontEnd) : Reached h s (s.onFront h f) := by constructor <;> simp [State.headState]
  unfold convertHead
  dsimp only
  split
  · split
    · exact ⟨front _, by simp⟩
    · exact ⟨(front _).trans (reportFault_noted h _ _ _ _).reached, by simp [reportFault]⟩
  · exact ⟨front _, by simp⟩

theorem convertHead_quiet (h k : Head) (i : SampleInput) (c : HeadChannel) (s : State) (hf : faultOf i c = none) :
    ((convertHead h i c s).head k).log = (s.head k).log := by
  unfold convertHead
  dsimp only
  rw [hf]
  simp

theorem conversions_reached (h : Head) (i : SampleInput) (l : List HeadChannel) (s : State) :
    Reached h s (l.foldl (fun acc c => convertHead h i c acc) s) ∧
      ((l.foldl (fun acc c => convertHead h i c acc) s).head h).reg = (s.head h).reg := by
  induction l generalizing s with
  | nil => exact ⟨.refl h s, rfl⟩
  | cons c rest ih =>
    have first := convertHead_reached h i c s
    have later := ih (convertHead h i c s)
    exact ⟨first.1.trans later.1, later.2.trans first.2⟩

theorem conversions_quiet (h k : Head) (i : SampleInput) (l : List HeadChannel) (s : State)
    (hf : ∀ c, faultOf i c = none) :
    ((l.foldl (fun acc c => convertHead h i c acc) s).head k).log = (s.head k).log := by
  induction l generalizing s with
  | nil => rfl
  | cons c rest ih => exact (ih _).trans (convertHead_quiet h k i c s (hf c))

/-- The state behind the conversions, as the drive inputs and the tool station are read. -/
def readAfter (h : Head) (i : SampleInput) (s : State) : State :=
  let s2 := s.onHead h fun u => { u with drives := readDrives u.seq.state i u.drives }
  let s3 := match (s2.head h).profiles.tool with
    | some t => s2.onSeq h fun q => { q with originTaken := (t.seamOrigin : Nat) }
    | none => s2
  s3.onTrack h fun t => { t with toolStation := s3.toolStation h }

theorem readSample_eq (h : Head) (i : SampleInput) (o : SampleOrder) (s : State) :
    readSample h i o s = readAfter h i ((conversionOrder o).foldl (fun acc c => convertHead h i c acc) s) := rfl

theorem readAfter_reached (h : Head) (i : SampleInput) (s : State) :
    Reached h s (readAfter h i s) ∧ ((readAfter h i s).head h).reg = (s.head h).reg ∧
      ∀ k, ((readAfter h i s).head k).log = (s.head k).log := by
  have log (k : Head) : ((s.onHead h fun u => { u with drives := readDrives u.seq.state i u.drives }).head k).log =
      (s.head k).log := by rcases head_cases h k with rfl | rfl <;> simp
  unfold readAfter
  dsimp only
  split
  · refine ⟨?_, by simp, by simp [log]⟩
    constructor <;> simp [State.headState]
  · refine ⟨?_, by simp, by simp [log]⟩
    constructor <;> simp [State.headState]

/-- A sample finds the head as it was, its items of the regulator with it. -/
theorem readSample_reached (h : Head) (i : SampleInput) (o : SampleOrder) (s : State) :
    Reached h s (readSample h i o s) ∧ ((readSample h i o s).head h).reg = (s.head h).reg := by
  obtain ⟨converted, reg⟩ := conversions_reached h i (conversionOrder o) s
  obtain ⟨after, kept, -⟩ := readAfter_reached h i ((conversionOrder o).foldl (fun acc c => convertHead h i c acc) s)
  rw [readSample_eq]
  exact ⟨converted.trans after, kept.trans reg⟩

/-- Without a fault a sample reads and records nothing. -/
theorem readSample_quiet (h : Head) (i : SampleInput) (o : SampleOrder) (s : State) (hf : ∀ c, faultOf i c = none) :
    SameRecords h s (readSample h i o s) := by
  refine .of_log (readSample_reached h i o s).1.present fun k => ?_
  rw [readSample_eq, (readAfter_reached h i _).2.2 k, conversions_quiet h k i _ s hf]


/-! ### The default order: the regulator and the force-limit run come before the station check -/

/-- The EXCURSION record that a sample's regulator may write, on its tool station (R77). -/
def ExcursionOnly (tool : Int) (split : Bool) (before : List RecordBody) : Prop :=
  before = [] ∨ split = false ∧ ∃ named st peak run sign, before = [.excursion named st peak run sign tool]

/-- What the regulator's and the force-limit run's work leave of a head that stays in WELD. -/
structure RegulatedHead (h : Head) (split : Bool) (s t : State) : Prop where
  reached : Reached h s t
  read : SameRead h s t
  count : (t.head h).reg.saturationCount =
    if (t.head h).reg.saturated = true then bump16 (s.head h).reg.saturationCount else (s.head h).reg.saturationCount
  records : ∃ before, ExcursionOnly (s.toolStation h) split before ∧ SameRecords h (recordAll h before s) t

theorem regulated_reg (h : Head) (g : Segment) (s : State) :
    ((regulated h g s).head h).reg = (regulation h g s).1 := by
  unfold regulated
  dsimp only
  split <;> simp

theorem regulated_reached (h : Head) (g : Segment) (s : State) : Reached h s (regulated h g s) := by
  have stages : Reached h s ((s.onReg h fun _ => (regulation h g s).1).onSeq h fun q =>
      { q with depth := (regulation h g s).2 }) := by constructor <;> simp [State.headState]
  unfold regulated
  dsimp only
  split
  · exact stages.trans (countHead_noted h (fun c => { c with saturatedSamples := bump c.saturatedSamples }) _
      (fun _ => rfl) (fun _ => rfl) fun _ => rfl).reached
  · exact stages

theorem regulated_records (h : Head) (g : Segment) (s : State) : SameRecords h s (regulated h g s) := by
  have stages : SameRecords h s ((s.onReg h fun _ => (regulation h g s).1).onSeq h fun q =>
      { q with depth := (regulation h g s).2 }) := .of_log (by simp) (by simp)
  unfold regulated
  dsimp only
  split
  · exact stages.countHead _
  · exact stages

theorem regulated_head (h : Head) (g : Segment) (split : Bool) (s : State) (hp : s.present h = true)
    (hw : (s.headState h).welding = true) : RegulatedHead h split s (regulated h g s) where
  reached := regulated_reached h g s
  read := ((regulated_work h g s hw).worked hp).read
  count := by rw [regulated_reg]; rfl
  records := ⟨[], .inl rfl, regulated_records h g s⟩

/-- What is written into the regulator's items, its counts aside. -/
theorem RegulatedHead.onReg {h : Head} {split : Bool} {s t : State} (e : RegulatedHead h split s t)
    (f : Regulator → Regulator) (hc : ∀ x, (f x).saturationCount = x.saturationCount)
    (hs : ∀ x, (f x).saturated = x.saturated) :
    RegulatedHead h split s (t.onReg h f) where
  reached := e.reached.trans (by constructor <;> simp [State.headState])
  read := e.read.trans (by constructor <;> simp [State.toolStation])
  count := by simp [hc, hs, e.count]
  records := by
    obtain ⟨before, only, same⟩ := e.records
    exact ⟨before, only, same.trans (.of_log (by simp) (by simp))⟩

theorem reportExcursion_head {h : Head} {s t : State} (g : Segment) (split : Bool) (e : RegulatedHead h split s t)
    (same : SameRecords h s t) : RegulatedHead h split s (reportExcursion h g split t) := by
  have latched := e.onReg (fun x => { x with excursionLatch := true }) (fun _ => rfl) fun _ => rfl
  unfold reportExcursion
  dsimp only
  split
  · exact latched.onReg _ (fun _ => rfl) fun _ => rfl
  · next hs =>
    have noted (x : Excursion) (u : State) : Noted h u (recordExcursion h x u) :=
      (createRecord_noted h _ false u).trans (countHead_noted h _ _ (fun _ => rfl) (fun _ => rfl) fun _ => rfl)
    constructor
    case reached => exact latched.reached.trans (noted _ _).reached
    case read => exact latched.read.trans (noted _ _).worked.read
    case count => simpa [recordExcursion] using e.count
    case records =>
      refine ⟨[.excursion g.ref (t.head h).seq.state (t.head h).reg.excursionPeak (t.head h).reg.excursionRun
        (decide ((t.head h).reg.ePrev < 0)) (s.toolStation h)], .inr ⟨by simpa using hs, _, _, _, _, _, rfl⟩, ?_⟩
      rw [← e.read.tool]
      exact ((same.trans (.of_log (by simp) (by simp))).createRecord _).countHead _

theorem regulatorSample_head (h : Head) (split : Bool) (s : State) (hp : s.present h = true)
    (hw : (s.headState h).welding = true) (hg : (s.head h).plan.inForce.isSome = true) :
    RegulatedHead h split s (regulatorSample h split s) := by
  obtain ⟨g, hg⟩ := Option.isSome_iff_exists.mp hg
  have e := regulated_head h g split s hp hw
  rw [regulatorSample_eq h split s hg]
  split
  · exact reportExcursion_head g split e (regulated_records h g s)
  · exact e

/-- The force-limit run is no business of the regulator's (R79). -/
theorem regulatorSample_forceRun (h : Head) (split : Bool) (s : State) :
    ((regulatorSample h split s).head h).reg.forceRun = (s.head h).reg.forceRun := by
  cases hg : (s.head h).plan.inForce with
  | none => simp only [regulatorSample, hg]
  | some g =>
    have kept : ((regulated h g s).head h).reg.forceRun = (s.head h).reg.forceRun := by rw [regulated_reg]; rfl
    rw [regulatorSample_eq h split s hg]
    unfold reportExcursion recordExcursion
    dsimp only
    split
    · split <;> simpa using kept
    · exact kept

/-- A run of samples above the force limit that does not reach 3, or whose finding is left to its row, interrupts
nothing (R79, R80). -/
theorem RegulatedHead.forceRunWork {h : Head} {found : HeadState} {split : Bool} {s t : State}
    (e : RegulatedHead h split s t)
    (hl : split = true ∨ ¬((t.head h).limits.forceMax < (t.head h).front.force.effective ∧ 2 ≤ (t.head h).reg.forceRun)) :
    RegulatedHead h split s (forceRunWork h found split t) := by
  unfold Machine.forceRunWork
  dsimp only
  rw [if_neg]
  · exact e.onReg _ (fun _ => rfl) fun _ => rfl
  · rintro ⟨three, taken⟩
    rcases hl with hl | hl
    · simp [hl] at taken
    · unfold forceRunAfter at three
      split at three
      · next above =>
        simp only [Bool.and_eq_true, decide_eq_true_eq] at above
        exact hl ⟨above.2, by omega⟩
      · cases three


/-! ### The whole sample of a welding head -/

theorem planWork_read (h : Head) (found : HeadState) (s : State) (hp : s.present h = true) :
    SameRead h s (planWork h found s) := by
  unfold planWork
  extract_lets s1
  have checked : SameRead h s s1 := by
    unfold s1
    split
    · exact completeSegments_read _ h s hp
    · exact .refl h s
  split
  · next welds =>
    simp only [Bool.and_eq_true] at welds
    exact checked.trans (measureStarvation_measures h _ (checked.present.trans hp) welds.2).read
  · exact checked

theorem HeadState.starting_of_welding {st : HeadState} (hw : st.welding = true) : st.starting = false := by
  revert hw
  cases st <;> decide

theorem plainAct_welding {found : HeadState} {a : SampleAct} (hw : found.welding = true) (ha : a ≠ .station) :
    PlainAct found true a :=
  ⟨fun _ => rfl, fun e => absurd e ha, fun _ => hw, fun _ _ => HeadState.starting_of_welding hw⟩

theorem ne_station_of_mem {a : SampleAct} {l : List SampleAct} (hl : .station ∉ l) (ha : a ∈ l) : a ≠ .station :=
  fun e => hl (e ▸ ha)

/-- The sample of a head found welding, about its plan store's work. -/
theorem sampleActs_split (h : Head) (read : HeadUnit) (o : SampleOrder) (s : State) (hw : read.seq.state.welding = true) :
    ∃ m rest, Work h true s m ∧ .station ∉ rest ∧
      sampleActs h read o (actOrder o) s = sampleActs h read o rest (planWork h read.seq.state m) ∧
      (o.acts.head? = some .station → m = s) := by
  obtain ⟨front, rest, e, hf, hr, first⟩ := actOrder_split o
  by_cases hh : o.acts.head? = some .station
  · exact ⟨s, rest, .refl h s, hr, by rw [e, first hh]; rfl, fun _ => rfl⟩
  · obtain ⟨m, w, onward⟩ := sampleActs_front h read o front (.station :: rest) s fun a ha =>
      plainAct_welding hw (ne_station_of_mem hf ha)
    exact ⟨m, rest, w, hr, by rw [e, onward]; rfl, fun ho => absurd ho hh⟩

/-- What the sample has read stays over its work. -/
theorem sampleActs_read (h : Head) (read : HeadUnit) (o : SampleOrder) (s : State) (hp : s.present h = true)
    (hw : read.seq.state.welding = true) : SameRead h s (sampleActs h read o (actOrder o) s) := by
  obtain ⟨m, rest, w, hr, e, -⟩ := sampleActs_split h read o s hw
  have front := (w.worked hp).read
  have plan := front.trans (planWork_read h read.seq.state m (front.present.trans hp))
  have later := sampleActs_work h read o rest (planWork h read.seq.state m) fun a ha =>
    plainAct_welding hw (ne_station_of_mem hr ha)
  rw [e]
  exact plan.trans (later.worked (plan.present.trans hp)).read

/-- A sample that found a head in WELD: `s` before it, `m` at its station check, `x` behind its work. -/
structure WeldSample (h : Head) (inp : SampleInput) (order : SampleOrder) (gone rest : List Segment) (s m x : State) :
    Prop where
  reached : Reached h s m
  count : (m.head h).reg.saturationCount =
    if order.acts = [] ∧ (x.head h).reg.saturated = true then bump16 (s.head h).reg.saturationCount
    else (s.head h).reg.saturationCount
  records : (∀ c, faultOf inp c = none) → ∃ before, (before = [] ∨ order.acts = [] ∧ order.split = false ∧
    ∃ named st peak run sign, before = [.excursion named st peak run sign (m.toolStation h)]) ∧
    SameRecords h (recordAll h before s) m
  station : StationWorked h gone rest m x

section
variable {h : Head} {inp : SampleInput} {order : SampleOrder} {gone rest : List Segment} {s : State}

/-- The station check is the sample's first work. -/
theorem weldSample_first (hp : s.present h = true) (hw : s.headState h = .weld)
    (hf : order.acts.head? = some .station) (hq : (s.head h).plan.queue = gone ++ rest)
    (cut : StationCut ((readSample h inp order s).toolStation h) gone rest) :
    WeldSample h inp order gone rest s (readSample h inp order s)
      (sampleActs h ((readSample h inp order s).head h) order (actOrder order) (readSample h inp order s)) := by
  obtain ⟨found, reg⟩ := readSample_reached h inp order s
  have state : ((readSample h inp order s).head h).seq.state = .weld := found.state.trans hw
  have welding : ((readSample h inp order s).head h).seq.state.welding = true := by rw [state]; rfl
  have present := found.present.trans hp
  obtain ⟨m, later, w, hr, e, first⟩ := sampleActs_split h ((readSample h inp order s).head h) order
    (readSample h inp order s) welding
  obtain rfl := first hf
  have station := (planWork_worked h gone rest _ present state (by rw [found.plan, hq]) cut).1
  have plain : ∀ a ∈ later, PlainAct ((readSample h inp order s).head h).seq.state true a := fun a ha =>
    plainAct_welding welding (ne_station_of_mem hr ha)
  refine ⟨found, ?_, fun quiet => ⟨[], .inl rfl, readSample_quiet h inp order s quiet⟩, ?_⟩
  · rw [reg, if_neg]
    rintro ⟨hn, -⟩
    simp [hn] at hf
  · rw [e, state]
    rw [state] at plain
    refine station.work (sampleActs_work h _ order later _ (by rwa [state])) (station.read.present.trans present) ?_
    exact fun hx hi => sampleActs_idle h _ order later _ welding (by rwa [state]) hx hi

/-- The pieces of work behind the station check in the default order. -/
def laterActs : List SampleAct :=
  [.track, .log, .grace, .check .torque, .check .temp, .check .drive, .check .travelDrive, .check .sensor, .sequence]

theorem sampleActs_default (h : Head) (read : HeadUnit) (o : SampleOrder) (s : State) :
    sampleActs h read o defaultActs s = sampleActs h read o laterActs (planWork h read.seq.state
      (forceRunWork h read.seq.state o.split (regulatorWork h read.seq.state o.split s))) := rfl

theorem laterActs_plain {found : HeadState} (hw : found.welding = true) :
    ∀ a ∈ laterActs, PlainAct found false a := by
  intro a ha
  refine ⟨fun e => ?_, fun e => ?_, fun _ => hw, fun _ _ => HeadState.starting_of_welding hw⟩
  · revert ha
    rcases e with rfl | rfl <;> decide
  · subst e
    exact absurd ha (by decide)

/-- The regulator and the force-limit run of the default order come first, and interrupt nothing. -/
theorem weldSample_default (hp : s.present h = true) (hw : s.headState h = .weld) (hn : order.acts = [])
    (hg : (s.head h).plan.inForce.isSome = true) (hq : (s.head h).plan.queue = gone ++ rest)
    (hl : order.split = true ∨ ¬((s.head h).limits.forceMax <
      ((readSample h inp order s).head h).front.force.effective ∧ 2 ≤ (s.head h).reg.forceRun))
    (cut : StationCut ((readSample h inp order s).toolStation h) gone rest) :
    ∃ m, WeldSample h inp order gone rest s m
      (sampleActs h ((readSample h inp order s).head h) order (actOrder order) (readSample h inp order s)) := by
  obtain ⟨found, reg⟩ := readSample_reached h inp order s
  generalize hs0 : readSample h inp order s = s0 at *
  have state0 : s0.headState h = .weld := found.state.trans hw
  have state : (s0.head h).seq.state = .weld := state0
  have present := found.present.trans hp
  let m := forceRunWork h .weld order.split (regulatorSample h order.split s0)
  have r1 := regulatorSample_head h order.split s0 present (by rw [state0]; rfl) (by rw [found.plan, hg])
  have r : RegulatedHead h order.split s0 m := by
    refine r1.forceRunWork (hl.imp_right fun hl => ?_)
    rwa [regulatorSample_forceRun, reg, r1.read.front, HeadUnit.limits, r1.read.profiles, found.profiles]
  have before : regulatorWork h .weld order.split s0 = regulatorSample h order.split s0 := by
    rw [regulatorWork, if_pos (by rw [state0]; rfl)]
  have e : sampleActs h (s0.head h) order (actOrder order) s0 = sampleActs h (s0.head h) order laterActs (planWork h .weld m) := by
    rw [actOrder_default order hn, sampleActs_default, state, before]
  have reached := found.trans r.reached
  have present_m := reached.present.trans hp
  obtain ⟨station, saturated⟩ := planWork_worked h gone rest m present_m (reached.state.trans hw) (by rw [reached.plan, hq])
    (by rwa [r.read.tool])
  have welding : (s0.head h).seq.state.welding = true := by rw [state]; rfl
  have present_p := station.read.present.trans present_m
  have later := sampleActs_work h (s0.head h) order laterActs (planWork h .weld m) (laterActs_plain welding)
  refine ⟨m, reached, ?_, fun quiet => ?_, ?_⟩
  · rw [e, later.reg, saturated, r.count, reg]
    simp [hn]
  · obtain ⟨bodies, only, same⟩ := r.records
    refine ⟨bodies, ?_, ((hs0 ▸ readSample_quiet h inp order s quiet).recordAll bodies).trans same⟩
    rcases only with rfl | ⟨split, excursion⟩
    · exact .inl rfl
    · exact .inr ⟨hn, split, by rwa [r.read.tool]⟩
  · rw [e]
    refine station.work later present_p fun hx hi => sampleActs_idle h _ order laterActs _ welding (fun a ha => ?_) hx hi
    refine plainAct_welding welding fun ea => ?_
    subst ea
    exact absurd ha (by decide)

end

/-! ### The outputs, and the records of a run as the statement lists them -/

/-- A head behind the work of its sample. -/
def sampleWorked (h : Head) (inp : SampleInput) (order : SampleOrder) (s : State) : State :=
  sampleActs h ((readSample h inp order s).head h) order (actOrder order) (readSample h inp order s)

/-- Behind its work a sample presents the outputs alone (R137). -/
theorem exec_headSample (h : Head) (inp : SampleInput) (order : SampleOrder) (s : State) (hr : s.pins.reset = false)
    (hp : s.present h = true) :
    exec (.headSample h inp order) s = .next (presentOutputs h (sampleWorked h inp order s)) := by
  refine (running_negated (sampleHead h inp order) s hr).trans ?_
  rw [sampleHead, if_pos hp]
  rfl

/-- A head found welding keeps what its sample has read, over all its work. -/
theorem sampleWorked_read (h : Head) (inp : SampleInput) (order : SampleOrder) (s : State) (hp : s.present h = true)
    (hw : (s.headState h).welding = true) : SameRead h (readSample h inp order s) (sampleWorked h inp order s) := by
  have found := (readSample_reached h inp order s).1
  refine sampleActs_read h _ order _ (found.present.trans hp) ?_
  rw [← State.headState, found.state, hw]

/-- A sample whose order takes the station check first, or the default order without a force limit before it. -/
theorem weldSample {h : Head} {inp : SampleInput} {order : SampleOrder} {gone rest : List Segment} {s : State}
    (hp : s.present h = true) (hw : s.headState h = .weld) (hg : (s.head h).plan.inForce.isSome = true)
    (ho : order.acts.head? = some .station ∨ order.acts = []) (hq : (s.head h).plan.queue = gone ++ rest)
    (hl : order.acts.head? = some .station ∨ order.split = true ∨ ¬((s.head h).limits.forceMax <
      ((sampleWorked h inp order s).head h).front.force.effective ∧ 2 ≤ (s.head h).reg.forceRun))
    (cut : StationCut ((sampleWorked h inp order s).toolStation h) gone rest) :
    ∃ m, WeldSample h inp order gone rest s m (sampleWorked h inp order s) := by
  have read := sampleWorked_read h inp order s hp (by rw [hw]; rfl)
  rw [read.tool] at cut
  rw [read.front] at hl
  rcases ho with hf | hn
  · exact ⟨_, weldSample_first hp hw hf hq cut⟩
  · exact weldSample_default hp hw hn hg hq (hl.resolve_left (by simp [hn])) cut

theorem presentOutputs_self (h : Head) (s : State) : (presentOutputs h s).head h = { s.head h with
    applied := ⟨(s.head h).seq.spindle, (s.head h).seq.depth, (s.head h).track.lateralCommand⟩ } := onHead_self ..

@[simp] theorem presentOutputs_headState (h k : Head) (s : State) :
    (presentOutputs h s).headState k = s.headState k := by
  rcases head_cases h k with rfl | rfl
  · rw [State.headState, presentOutputs_self, State.headState]
  · rw [State.headState, presentOutputs, onHead_other, State.headState]

@[simp] theorem presentOutputs_toolStation (h : Head) (s : State) :
    (presentOutputs h s).toolStation h = s.toolStation h := by
  rw [State.toolStation, presentOutputs_self, presentOutputs, onHead_gantry, State.toolStation]

@[simp] theorem presentOutputs_gov (h : Head) (s : State) : (presentOutputs h s).gov = s.gov := onHead_gov ..

section
variable (h : Head) (s : State)

theorem presentOutputs_seq : ((presentOutputs h s).head h).seq = (s.head h).seq := by rw [presentOutputs_self]
theorem presentOutputs_plan : ((presentOutputs h s).head h).plan = (s.head h).plan := by rw [presentOutputs_self]
theorem presentOutputs_reg : ((presentOutputs h s).head h).reg = (s.head h).reg := by rw [presentOutputs_self]
theorem presentOutputs_track : ((presentOutputs h s).head h).track = (s.head h).track := by rw [presentOutputs_self]
theorem presentOutputs_front : ((presentOutputs h s).head h).front = (s.head h).front := by rw [presentOutputs_self]
theorem presentOutputs_travel : ((presentOutputs h s).head h).travel = (s.head h).travel := by
  rw [presentOutputs_self]
theorem presentOutputs_log : ((presentOutputs h s).head h).log = (s.head h).log := by rw [presentOutputs_self]

end

/-- The first SEGMENT_END of a run has the saturation count, the others have none (R14, R72). -/
theorem endRecords_zipIdx (tool : Int) (n : Nat) (gone : List Segment) :
    endRecords tool n gone = gone.zipIdx.map fun x => x.1.endRecord tool (if x.2 = 0 then n else 0) := by
  cases gone with
  | nil => rfl
  | cons g gs =>
    rw [endRecords, endRecords_zero, List.zipIdx_cons, List.map_cons]
    refine congrArg₂ List.cons rfl (List.ext_getElem (by simp) fun i h1 h2 => ?_)
    simp


/-! ### A sample outside WELD: the plan's segments stay -/

/-- A head whose plan has the segments it had, none of them completed since. -/
structure SameSegments (h : Head) (s t : State) : Prop where
  present : t.present h = s.present h
  kind : (t.head h).seq.kind = (s.head h).seq.kind
  queue : (t.head h).plan.queue = (s.head h).plan.queue
  retained : (t.head h).plan.retained = (s.head h).plan.retained
  segmentsCompleted : (t.head h).log.counters.segmentsCompleted = (s.head h).log.counters.segmentsCompleted

theorem SameSegments.refl (h : Head) (s : State) : SameSegments h s s := ⟨rfl, rfl, rfl, rfl, rfl⟩

section
variable {h : Head} {s t u : State}

theorem SameSegments.trans (a : SameSegments h s t) (b : SameSegments h t u) : SameSegments h s u :=
  ⟨b.present.trans a.present, b.kind.trans a.kind, b.queue.trans a.queue, b.retained.trans a.retained,
    b.segmentsCompleted.trans a.segmentsCompleted⟩

theorem Worked.segments (w : Worked h s t) : SameSegments h s t :=
  ⟨w.present, w.kind, w.queue, w.retained, w.segmentsCompleted⟩

theorem Reached.segments (w : Reached h s t) : SameSegments h s t :=
  ⟨w.present, w.kind, by rw [w.plan], by rw [w.plan], w.segmentsCompleted⟩

theorem PlanMeasured.segments (m : PlanMeasured h s t) : SameSegments h s t :=
  ⟨m.present, m.kind, m.queue, m.retained, m.segmentsCompleted⟩

theorem SameSegments.of_ite {c : Prop} [Decidable c] {a b : State} (ha : c → SameSegments h s a)
    (hb : ¬c → SameSegments h s b) : SameSegments h s (if c then a else b) := by
  split
  · next hc => exact ha hc
  · next hc => exact hb hc

theorem SameSegments.notes (w : SameSegments h s t) (n : Noted h t u) : SameSegments h s u :=
  w.trans n.worked.segments

theorem SameSegments.records (w : SameSegments h s t) (b : RecordBody) (co : Bool) :
    SameSegments h s (createRecord h b co t) := w.notes (createRecord_noted h b co t)

/-- Sequencer items other than the kind of the seam. -/
theorem SameSegments.onSeq (w : SameSegments h s t) (f : Sequencer → Sequencer) (hf : ∀ q, (f q).kind = q.kind) :
    SameSegments h s (t.onSeq h f) := w.trans (by constructor <;> simp [hf])

theorem SameSegments.enters (w : SameSegments h s t) (st : HeadState) : SameSegments h s (setHeadState h st t) :=
  w.trans (by constructor <;> simp [setHeadState_self])

theorem SameSegments.untracks (w : SameSegments h s t) : SameSegments h s (emptyTrack h t) :=
  w.trans (by constructor <;> simp)

theorem SameSegments.interrupts (w : SameSegments h s t) (c : Cause) (hp : s.present h = true) :
    SameSegments h s (interruptHead h c t) := w.trans (interruptHead_worked h c t (w.present.trans hp)).segments

theorem SameSegments.onFront (w : SameSegments h s t) (f : FrontEnd → FrontEnd) : SameSegments h s (t.onFront h f) :=
  w.trans (by constructor <;> simp)

theorem reportInForce_segments (w : SameSegments h s t) (b : SegmentRef → RecordBody) :
    SameSegments h s (reportInForce h b t) := by
  unfold reportInForce
  split
  · exact w.records _ _
  · exact (w.notes (tick_noted h t)).records _ _

theorem followSpindle_segments (w : SameSegments h s t) : SameSegments h s (followSpindle h t) := by
  unfold followSpindle
  split
  · exact w.onSeq _ fun _ => by rfl
  · exact (w.onSeq _ fun _ => by rfl).notes (tick_noted h _)

theorem failStart_segments (h : Head) (r : StartFailure) (w : SameSegments h s t) :
    SameSegments h s (failStart h r t) := by
  unfold failStart endStart enterInterrupted
  dsimp only
  have ended := (w.records (.startFailed r (t.head h).seq.kind (t.head h).seq.state (t.toolStation h)) false).onSeq
    (fun q => { q with spindle := 0 }) fun _ => rfl
  split
  · exact (ended.enters _).untracks
  · exact (ended.enters _).untracks

theorem startFault_segments (h : Head) (r : StartFailure) (w : SameSegments h s t) :
    SameSegments h s (startFault h r t) := .of_ite (fun _ => failStart_segments h r w) fun _ => w

theorem checkWork_segments (h : Head) (found : HeadState) (c : FaultCheck) (w : SameSegments h s t)
    (hp : s.present h = true) : SameSegments h s (checkWork h found c t) := by
  unfold checkWork
  refine .of_ite (fun _ => w) fun _ => .of_ite (fun _ => w.interrupts _ hp) fun _ => ?_
  split
  · exact .of_ite (fun _ => startFault_segments h _ w) fun _ => w
  · exact w

theorem calibrationSample_segments (split : Bool) (w : SameSegments h s t) :
    SameSegments h s (calibrationSample h split t) := by
  have ends {x : State} (st : HeadState) (v : SameSegments h s x) : SameSegments h s (endCalibration h st x) :=
    (v.onSeq _ fun _ => by rfl).enters st
  have added := w.onSeq (fun q => { q with cal := q.cal.add (t.head h).front.force.raw }) fun _ => rfl
  refine .of_ite (fun _ => ends _ (w.records _ _)) fun _ => .of_ite (fun _ => .of_ite (fun _ => ?_) fun _ => added)
    fun _ => w
  exact .of_ite (fun _ => ends _ (added.records _ _)) fun _ => .of_ite (fun _ => ends _ (added.records _ _)) fun _ =>
    ends _ (((added.onFront _).onSeq _ fun _ => by rfl).records _ _)

theorem raiseTool_segments (w : SameSegments h s t) : SameSegments h s (raiseTool h t) := by
  unfold raiseTool
  split
  · exact w
  · exact w.onSeq _ fun q => by dsimp only; split <;> [split <;> rfl; rfl]

/-- The sequencer's work outside DWELL. -/
theorem sequenceWork_segments (split : Bool) (w : SameSegments h s t) (hp : s.present h = true)
    (hd : t.headState h ≠ .dwell) : SameSegments h s (sequenceWork h split t) := by
  have take {x y : State} (vx : SameSegments h s x) (vy : SameSegments h s y) :
      SameSegments h s (if split then x else y) := .of_ite (fun _ => vx) fun _ => vy
  have retracted : SameSegments h s (retractStep h t) := by
    unfold retractStep
    exact w.onSeq _ fun _ => rfl
  unfold sequenceWork
  dsimp only
  cases hs : t.headState h <;> dsimp only
  case uncommissioned | commissioning | calDue | ready | interrupted => exact raiseTool_segments w
  case calibrating => exact calibrationSample_segments split w
  case approach => exact w
  case spinup =>
    have timed := w.onSeq (fun q => { q with spinupTimer := q.spinupTimer - 2 }) fun _ => rfl
    refine .of_ite (fun _ => take timed (.of_ite (fun _ => ?_) fun _ => timed)) fun _ =>
      take timed (.of_ite (fun _ => failStart_segments h _ timed) fun _ => timed)
    exact (timed.onSeq _ fun _ => by rfl).enters _
  case plunge =>
    have moved : SameSegments h s (plungeStep h (followSpindle h t)) := by
      unfold plungeStep
      exact (followSpindle_segments w).onSeq _ fun q => by dsimp only; split <;> rfl
    refine .of_ite (fun _ => take moved (.of_ite (fun _ => ?_) fun _ => moved)) fun _ =>
      take moved (.of_ite (fun _ => moved.interrupts _ hp) fun _ => moved)
    exact ((reportInForce_segments moved _).onSeq _ fun _ => by rfl).enters _
  case dwell => exact absurd hs hd
  case weld | pause => exact followSpindle_segments w
  case exit =>
    exact take retracted (.of_ite (fun _ => (retracted.onSeq _ fun _ => by rfl).enters _) fun _ => retracted)
  case interrupting =>
    refine take retracted (.of_ite (fun _ => ?_) fun _ => retracted)
    exact ((retracted.onSeq _ fun _ => by rfl).enters _).untracks

end

/-! ### The dwell of a re-entry is left by its end alone (R42, R22) -/

theorem interruptHead_headState (h : Head) (c : Cause) (s : State) :
    (interruptHead h c s).headState h = if c.actsIn (s.headState h) then .interrupting else s.headState h := by
  unfold interruptHead
  split <;> simp

/-- The station check of a head does not lead it into DWELL. -/
theorem completeSegments_not_dwell (n : Nat) (h : Head) (s : State) (hs : s.headState h ≠ .dwell) :
    (completeSegments n h s).headState h ≠ .dwell := by
  induction n generalizing s with
  | zero => exact hs
  | succ n ih =>
    rw [completeSegments]
    split
    · exact hs
    · next g rest _ =>
      have completed : (completeSegment h g rest s).headState h ≠ .dwell := by simpa using hs
      split
      · exact hs
      · dsimp only
        split
        · simp [enterExit]
        · split
          · split
            · exact completed
            · have starved : (starve h g (completeSegment h g rest s)).headState h ≠ .dwell := by
                rwa [State.headState, starve_self, ← State.headState]
              unfold checkAllowance
              split
              · split
                · rw [interruptHead_headState]
                  split
                  · decide
                  · exact starved
                · exact starved
              · exact starved
          · exact ih _ completed

theorem enterWeld_not_dwell (h : Head) (s : State) : (enterWeld h s).headState h ≠ .dwell := by
  have entered : (weldEntered h s).headState h ≠ .dwell := by simp
  rw [enterWeld_eq]
  split
  · unfold reentryCheck
    split
    · split
      · simp [starve, State.headState, weldEntered_self]
      · exact entered
    · exact completeSegments_not_dwell _ h _ entered
  · exact entered

theorem SameRest.present {s t : State} (r : SameRest s t) (h : Head) : t.present h = s.present h := by
  obtain ⟨-, -, -, -, -, straps, -⟩ := r
  cases h <;> simp [State.present, straps]

theorem weldEntered_segments (h : Head) (s : State) : SameSegments h s (weldEntered h s) := by
  constructor <;> simp [weldEntered_self, entryLog]

/-- A fresh entry completes no segment. -/
theorem enterWeld_segments (h : Head) (s : State) (hk : (s.head h).seq.kind = .fresh) :
    SameSegments h s (enterWeld h s) := by
  rw [enterWeld_plain h s (.inl hk)]
  exact weldEntered_segments h s

/-- What one piece of work of a sample that found a head in DWELL does. -/
structure DwellStep (h : Head) (s t : State) : Prop where
  segments : (s.head h).seq.kind = .fresh ∨ t.headState h = .dwell → SameSegments h s t
  dwells : t.headState h = .dwell → s.headState h = .dwell
  present : t.present h = s.present h

theorem Worked.dwellStep {h : Head} {s t : State} (w : Worked h s t) : DwellStep h s t where
  segments _ := w.segments
  dwells hd := by
    rcases w.stays with ⟨state, -⟩ | ⟨state, -⟩
    · exact state.symm.trans hd
    · rw [state] at hd
      cases hd
  present := w.present

theorem sequencerWork_dwellStep (h : Head) (split : Bool) (s : State) :
    DwellStep h s (sequencerWork h .dwell split s) := by
  have still : DwellStep h s s := (Worked.refl h s).dwellStep
  unfold sequencerWork
  split
  · next hd =>
    have work : sequenceWork h split s = if split then
        (followSpindle h s).onSeq h fun q => { q with dwellTimer := q.dwellTimer - 2 }
        else findDwellElapsed h ((followSpindle h s).onSeq h fun q => { q with dwellTimer := q.dwellTimer - 2 }) := by
      unfold sequenceWork
      rw [hd]
    have timed : SameSegments h s ((followSpindle h s).onSeq h fun q => { q with dwellTimer := q.dwellTimer - 2 }) :=
      (followSpindle_segments (.refl h s)).onSeq _ fun _ => rfl
    rw [work]
    split
    · exact ⟨fun _ => timed, fun _ => hd, timed.present⟩
    · unfold findDwellElapsed
      split
      · refine ⟨fun hk => ?_, fun _ => hd, ?_⟩
        · have fresh := hk.resolve_right (enterWeld_not_dwell h _)
          exact timed.trans (enterWeld_segments h _ (timed.kind.trans fresh))
        · exact (SameRest.present (enterWeld_rest h _).1 h).trans timed.present
      · exact ⟨fun _ => timed, fun _ => hd, timed.present⟩
  · exact still

theorem plainAct_dwell {a : SampleAct} (ha : a ≠ .sequence) : PlainAct .dwell true a :=
  ⟨fun _ => rfl, fun _ => rfl, fun e => absurd e ha, fun _ _ => rfl⟩

theorem placedAct_dwellStep (h : Head) (read : HeadUnit) (o : SampleOrder) (a : SampleAct) (rest : List SampleAct)
    (s : State) (hp : s.present h = true) (hd : read.seq.state = .dwell) :
    DwellStep h s (placedAct h read o a rest s) := by
  by_cases ha : a = .sequence
  · subst ha
    rw [placedAct_block h read o rest s (by decide), blockAct, hd]
    exact sequencerWork_dwellStep h o.split s
  · exact ((placedAct_work h read o rest s (hd ▸ plainAct_dwell ha)).worked hp).dwellStep

/-- A sample that found a dwell, and leaves it or is of a fresh seam, completes no segment. -/
theorem sampleActs_dwell (h : Head) (read : HeadUnit) (o : SampleOrder) (l : List SampleAct) (s : State)
    (hp : s.present h = true) (hd : read.seq.state = .dwell) : DwellStep h s (sampleActs h read o l s) := by
  induction l generalizing s with
  | nil => exact (Worked.refl h s).dwellStep
  | cons a rest ih =>
    have first := placedAct_dwellStep h read o a rest s hp hd
    have later := ih (placedAct h read o a rest s) (first.present.trans hp)
    rw [sampleActs_cons]
    refine ⟨fun hk => ?_, fun hx => first.dwells (later.dwells hx), later.present.trans first.present⟩
    have segments := first.segments (hk.imp_right later.dwells)
    exact segments.trans (later.segments (hk.imp_left segments.kind.trans))

/-! ### The other states outside WELD -/

theorem placedAct_segments (h : Head) (read : HeadUnit) (o : SampleOrder) (a : SampleAct) (rest : List SampleAct)
    (s : State) (hp : s.present h = true) (hw : read.seq.state.welding = false) (hd : read.seq.state ≠ .dwell) :
    SameSegments h s (placedAct h read o a rest s) := by
  have plain (hs : a ≠ .sequence) (hc : ∀ c, a ≠ .check c) : SameSegments h s (placedAct h read o a rest s) :=
    ((placedAct_work (r := true) h read o rest s
      ⟨fun _ => rfl, fun _ => hw, fun e => absurd e hs, fun c e => absurd e (hc c)⟩).worked hp).segments
  cases a with
  | sequence =>
    rw [placedAct_block h read o rest s (by decide)]
    exact .of_ite (fun e => sequenceWork_segments _ (.refl h s) hp (e ▸ hd)) fun _ => .refl h s
  | check c =>
    rw [placedAct_block h read o rest s (by simp)]
    exact checkWork_segments h _ c (.refl h s) hp
  | regulator | forceRun | station | track | log | grace => exact plain (by simp) (by simp)

theorem sampleActs_segments (h : Head) (read : HeadUnit) (o : SampleOrder) (l : List SampleAct) (s : State)
    (hp : s.present h = true) (hw : read.seq.state.welding = false) (hd : read.seq.state ≠ .dwell) :
    SameSegments h s (sampleActs h read o l s) := by
  induction l generalizing s with
  | nil => exact .refl h s
  | cons a rest ih =>
    have first := placedAct_segments h read o a rest s hp hw hd
    exact first.trans (ih _ (first.present.trans hp))

/-! ### A sample in PAUSE -/

/-- In PAUSE the plan store measures alone (R17, R105, log 46). -/
theorem planWork_pause (h : Head) (s : State) : planWork h .pause s =
    if (s.headState h).welding then measureStarvation h s else s := by
  have elsewhere : ¬(HeadState.pause = .weld ∧ s.headState h = .weld) := by simp
  unfold planWork
  simp only [if_neg elsewhere]
  rfl

theorem planWork_pause_segments (h : Head) (s : State) (hp : s.present h = true) :
    SameSegments h s (planWork h .pause s) := by
  rw [planWork_pause]
  exact .of_ite (fun hw => (measureStarvation_measures h s hp hw).segments) fun _ => .refl h s

theorem sampleActs_pause_segments (h : Head) (read : HeadUnit) (o : SampleOrder) (s : State) (hp : s.present h = true)
    (hw : read.seq.state = .pause) : SameSegments h s (sampleActs h read o (actOrder o) s) := by
  have welding : read.seq.state.welding = true := by rw [hw]; rfl
  obtain ⟨m, rest, w, hr, e, -⟩ := sampleActs_split h read o s welding
  have front := (w.worked hp).segments
  have plan := front.trans (hw ▸ planWork_pause_segments h m (front.present.trans hp))
  have later := sampleActs_work h read o rest (planWork h read.seq.state m) fun a ha =>
    plainAct_welding welding (ne_station_of_mem hr ha)
  rw [e]
  exact plan.trans (later.worked (plan.present.trans hp)).segments

/-- A sample that did not find WELD completes no segment, the end of a re-entry's dwell aside. -/
theorem sampleWorked_segments (h : Head) (inp : SampleInput) (order : SampleOrder) (s : State) (hp : s.present h = true)
    (hw : s.headState h ≠ .weld) (hd : s.headState h = .dwell → (s.head h).seq.kind = .fresh ∨
      (sampleWorked h inp order s).headState h = .dwell) : SameSegments h s (sampleWorked h inp order s) := by
  have found := (readSample_reached h inp order s).1
  have present := found.present.trans hp
  have state : ((readSample h inp order s).head h).seq.state = s.headState h := found.state
  refine found.segments.trans ?_
  by_cases dwell : s.headState h = .dwell
  · refine (sampleActs_dwell h _ order _ _ present (state.trans dwell)).segments ((hd dwell).imp_left ?_)
    exact found.kind.trans
  by_cases pause : s.headState h = .pause
  · exact sampleActs_pause_segments h _ order _ present (state.trans pause)
  refine sampleActs_segments h _ order _ _ present ?_ (state ▸ dwell)
  rw [state]
  revert hw pause
  cases s.headState h <;> decide

/-- A sample that found a head in PAUSE: `s` before it, `x` behind its work. -/
structure PauseSample (h : Head) (order : SampleOrder) (s x : State) : Prop where
  state : x.headState h = .pause ∨ x.headState h = .interrupting
  left : x.headState h = .interrupting → (x.head h).plan.starved = none
  fed : (s.head h).plan.starved = none → (x.head h).plan.starved = none
  measured : ∀ v, (s.head h).plan.starved = some v → x.headState h = .pause →
    (x.head h).plan.starved = some ⟨v.nominalEnd, x.toolStation h - v.nominalEnd⟩ ∧
    x.toolStation h - v.nominalEnd < (s.head h).travelSet.starvationAllowance
  exhausted : ∀ v, (s.head h).plan.starved = some v →
    ((s.head h).travelSet.starvationAllowance : Int) ≤ x.toolStation h - v.nominalEnd →
    order.acts.head? = some .station → (x.head h).seq.cause = some .planStarved ∧
      (x.head h).seq.interruptStation = x.toolStation h ∧
      (x.head h).log.counters.seamsInterrupted = bump (s.head h).log.counters.seamsInterrupted

/-- A head interrupted before its plan store's work stays so. -/
theorem pauseSample_interrupted {h : Head} {order : SampleOrder} {s x : State} (hx : x.headState h = .interrupting)
    (hv : (x.head h).plan.starved = none) (hn : order.acts.head? ≠ some .station) : PauseSample h order s x where
  state := .inr hx
  left _ := hv
  fed _ := hv
  measured _ _ hp := by
    rw [hx] at hp
    cases hp
  exhausted _ _ _ hf := absurd hf hn

/-- A head still in PAUSE at its plan store's work, in the state `m`. -/
theorem pauseSample_measured {h : Head} {order : SampleOrder} {r : Bool} {s m p x : State} (meas : PlanMeasured h m p)
    (w : Work h r p x) (hp : m.present h = true) (hm : m.headState h = .pause)
    (hv : (m.head h).plan.starved = (s.head h).plan.starved) (hs : (m.head h).travelSet = (s.head h).travelSet)
    (hc : order.acts.head? = some .station →
      (m.head h).log.counters.seamsInterrupted = (s.head h).log.counters.seamsInterrupted) :
    PauseSample h order s x := by
  have v := w.worked (meas.present.trans hp)
  have tool : x.toolStation h = m.toolStation h := v.tool.trans meas.tool
  cases hy : (s.head h).plan.starved with
  | none =>
    obtain ⟨state, fed⟩ := meas.fed (hv.trans hy)
    have end_fed : (x.head h).plan.starved = none := by
      rcases v.stays with ⟨-, same⟩ | ⟨-, ended⟩
      · exact same.trans fed
      · exact ended
    refine ⟨?_, fun _ => end_fed, fun _ => end_fed, fun _ hz => ?_, fun _ hz => ?_⟩
    · exact v.stays.imp (fun same => same.1.trans (state.trans hm)) And.left
    all_goals
      rw [hy] at hz
      cases hz
  | some y =>
    have onset := meas.starved y (hv.trans hy)
    rw [hs, ← tool] at onset
    split at onset
    · next exhausted =>
      obtain ⟨state, cause, station, fed, seams⟩ := onset
      have a := w.aside (by rw [state]; rfl)
      have left := a.headState.trans state
      refine ⟨.inr left, fun _ => by rw [a.plan, fed], fun _ => by rw [a.plan, fed], fun _ _ hp => ?_, fun _ _ _ hf => ?_⟩
      · rw [left] at hp
        cases hp
      · exact ⟨by rw [a.seq, cause], by rw [a.seq, station], by rw [a.seamsInterrupted, seams, hc hf]⟩
    · next remains =>
      have same_value : ∀ z, (s.head h).plan.starved = some z → z = y := fun z hz =>
        Option.some.inj (hz.symm.trans hy)
      refine ⟨?_, ?_, fun hn => ?_, fun z hz hp => ?_, fun z hz he => ?_⟩
      · exact v.stays.imp (fun same => same.1.trans (onset.1.trans hm)) And.left
      · intro left
        rcases v.stays with ⟨state, -⟩ | ⟨-, ended⟩
        · rw [state, onset.1, hm] at left
          cases left
        · exact ended
      · rw [hy] at hn
        cases hn
      · obtain rfl := same_value z hz
        rcases v.stays with ⟨-, same⟩ | ⟨state, -⟩
        · exact ⟨same.trans onset.2, by omega⟩
        · rw [state] at hp
          cases hp
      · obtain rfl := same_value z hz
        exact absurd he remains

theorem pauseSample (h : Head) (inp : SampleInput) (order : SampleOrder) (s : State) (hp : s.present h = true)
    (hw : s.headState h = .pause) : PauseSample h order s (sampleWorked h inp order s) := by
  have found := (readSample_reached h inp order s).1
  have present := found.present.trans hp
  have state : ((readSample h inp order s).head h).seq.state = .pause := found.state.trans hw
  have welding : ((readSample h inp order s).head h).seq.state.welding = true := by rw [state]; rfl
  obtain ⟨m, rest, w, hr, e, first⟩ := sampleActs_split h ((readSample h inp order s).head h) order
    (readSample h inp order s) welding
  have v := w.worked present
  have later := sampleActs_work (r := true) h ((readSample h inp order s).head h) order rest
    (planWork h ((readSample h inp order s).head h).seq.state m) fun a ha =>
      plainAct_welding welding (ne_station_of_mem hr ha)
  rw [sampleWorked, e]
  rw [state, planWork_pause] at later ⊢
  rcases v.stays with ⟨same, starved⟩ | ⟨left, ended⟩
  · have pause : m.headState h = .pause := same.trans state
    have welds : (m.headState h).welding = true := by rw [pause]; rfl
    rw [if_pos welds] at later ⊢
    refine pauseSample_measured (measureStarvation_measures h m (v.present.trans present) welds) later
      (v.present.trans present) pause (by rw [starved, found.plan]) ?_ fun hf => ?_
    · rw [v.read.travelSet, HeadUnit.travelSet, found.profiles, HeadUnit.travelSet]
    · rw [first hf, found.seamsInterrupted]
  · have outside : (m.headState h).welding = false := by rw [left]; rfl
    rw [if_neg (by simp [outside])] at later ⊢
    have a := later.aside (by rw [left]; rfl)
    refine pauseSample_interrupted (a.headState.trans left) (by rw [a.plan, ended]) fun hf => ?_
    rw [first hf] at left
    exact absurd (state.symm.trans left) (by decide)


theorem closingRecords_eq (kind : SeamKind) (tool : Int) (starved : Option Starvation) (rest : List Segment)
    (last : Option Segment) : closingRecords kind tool starved rest last = match last with
      | some g => if (last.any fun g => g.endAction == .exit) = true then [.seamEnd g.ref kind tool]
          else if rest = [] ∧ starved = none then [.starved (g.endStation : Nat) g.ref] else []
      | none => [] := by
  cases last with
  | none => rfl
  | some g => simp [closingRecords]

/-- Settles O44: the sample is cut at its one station check. In WELD what comes before reaches it with the plan as it was,
and what comes after takes nothing back; elsewhere the plan store measures alone. -/
theorem weldSampleChecksStation : Obligations.WeldSampleChecksStation := by
  unfold Obligations.WeldSampleChecksStation
  refine ⟨?_, ?_⟩
  · intro h inp order gone rest s hr hp hw hg ho hq
    refine ⟨_, exec_headSample h inp order s hr hp, ?_⟩
    generalize hx : sampleWorked h inp order s = x
    intro p log u tool stop exits count starves last records limit behind carry stops hlimit
    have seq : u.seq = (x.head h).seq := presentOutputs_seq h x
    have plan : u.plan = (x.head h).plan := presentOutputs_plan h x
    have ulog : u.log = (x.head h).log := presentOutputs_log h x
    have htool : tool = x.toolStation h := presentOutputs_toolStation h x
    obtain ⟨m, w⟩ : ∃ m, WeldSample h inp order gone rest s m x := by
      subst hx
      refine weldSample hp hw hg ho hq (hlimit.imp_right (Or.imp_right fun hl => ?_)) (htool ▸ ⟨behind, carry, stops⟩)
      rw [← presentOutputs_front]
      rintro ⟨above, two⟩
      simp only [limit, u, above, two, decide_true, Bool.and_true] at hl
      cases hl
    have k := w.station
    have mtool : m.toolStation h = tool := k.read.tool.symm.trans htool.symm
    have mcount : (m.head h).reg.saturationCount = count := by
      rw [w.count, ← presentOutputs_reg]
      rfl
    have carries : exits = false → ∀ g, gone.getLast? = some g → g.endAction = .carryOn := by
      intro he g hg
      cases ha : g.endAction <;> simp [exits, hg, ha] at he ⊢
    have starved : exits = false → starvedEnd (m.head h).plan.starved gone.getLast? rest = starves := by
      intro he
      rw [w.reached.plan]
      simp only [starves, he]
      rfl
    have listed : endRecords tool count gone ++
        closingRecords (m.head h).seq.kind tool (m.head h).plan.starved rest gone.getLast? = records := by
      rw [endRecords_zipIdx, closingRecords_eq, w.reached.kind, w.reached.plan]
      rfl
    refine ⟨?_, ?_, ?_, ?_, ?_, ?_, ?_⟩
    · rw [plan, k.queue]
    · rw [plan, k.retained, w.reached.plan]
      split
      · next empty => simp [empty, p]
      · next more => simp [List.getLast?_eq_getLast_of_ne_nil more]
    · rw [ulog, k.segmentsCompleted, w.reached.segmentsCompleted]
    · intro quiet
      obtain ⟨before, only, same⟩ := w.records quiet
      rw [mtool] at only
      have written := k.records
      rw [mtool, mcount, listed] at written
      refine ⟨before, only, ?_⟩
      rw [ulog, logAll_eq, recordAll_append, ← (same.recordAll records).queue]
      exact written
    · intro he
      obtain ⟨g, hg, exit⟩ : ∃ g, gone.getLast? = some g ∧ g.endAction = .exit := by
        simpa [exits, Option.any_eq_true] using he
      obtain ⟨state, fed, ramp, spindle, idle, travel, seams, speed, other⟩ := k.exits g hg exit
      rw [← presentOutputs_track] at idle
      refine ⟨?_, by rw [plan, fed], by rw [seq, ramp], by rw [seq, spindle, w.reached.spindle],
        by rw [ulog, seams, w.reached.seamsCompleted], idle.queue, idle.activeFirst, idle.gapSlow, idle.mismatchLatch,
        (presentOutputs_travel h x).trans travel, ?_, fun ho => ?_⟩
      · rw [presentOutputs_headState, state]
      · rw [presentOutputs_gov, speed]
      · rw [presentOutputs_headState]
        exact other (w.reached.other.trans ho)
    · intro he hs
      rw [plan, k.fed (carries he) ((starved he).trans hs)]
    · intro e hs
      have he : exits = false := by
        cases he : exits
        · rfl
        · simp [starves, he] at hs
      have onset := k.starves (carries he) e ((starved he).trans hs)
      rw [mtool, HeadUnit.travelSet, w.reached.profiles, w.reached.seamsInterrupted, ← presentOutputs_headState] at onset
      rwa [seq, plan, ulog]
  · intro h inp order s hr hp hw
    refine ⟨_, exec_headSample h inp order s hr hp, ?_⟩
    intro p u tool
    have seq : u.seq = _ := presentOutputs_seq h (sampleWorked h inp order s)
    have plan : u.plan = _ := presentOutputs_plan h (sampleWorked h inp order s)
    have ulog : u.log = _ := presentOutputs_log h (sampleWorked h inp order s)
    have htool : tool = _ := presentOutputs_toolStation h (sampleWorked h inp order s)
    rw [presentOutputs_headState, seq, plan, ulog, htool]
    refine ⟨fun hd => ?_, fun pause => ?_⟩
    · have kept := sampleWorked_segments h inp order s hp hw hd
      exact ⟨kept.queue, kept.retained, kept.segmentsCompleted⟩
    · have k := pauseSample h inp order s hp pause
      exact ⟨k.state, k.left, k.fed, fun v hv => ⟨k.measured v hv, k.exhausted v hv⟩⟩

end Sys2Proof.Machine

namespace Sys2Proof.Machine
open Relation

/-! ## What one command can do to the sequencers and the travel output

The spindle law, the budget law and the reverse law (R29, R34, R97) read a few items of each head's sequencer, its profile
sets and the travel output. `HeadMove` lists every way in which a meaning changes a head's items, `SeqMove` every way in
which a meaning changes the two heads and the output together; `SeqRun` says that a command is made of such moves alone.
Each law is then checked once, on the moves. -/

/-- What these laws read of a head. -/
structure HeadView where
  state : HeadState
  kind : SeamKind
  direction : Direction
  budget : Nat
  ceiling : Nat
  origin : Option HeadState
  spindle : Nat
  profiles : ProfileStore

/-- What they read of a sequencer, beside the head's profile sets. -/
def Sequencer.view (q : Sequencer) (p : ProfileStore) : HeadView :=
  ⟨q.state, q.kind, q.direction, q.budget, q.ceiling, q.cal.origin, q.spindle, p⟩

def State.view (s : State) (h : Head) : HeadView := (s.head h).seq.view (s.head h).profiles

/-- What they read of the travel output, with the strap that tells whether head B is there. -/
structure Output where
  owned : Bool
  speed : Nat
  direction : Direction
  headB : Bool

def State.output (s : State) : Output := ⟨s.gov.owned, s.gov.speed, s.gov.direction, s.straps.headB⟩

/-- The state a head is left in at power-on (R60, R158). -/
def HeadView.powerOn : HeadView := HeadUnit.powerOn.seq.view HeadUnit.powerOn.profiles

/-- One change of a head's items, with what the meaning that makes it has checked. -/
inductive HeadMove : HeadView → HeadView → Prop
  /-- The spindle command is set to 0, or follows a segment in a state in which the spindle turns (R29, R44, R47). -/
  | turns (v : HeadView) (n : Nat) (hn : n = 0 ∨ v.state.mayTurn = true) : HeadMove v { v with spindle := n }
  /-- START SEAM (R36). -/
  | starts (v : HeadView) (hs : v.state = .ready) :
      HeadMove v { v with state := .approach, kind := .fresh, direction := .forward }
  /-- RESTART SEAM (R53). -/
  | reenters (v : HeadView) (d : Direction) (hs : v.state = .interrupted) :
      HeadMove v { v with state := .approach, kind := .reentry, direction := d }
  /-- Arrival (R37, R38). -/
  | arrives (v : HeadView) (n : Nat) (hs : v.state = .approach) : HeadMove v { v with state := .spinup, spindle := n }
  /-- A start ends without plunging (R38, R39, R49, R56). -/
  | ends (v : HeadView) (hs : v.state.starting = true) :
      HeadMove v { v with state := if v.kind = .fresh then .ready else .interrupted, spindle := 0 }
  /-- At speed a fresh seam uses one of its budget (R34, R38). -/
  | plunges (v : HeadView) (hs : v.state = .spinup) :
      HeadMove v { v with state := .plunge, budget := if v.kind = .fresh then v.budget - 1 else v.budget }
  /-- A head in the material goes on, or begins its retract (R42, R44, R45, R102, R104). -/
  | goes (v : HeadView) (st : HeadState) (hs : v.state.inMaterial = true)
      (ht : st.inMaterial = true ∨ st = .exit ∨ st = .interrupting) : HeadMove v { v with state := st }
  /-- The retract of EXIT is complete (R44). -/
  | exits (v : HeadView) (hs : v.state = .exit) :
      HeadMove v { v with state := if v.budget = 0 then .calDue else .ready, spindle := 0 }
  /-- The retract of INTERRUPTING is complete (R47). -/
  | retracts (v : HeadView) (hs : v.state = .interrupting) :
      HeadMove v { v with state := .interrupted, spindle := 0 }
  /-- A seam is abandoned (R23, R55). -/
  | abandons (v : HeadView) (hs : v.state = .interrupted) :
      HeadMove v { v with state := if v.budget = 0 then .calDue else .ready }
  /-- CALIBRATE (R153). -/
  | calibrates (v : HeadView) (hs : v.state = .calDue ∨ v.state = .ready ∨ v.state = .interrupted) :
      HeadMove v { v with state := .calibrating, origin := some v.state }
  /-- A calibration fails or is aborted (R155, R156). -/
  | uncalibrated (v : HeadView) (hs : v.state = .calibrating) :
      HeadMove v { v with state := v.origin.getD .calDue, origin := none }
  /-- A calibration succeeds with the budget of the TRAVEL set (R155). -/
  | calibrated (v : HeadView) (n : Nat) (hs : v.state = .calibrating)
      (hn : ∀ t, v.profiles.travel = some t → n = t.calibrationBudget) :
      HeadMove v { v with
        state := if v.origin.getD .calDue = .interrupted then .interrupted else .ready, origin := none
        budget := n, ceiling := n }
  /-- LOAD PROFILE (R147 to R150). -/
  | loads (v : HeadView) (load : ProfileLoad) (ha : admitsLoad v.state load = true)
      (hk : profileRank load ≤ v.profiles.progress) (hi : loadInRange load = true) :
      HeadMove v { v with
        state := stateAfterLoad v.state v.profiles.progress load
        budget := if invalidates v.state load then 0 else v.budget
        profiles := storeProfile v.profiles load }
  /-- RESET HEAD (R58). -/
  | resets (v : HeadView) (he : v.state.engaged = false) :
      HeadMove v { v with
        state := if v.state = .uncommissioned ∨ v.state = .commissioning then v.state
          else if v.budget = 0 then .calDue else .ready
        kind := .fresh, direction := .forward, origin := none, spindle := 0 }
  /-- RESET DEVICE, or the RESET input (R189, R190). -/
  | powersOn (v : HeadView) : HeadMove v .powerOn

/-- Neither a head's items nor the travel output change. -/
structure Unmoved (s t : State) : Prop where
  views : ∀ k, t.view k = s.view k
  output : t.output = s.output

/-- No present other head is in APPROACH in reverse (R35, R51). -/
def State.ClearOf (s : State) (h : Head) : Prop :=
  s.present h.other = true → s.headState h.other = .approach → (s.head h.other).seq.direction ≠ .reverse

/-- One change of the heads and of the travel output. -/
inductive SeqMove : State → State → Prop
  | rests {s t : State} (u : Unmoved s t) : SeqMove s t
  /-- A head's spindle command changes in its state. -/
  | turns {s t : State} (h : Head) (m : HeadMove (s.view h) (t.view h)) (hs : t.headState h = s.headState h)
      (hd : (t.view h).direction = (s.view h).direction) (ho : t.view h.other = s.view h.other)
      (hg : t.output = s.output) : SeqMove s t
  /-- A head changes state; the governor takes that at once (R28, R85, R86). -/
  | enters {s t : State} (h : Head) (st : HeadState) (m : HeadMove (s.view h) { t.view h with state := st })
      (ho : t.view h.other = s.view h.other) (hg : t.output = s.output)
      (hc : st = .approach → s.headState h ≠ .calibrating → s.ClearOf h)
      (hp : s.headState h = .uncommissioned → st = .uncommissioned ∨ s.present h = true)
      (hh : t.headState h = s.headState h := by simp [State.headState]) : SeqMove s (setHeadState h st t)
  | pauses (s : State) (h : Head) : SeqMove s (pauseBegin h s)
  /-- The governor moves the command (R87 to R90). -/
  | governs (s : State) (ho : s.gov.owned = true) : SeqMove s { s with gov := s.moveGovernor }
  /-- The RESET input releases the output (R190). -/
  | releases {s t : State} (hv : ∀ k, t.view k = s.view k) (hg : t.output = { s.output with owned := false, speed := 0 }) :
      SeqMove s t
  | powersOn (pins : Pins) (straps : Straps) (n : Nat) (pending : List Instr) (s : State) :
      SeqMove s (State.powerOn pins straps n pending)

/-- What a command does is made of such moves. -/
structure SeqRun (s t : State) : Prop where
  moves : ReflTransGen SeqMove s t

theorem SeqRun.refl (s : State) : SeqRun s s := ⟨.refl⟩

theorem SeqRun.of_move {s t : State} (m : SeqMove s t) : SeqRun s t := ⟨.single m⟩

theorem SeqRun.trans {s t u : State} (a : SeqRun s t) (b : SeqRun t u) : SeqRun s u := ⟨a.moves.trans b.moves⟩

theorem Unmoved.refl (s : State) : Unmoved s s := ⟨fun _ => rfl, rfl⟩

theorem Unmoved.trans {s t u : State} (a : Unmoved s t) (b : Unmoved t u) : Unmoved s u :=
  ⟨fun k => (b.views k).trans (a.views k), b.output.trans a.output⟩

theorem Unmoved.headState {s t : State} (u : Unmoved s t) (k : Head) : t.headState k = s.headState k :=
  congrArg HeadView.state (u.views k)

theorem Unmoved.of_ite {c : Prop} [Decidable c] {s a b : State} (ha : c → Unmoved s a) (hb : ¬c → Unmoved s b) :
    Unmoved s (if c then a else b) := by
  split
  · next hc => exact ha hc
  · next hc => exact hb hc

/-- What changes neither a head nor the output; for the operations whose frame is known, the proof is by that frame. -/
theorem SeqRun.of_same {s t : State} (u : Unmoved s t := by constructor <;> simp [State.view, State.output]) :
    SeqRun s t := .of_move (.rests u)

theorem SeqRun.then_same {s t u : State} (a : SeqRun s t)
    (b : Unmoved t u := by constructor <;> simp [State.view, State.output]) : SeqRun s u := a.trans (.of_same b)

theorem SeqRun.after_same {s t u : State} (a : SeqRun t u)
    (b : Unmoved s t := by constructor <;> simp [State.view, State.output]) : SeqRun s u := (SeqRun.of_same b).trans a

theorem SeqRun.of_ite {c : Prop} [Decidable c] {s a b : State} (ha : c → SeqRun s a) (hb : ¬c → SeqRun s b) :
    SeqRun s (if c then a else b) := by
  split
  · next hc => exact ha hc
  · next hc => exact hb hc

theorem SeqRun.foldl {α : Type} (f : State → α → State) (hf : ∀ s a, SeqRun s (f s a)) (l : List α) (s : State) :
    SeqRun s (l.foldl f s) := by
  induction l generalizing s with
  | nil => exact .refl s
  | cons a rest ih => exact (hf s a).trans (ih (f s a))

theorem Unmoved.foldl {α : Type} (f : State → α → State) (hf : ∀ s a, Unmoved s (f s a)) (l : List α) (s : State) :
    Unmoved s (l.foldl f s) := by
  induction l generalizing s with
  | nil => exact .refl s
  | cons a rest ih => exact (hf s a).trans (ih (f s a))

/-! ### What a head's own changes do -/

theorem onSeq_view_self (h : Head) (f : Sequencer → Sequencer) (s : State) :
    (s.onSeq h f).view h = (f (s.head h).seq).view (s.head h).profiles := by simp [State.view]

theorem onSeq_view_other (h : Head) (f : Sequencer → Sequencer) (s : State) :
    (s.onSeq h f).view h.other = s.view h.other := by simp [State.view]

/-- A change of sequencer items that the laws do not read. -/
theorem onSeq_unmoved (h : Head) (f : Sequencer → Sequencer) (s : State) (hf : ∀ q p, (f q).view p = q.view p) :
    Unmoved s (s.onSeq h f) where
  views k := by
    rcases head_cases h k with rfl | rfl
    · rw [onSeq_view_self, hf]; rfl
    · exact onSeq_view_other ..
  output := by simp [State.output]

theorem startRamp_unmoved (h : Head) (s : State) : Unmoved s (startRamp h s) := onSeq_unmoved h _ s fun _ _ => rfl

/-- A spindle command given in a state in which the spindle turns, or taken back. -/
theorem spindle_moves (h : Head) (n : Nat) (s : State) (hn : n = 0 ∨ (s.headState h).mayTurn = true) :
    SeqRun s (s.onSeq h fun q => { q with spindle := n }) :=
  .of_move (.turns h (by rw [onSeq_view_self]; exact .turns (s.view h) n hn) (by simp [State.headState])
    (by simp [State.view, Sequencer.view]) (onSeq_view_other ..) (by simp [State.output]))

theorem followSpindle_moves (h : Head) (s : State) (hm : (s.headState h).mayTurn = true) :
    SeqRun s (followSpindle h s) := by
  unfold followSpindle
  split
  · exact spindle_moves h _ s (.inr hm)
  · have followed := spindle_moves h (Config.freeSpindle s.free % 4001) s (.inr hm)
    exact followed.then_same

/-! ### Changes of a head's state -/

theorem setHeadState_view_self (h : Head) (st : HeadState) (s : State) :
    (setHeadState h st s).view h = { s.view h with state := st } := by
  simp [State.view, Sequencer.view, setHeadState_self]

/-- The begin of a pause changes the state of a head in WELD and nothing else that the laws read. -/
theorem pauseBegin_view (h k : Head) (s : State) : (pauseBegin h s).view k =
    if k = h ∧ s.headState h = .weld then { s.view k with state := .pause } else s.view k := by
  unfold pauseBegin
  by_cases hw : s.headState h = .weld
  · rw [if_pos hw]
    rcases head_cases h k with rfl | rfl
    · simp [State.view, Sequencer.view, hw]
    · simp [State.view]
  · simp [hw]

/-- The other head at a change of state: a HOLD makes a welding one pause (R86, R102). -/
theorem setHeadState_view_other (h : Head) (st : HeadState) (s : State) :
    (setHeadState h st s).view h.other = s.view h.other ∨ s.headState h.other = .weld ∧
      (setHeadState h st s).view h.other = { s.view h.other with state := .pause } := by
  by_cases hy : st.demand = .hold ∧ s.demand h ≠ .hold
  · rw [setHeadState_hold h st s hy, takeHold, pauseBegin_view]
    by_cases hw : s.headState h.other = .weld
    · exact .inr ⟨hw, by simp [State.view, hw]⟩
    · exact .inl (by simp [State.view, hw])
  · exact .inl (by simp [State.view, setHeadState_other h st s hy])

/-- A change of state within the machine's own sequence: neither an approach begins nor is a head commissioned. -/
theorem SeqRun.enters {s t : State} (h : Head) (st : HeadState) (m : HeadMove (s.view h) { t.view h with state := st })
    (ho : t.view h.other = s.view h.other) (hg : t.output = s.output) (hn : st ≠ .approach)
    (hu : s.headState h ≠ .uncommissioned) (hh : t.headState h = s.headState h := by simp [State.headState]) :
    SeqRun s (setHeadState h st t) :=
  .of_move (.enters h st m ho hg (fun e _ => absurd e hn) (fun e => absurd e hu) hh)

/-- A head in the material goes on, or begins its retract. -/
theorem goes_moves (h : Head) (st : HeadState) {s t : State} (u : Unmoved s t) (hs : (s.headState h).inMaterial = true)
    (ht : st.inMaterial = true ∨ st = .exit ∨ st = .interrupting) : SeqRun s (setHeadState h st t) :=
  .enters h st (by rw [u.views h]; exact .goes (s.view h) st hs ht) (u.views _) u.output
    (by rintro rfl; simp [HeadState.inMaterial] at ht) (by intro e; rw [e] at hs; cases hs) (u.headState h)

theorem interruptHead_moves (h : Head) (c : Cause) (s : State) : SeqRun s (interruptHead h c s) := by
  refine .of_ite (fun ha => ?_) fun _ => .refl s
  have entered : SeqRun s (setHeadState h .interrupting (s.onSeq h fun q =>
      { q with cause := some c, interruptStation := s.toolStation h, rampAcc := 499 })) :=
    goes_moves h .interrupting (onSeq_unmoved h _ s fun _ _ => rfl) (Cause.actsIn_inMaterial ha) (.inr (.inr rfl))
  exact entered.then_same

theorem endStart_moves (h : Head) {s t : State} (u : Unmoved s t) (hs : (s.headState h).starting = true) :
    SeqRun s (endStart h t) := by
  have kind : (t.head h).seq.kind = (s.head h).seq.kind := congrArg HeadView.kind (u.views h)
  have ended : SeqRun s (setHeadState h (if (s.head h).seq.kind = .fresh then .ready else .interrupted)
      (t.onSeq h fun q => { q with spindle := 0 })) := by
    refine .enters h _ ?_ ?_ (.trans (by simp [State.output]) u.output) (by split <;> simp)
      (by intro e; rw [e] at hs; cases hs) (by simpa [State.headState] using u.headState h)
    · rw [onSeq_view_self]
      have m := HeadMove.ends (s.view h) hs
      rw [← u.views h] at m ⊢
      rw [← kind]
      exact m
    · rw [onSeq_view_other, u.views]
  unfold endStart
  dsimp only
  cases hk : (t.head h).seq.kind with
  | fresh =>
    rw [← kind, hk] at ended
    exact ended.then_same
  | reentry =>
    rw [← kind, hk] at ended
    exact SeqRun.then_same ended (by constructor <;> simp [State.view, State.output, enterInterrupted])

theorem failStart_moves (h : Head) (r : StartFailure) (s : State) (hs : (s.headState h).starting = true) :
    SeqRun s (failStart h r s) := endStart_moves h (by constructor <;> simp [State.view, State.output]) hs

theorem startFault_moves (h : Head) (r : StartFailure) (s : State) : SeqRun s (startFault h r s) :=
  .of_ite (fun hs => failStart_moves h r s hs) fun _ => .refl s

theorem enterExit_moves (h : Head) (g : Segment) (s : State) (hs : (s.headState h).inMaterial = true) :
    SeqRun s (enterExit h g s) := by
  unfold enterExit
  extract_lets s1 s2
  have recorded : Unmoved s s2 := by constructor <;> simp [State.view, State.output, s2, s1]
  have entered : SeqRun s (setHeadState h .exit (startRamp h s2)) :=
    goes_moves h .exit (recorded.trans (startRamp_unmoved h _)) hs (.inr (.inl rfl))
  exact entered.then_same

/-! ### Requests -/

/-- A request that names a head does no more than a present head's part of it and a refusal. -/
theorem forHead_moves (kind : Byte) (code : Nat) (take : Head → State → State)
    (ht : ∀ h s, s.present h = true → SeqRun s (take h s)) (s : State) : SeqRun s (forHead kind code take s) := by
  unfold forHead
  split
  · exact .of_ite (fun hp => ht _ s hp) fun _ => .of_same
  · exact .of_same

theorem SeqRun.answers {s t : State} (r : SeqRun s t) (kind : Byte) (st : Status) (d : List Byte) :
    SeqRun s (answer kind st d t) := r.then_same

theorem answer_moves (kind : Byte) (st : Status) (d : List Byte) (s : State) : SeqRun s (answer kind st d s) := .of_same

/-- A check that answers a refusal leaves the run to what follows it. -/
theorem refuse_moves {c : Prop} [Decidable c] {kind : Byte} {st : Status} {d : List Byte} {s t : State}
    (ht : ¬c → SeqRun s t) : SeqRun s (if c then answer kind st d s else t) := .of_ite (fun _ => .of_same) ht

theorem takeAppendSegment_moves (r : SegmentRecord) (h : Head) (s : State) : SeqRun s (takeAppendSegment r h s) := by
  have append (g : Segment) : SeqRun s (appendToPlan h g s) := .of_ite (fun _ => .of_same) fun _ => .of_same
  unfold takeAppendSegment
  refine refuse_moves fun _ => ?_
  split
  · exact answer_moves ..
  · exact refuse_moves fun _ => refuse_moves fun _ => refuse_moves fun _ => (append _).answers ..

theorem abandon_moves (h : Head) (n : Nat) (s : State) (hs : s.headState h = .interrupted) :
    SeqRun s (abandon h n s) := by
  refine .enters h _ ?_ (by simp [State.view]) (by simp [State.output]) ?_ (by simp [hs])
  · have recorded (b : RecordBody) : (createRecord h b false s).view h = s.view h := by simp [State.view]
    rw [recorded]
    exact .abandons (s.view h) hs
  · rcases readyOrCalDue_cases (s.head h).seq with e | e <;> rw [e] <;> decide

/-- A seam is abandoned on a changed plan. -/
theorem SeqRun.abandoned (h : Head) (n : Nat) (f : PlanStore → PlanStore) (s : State)
    (hs : s.headState h = .interrupted) : SeqRun s (abandon h n (s.onPlan h f)) :=
  SeqRun.after_same (abandon_moves h n (s.onPlan h f) (by simpa [State.headState] using hs))

theorem takeClearPlan_moves (h : Head) (s : State) : SeqRun s (takeClearPlan h s) := by
  have cleared : SeqRun s (s.onPlan h PlanStore.cleared) := .of_same
  unfold takeClearPlan
  dsimp only
  cases hs : s.headState h
  case interrupted => exact (SeqRun.abandoned h _ _ s hs).answers ..
  case uncommissioned | commissioning | calDue | ready => exact cleared.answers ..
  all_goals exact answer_moves ..

theorem takeAbandonSeam_moves (h : Head) (s : State) : SeqRun s (takeAbandonSeam h s) :=
  .of_ite (fun hs => (SeqRun.abandoned h _ _ s hs).answers ..) fun _ => answer_moves ..

theorem takeResetHead_moves (h : Head) (s : State) : SeqRun s (takeResetHead h s) := by
  unfold takeResetHead
  refine refuse_moves fun he => ?_
  have hn : (s.headState h).engaged = false := by simpa using he
  have m := HeadMove.resets (s.view h) hn
  have reset : (s.onHead h HeadUnit.reset).view h = { s.view h with
      kind := .fresh, direction := .forward, origin := none, spindle := 0 } := by
    rw [State.view, onHead_self]
    rfl
  refine SeqRun.answers (.of_move (.enters h _ (t := s.onHead h HeadUnit.reset) ?_ (by simp [State.view])
    (by simp [State.output]) (fun e _ => ?_) (fun e => .inl ?_)
    (congrArg HeadView.state reset))) ..
  · rw [reset, stateAfterReset_eq]
    exact m
  · have := (stateAfterReset_idle (s.head h).seq).1
    rw [e] at this
    cases this
  · rw [stateAfterReset_eq, if_pos (.inl e)]
    exact e

theorem takeStartSeam_moves (h : Head) (s : State) (hp : s.present h = true) : SeqRun s (takeStartSeam h s) := by
  unfold takeStartSeam
  refine refuse_moves fun hr => refuse_moves fun hd => refuse_moves fun _ => ?_
  split
  · exact answer_moves ..
  next g _ =>
  refine refuse_moves fun _ => refuse_moves fun _ => refuse_moves fun _ => refuse_moves fun ho => ?_
  have hs : s.headState h = .ready := by tauto
  have begins : SeqRun s (setHeadState h .approach (s.onSeq h fun q =>
      { q with kind := .fresh, target := (g.start : Nat), direction := .forward })) := by
    refine .of_move (.enters h _ ?_ (onSeq_view_other ..) (by simp [State.output])
      (fun _ _ => ?_) fun _ => .inr hp)
    · rw [onSeq_view_self]
      exact .starts (s.view h) hs
    · simpa [State.otherReverses, State.ClearOf] using ho
  exact SeqRun.answers (begins.then_same (by constructor <;> simp [State.view, State.output, beginSeam])) ..

theorem stopHead_moves (h : Head) (s : State) : SeqRun s (stopHead h s) :=
  .of_ite (fun hs => failStart_moves h _ s hs) fun _ => interruptHead_moves ..

theorem broadcastStop_moves (first : Head) (s : State) : SeqRun s (broadcastStop first s) :=
  .foldl _ (fun s h => stopHead_moves h s) _ s

theorem requestStopSeam_moves (target : StopTarget) (s : State) : SeqRun s (requestStopSeam target s) := by
  cases target with
  | head code =>
    exact forHead_moves _ _ _ (fun h s _ => .of_ite (fun _ => (stopHead_moves h s).answers ..) fun _ => answer_moves ..) s
  | broadcast first => exact broadcastStop_moves first s

theorem beginReentry_moves (h : Head) (station : Int) (s : State) (hs : s.headState h = .interrupted)
    (ho : s.otherEngaged h = false) : SeqRun s (beginReentry h station s) := by
  have begins : SeqRun s (setHeadState h .approach (emptyTrack h ((s.onSeq h fun q =>
      { q with kind := .reentry, target := station, reentryStation := station
               direction := if station < s.toolStation h then .reverse else .forward }).onPlan h fun p =>
      p.reinstate station))) := by
    refine .of_move (.enters h _ ?_ (by simp [State.view]) (by simp [State.output])
      (fun _ _ hp ha => ?_) (by simp [hs]))
    · simpa [State.view, Sequencer.view] using
        HeadMove.reenters (s.view h) (if station < s.toolStation h then .reverse else .forward) hs
    · simp [State.otherEngaged, hp, ha, HeadState.engaged] at ho
  exact begins.then_same (by constructor <;> simp [State.view, State.output, beginReentry])

theorem takeRestartSeam_moves (overlap : Nat) (h : Head) (s : State) : SeqRun s (takeRestartSeam overlap h s) := by
  unfold takeRestartSeam
  refine refuse_moves fun hs => refuse_moves fun _ => refuse_moves fun _ => refuse_moves fun _ => refuse_moves fun ho => ?_
  exact (beginReentry_moves h _ s (by simpa using hs) (by simpa using ho)).answers ..

theorem acceptProfile_moves (h : Head) (load : ProfileLoad) (s : State) (hp : s.present h = true)
    (ha : admitsLoad (s.headState h) load = true) (hk : profileRank load ≤ (s.head h).profiles.progress)
    (hi : loadInRange load = true) : SeqRun s (acceptProfile h load s) := by
  unfold acceptProfile
  extract_lets st old new s1 s2 s3
  have planned : s2.view h = s1.view h ∧ s2.view h.other = s1.view h.other ∧ s2.output = s1.output := by
    unfold s2
    split <;> simp [State.view, State.output]
  have stored : s1.view h = { s.view h with profiles := new } ∧ s1.view h.other = s.view h.other ∧
      s1.output = s.output := by simp [s1, State.view, State.output, Sequencer.view]
  have budget : s3.view h = { s2.view h with budget := if invalidates st load then 0 else (s2.view h).budget } ∧
      s3.view h.other = s2.view h.other ∧ s3.output = s2.output := by
    unfold s3
    split <;> simp [State.view, State.output, Sequencer.view]
  refine .of_move (.enters h _ ?_ ?_ ?_ (fun e _ => ?_) (fun _ => .inr hp) ?_)
  · rw [budget.1, planned.1, stored.1]
    exact .loads (s.view h) load ha hk hi
  · rw [budget.2.1, planned.2.1, stored.2.1]
  · rw [budget.2.2, planned.2.2, stored.2.2]
  · have := (stateAfterLoad_idle ha old.progress).1
    rw [e] at this
    cases this
  · exact congrArg HeadView.state (budget.1.trans (by rw [planned.1, stored.1]))

theorem takeLoadProfile_moves (load : ProfileLoad) (h : Head) (s : State) (hp : s.present h = true) :
    SeqRun s (takeLoadProfile load h s) := by
  unfold takeLoadProfile
  refine refuse_moves fun _ => refuse_moves fun ha => refuse_moves fun hk => refuse_moves fun hi => ?_
  exact (acceptProfile_moves h load s hp (by simpa using ha) (by simpa using hk) (by simpa using hi)).answers ..

theorem takeReadProfile_moves (code : Nat) (h : Head) (s : State) : SeqRun s (takeReadProfile code h s) := by
  unfold takeReadProfile
  dsimp only
  split <;> exact answer_moves ..

theorem requestSetChannel_moves (head channel setting enable : Nat) (value : Int) (s : State) :
    SeqRun s (requestSetChannel head channel setting enable value s) := by
  refine forHead_moves _ _ _ (fun h s _ => ?_) s
  unfold takeSetChannel
  split
  · split
    · exact answer_moves ..
    · exact refuse_moves fun _ => SeqRun.answers (.of_ite (fun _ => .of_same) fun _ => .of_same) ..
  · exact answer_moves ..

theorem requestReadCounters_moves (scope clear : Nat) (s : State) : SeqRun s (requestReadCounters scope clear s) := by
  have head (h : Head) (c : Bool) : SeqRun s (readHeadCounters h c s) := .of_ite (fun _ => .of_same) fun _ => .of_same
  unfold requestReadCounters
  split
  · exact head ..
  · exact .of_ite (fun _ => head ..) fun _ => answer_moves ..
  · exact .of_ite (fun _ => .of_same) fun _ => .of_same
  · exact answer_moves ..

/-- What changes no unit, neither the governor nor the straps is no move. -/
theorem SeqRun.of_rest {s t : State} (ha : t.unitA = s.unitA) (hb : t.unitB = s.unitB) (hg : t.gov = s.gov)
    (hr : t.straps = s.straps) : SeqRun s t :=
  .of_same ⟨fun k => by cases k <;> simp [State.view, State.head, ha, hb], by simp [State.output, hg, hr]⟩

theorem requestSetLog_moves (pitch ta tb : Nat) (s : State) : SeqRun s (requestSetLog pitch ta tb s) :=
  .of_ite (fun _ => .of_rest rfl rfl rfl rfl) fun _ => answer_moves ..

/-! ### Calibration -/

theorem takeCalibrate_moves (h : Head) (s : State) : SeqRun s (takeCalibrate h s) := by
  unfold takeCalibrate
  refine refuse_moves fun hs => refuse_moves fun _ => refuse_moves fun _ => refuse_moves fun _ => refuse_moves fun _ => ?_
  have hs : s.headState h = .calDue ∨ s.headState h = .ready ∨ s.headState h = .interrupted := by tauto
  refine SeqRun.answers (.enters h _ ?_ (by simp [State.view]) (by simp [State.output]) (by decide) ?_) ..
  · simpa [State.view, Sequencer.view, State.headState] using HeadMove.calibrates (s.view h) hs
  · rcases hs with e | e | e <;> simp [e]

/-- A calibration ends on what the judgement has changed. -/
theorem endCalibration_moves (h : Head) (st : HeadState) {s t : State} (n c : Nat)
    (e : t.view h = { s.view h with budget := n, ceiling := c }) (ho : t.view h.other = s.view h.other)
    (hg : t.output = s.output)
    (m : HeadMove (s.view h) { s.view h with state := st, origin := none, budget := n, ceiling := c })
    (hs : s.headState h = .calibrating) : SeqRun s (endCalibration h st t) := by
  refine .of_move (.enters h st ?_ (by rw [onSeq_view_other, ho]) ((by simp [State.output] : _ = t.output).trans hg)
    (fun _ hn => absurd hs hn) (by simp [hs]) 
    ((by simp [State.headState] : _ = t.headState h).trans (congrArg HeadView.state e)))
  have cleared : (t.onSeq h fun q => { q with cal := CalAccumulator.clear }).view h =
      { t.view h with origin := none } := by rw [onSeq_view_self]; rfl
  rw [cleared, e]
  exact m

/-- A calibration that fails returns to its origin state (R155, R156). -/
theorem uncalibrated_moves (h : Head) {s t : State} (u : Unmoved s t) (hs : s.headState h = .calibrating) :
    SeqRun s (endCalibration h (s.head h).seq.origin t) :=
  endCalibration_moves h _ (s.view h).budget (s.view h).ceiling (u.views h) (u.views _) u.output
    (.uncalibrated (s.view h) hs) hs

theorem abortCalibration_moves (h : Head) (r : CalFailure) (s : State) (hs : s.headState h = .calibrating) :
    SeqRun s (abortCalibration h r s) :=
  uncalibrated_moves h (by constructor <;> simp [State.view, State.output]) hs

theorem failCalibration_moves (h : Head) (r : CalFailure) (s : State) (hs : s.headState h = .calibrating) :
    SeqRun s (failCalibration h r s) :=
  uncalibrated_moves h (by constructor <;> simp [State.view, State.output]) hs

theorem succeedCalibration_moves (h : Head) (s : State) (hs : s.headState h = .calibrating) :
    SeqRun s (succeedCalibration h s) := by
  refine endCalibration_moves h _ (s.head h).travelSet.calibrationBudget (s.head h).travelSet.calibrationBudget
    (by simp [State.view, Sequencer.view]) (by simp [State.view]) (by simp [State.output])
    (.calibrated (s.view h) _ hs fun t ht => ?_) hs
  rw [HeadUnit.travelSet, show (s.head h).profiles.travel = some t from ht]
  rfl

theorem judgeCalibration_moves (h : Head) (s : State) (hs : s.headState h = .calibrating) :
    SeqRun s (judgeCalibration h s) :=
  .of_ite (fun _ => failCalibration_moves h _ s hs) fun _ =>
    .of_ite (fun _ => failCalibration_moves h _ s hs) fun _ => succeedCalibration_moves h s hs

theorem calibrationSample_moves (h : Head) (split : Bool) (s : State) (hs : s.headState h = .calibrating) :
    SeqRun s (calibrationSample h split s) := by
  have added : Unmoved s (s.onSeq h fun q => { q with cal := q.cal.add (s.head h).front.force.raw }) :=
    onSeq_unmoved h _ s fun _ _ => rfl
  exact .of_ite (fun _ => abortCalibration_moves h _ s hs) fun _ => .of_ite (fun _ =>
    .of_ite (fun _ => (judgeCalibration_moves h _ ((added.headState h).trans hs)).after_same added)
      fun _ => .of_same added) fun _ => .refl s

/-! ### Resets, the halt and the line -/

theorem deviceReset_moves (s : State) : SeqRun s (deviceReset s) := .of_move (.powersOn ..)

theorem requestResetDevice_moves (broadcast : Bool) (s : State) : SeqRun s (requestResetDevice broadcast s) :=
  .of_ite (fun _ => .of_ite (fun _ => .refl s) fun _ => deviceReset_moves s) fun _ => refuse_moves fun _ => .of_same

theorem resetTakesPlace_moves (s : State) : SeqRun s (resetTakesPlace s) :=
  .of_ite (fun _ => deviceReset_moves s) fun _ => .refl s

theorem haltHead_moves (h : Head) (src : HaltSource) (s : State) : SeqRun s (haltHead h src s) := by
  unfold haltHead reportHalt
  dsimp only
  cases hs : s.headState h
  case plunge | dwell | weld | pause => exact (interruptHead_moves h .halt s).then_same
  case approach | spinup => exact (endStart_moves h (.refl s) (by rw [hs]; rfl)).then_same
  case calibrating => exact (abortCalibration_moves h .halt s hs).then_same
  all_goals exact .refl s

theorem haltEvent_moves (src : HaltSource) (first : Head) (s : State) : SeqRun s (haltEvent src first s) :=
  .foldl _ (fun s h => haltHead_moves h src s) _ s

theorem assertHalt_moves (first : Head) (s : State) : SeqRun s (assertHalt first s) := by
  have driven : SeqRun s { s with pins := { s.pins with halt := true } } := .of_rest rfl rfl rfl rfl
  exact .of_ite (fun _ => driven) fun _ => driven.trans (haltEvent_moves ..)

theorem assertReset_moves (s : State) : SeqRun s (assertReset s) :=
  .of_move (.releases (fun k => by cases k <;> rfl) rfl)

theorem takeReadStatus_moves (h : Head) (s : State) : SeqRun s (takeReadStatus h s) :=
  .of_ite (fun _ => .of_same) fun _ => .of_same

theorem takeRequest_moves (i : Instr) (s : State) : SeqRun s (takeRequest i s) := by
  cases i with
  | identify => exact answer_moves ..
  | readStatus => exact forHead_moves _ _ _ (fun h s _ => takeReadStatus_moves h s) s
  | startSeam => exact forHead_moves _ _ _ takeStartSeam_moves s
  | stopSeam => exact requestStopSeam_moves ..
  | restartSeam => exact forHead_moves _ _ _ (fun h s _ => takeRestartSeam_moves _ h s) s
  | abandonSeam => exact forHead_moves _ _ _ (fun h s _ => takeAbandonSeam_moves h s) s
  | resetHead => exact forHead_moves _ _ _ (fun h s _ => takeResetHead_moves h s) s
  | appendSegment => exact forHead_moves _ _ _ (fun h s _ => takeAppendSegment_moves _ h s) s
  | clearPlan => exact forHead_moves _ _ _ (fun h s _ => takeClearPlan_moves h s) s
  | readPlan => exact forHead_moves _ _ _ (fun h s _ => answer_moves ..) s
  | loadProfile => exact forHead_moves _ _ _ (takeLoadProfile_moves _) s
  | readProfile => exact forHead_moves _ _ _ (fun h s _ => takeReadProfile_moves _ h s) s
  | calibrate => exact forHead_moves _ _ _ (fun h s _ => takeCalibrate_moves h s) s
  | setChannel => exact requestSetChannel_moves ..
  | readChannels => exact forHead_moves _ _ _ (fun h s _ => answer_moves 0x0F .ok (s.channelBytes h) s) s
  | setLog => exact requestSetLog_moves ..
  | readRecords =>
    exact forHead_moves _ _ _ (fun h s _ => .of_same (by
      constructor <;> simp [State.view, State.output, takeReadRecords])) s
  | readCounters => exact requestReadCounters_moves ..
  | resetDevice => exact requestResetDevice_moves ..
  | _ => exact .refl s

theorem judgeFrame_moves (f : FrameBuffer) (first : Head) (s : State) : SeqRun s (judgeFrame f first s) := by
  have counted : SeqRun s (countFrame s) := .of_same (by constructor <;> simp [State.view, State.output, countFrame])
  have broadcast : SeqRun s (takeBroadcast f first (countFrame s)) := counted.trans <|
    .of_ite (fun _ => broadcastStop_moves ..) fun _ => .of_ite (fun _ => requestResetDevice_moves ..) fun _ => .refl _
  have addressed : SeqRun s (takeAddressed f (countFrame s)) := by
    refine counted.trans (refuse_moves fun _ => refuse_moves fun _ => ?_)
    split
    · exact takeRequest_moves ..
    · exact answer_moves ..
  unfold judgeFrame
  dsimp only
  refine .of_ite (fun _ => .of_ite (fun _ => .of_same) fun _ => .of_same) fun _ => ?_
  exact .of_ite (fun _ => broadcast) fun _ => addressed

theorem completeFrame_moves (d : Byte) (first : Head) (s : State) : SeqRun s (completeFrame d first s) :=
  (judgeFrame_moves _ first _).after_same

theorem discardReply_moves (s : State) : SeqRun s (discardReply s).2 := by
  unfold discardReply
  split
  · exact deviceReset_moves s
  · exact .of_same

theorem takeAddressCharacter_moves (d : Byte) (s : State) : SeqRun s (takeAddressCharacter d s) := by
  have counted (t : State) : Unmoved t (countTruncated t) := by
    constructor <;> simp [State.view, State.output, countTruncated]
  unfold takeAddressCharacter
  dsimp only
  split
  · exact .refl s
  split
  · exact discardReply_moves s
  · have truncated : SeqRun s (if s.port.rx = .receiving then countTruncated (discardReply s).2 else (discardReply s).2) :=
      (discardReply_moves s).trans (.of_ite (fun _ => .of_same (counted _)) fun _ => .refl _)
    exact .of_ite (fun _ => truncated.then_same) fun _ => truncated.then_same

theorem takeDataCharacter_moves (d : Byte) (first : Head) (s : State) : SeqRun s (takeDataCharacter d first s) := by
  unfold takeDataCharacter
  split
  · exact .refl s
  split
  · exact .of_ite (fun _ => completeFrame_moves ..) fun _ => .of_same
  · exact .of_same

theorem takeBreak_moves (first : Head) (s : State) : SeqRun s (takeBreak first s) := by
  unfold takeBreak
  dsimp only
  split
  · exact discardReply_moves s
  · exact (discardReply_moves s).trans (SeqRun.after_same (haltEvent_moves ..))

theorem lineHeldLow_moves (first : Head) (s : State) : SeqRun s (lineHeldLow first s) := by
  have held : SeqRun s { s with pins := { s.pins with lineLow := true } } := .of_rest rfl rfl rfl rfl
  exact .of_ite (fun _ => held) fun _ => .of_ite (fun _ => .refl s) fun _ =>
    .of_ite (fun _ => held.trans (takeBreak_moves ..)) fun _ => held

theorem lineReturns_moves (s : State) : SeqRun s (lineReturns s) := by
  have risen : SeqRun s { s with pins := { s.pins with lineLow := false } } := .of_rest rfl rfl rfl rfl
  unfold lineReturns
  dsimp only
  exact .of_ite (fun _ => risen) fun _ => risen.then_same

/-! ### The station check -/

theorem checkAllowance_moves (h : Head) (s : State) : SeqRun s (checkAllowance h s) := by
  unfold checkAllowance
  split
  · exact .of_ite (fun _ => interruptHead_moves ..) fun _ => .refl s
  · exact .refl s

theorem starve_moves (h : Head) (g : Segment) (s : State) : SeqRun s (starve h g s) := by
  exact .of_same (by constructor <;> simp [State.view, State.output, starve])

theorem completeSegment_unmoved (h : Head) (g : Segment) (rest : List Segment) (s : State) :
    Unmoved s (completeSegment h g rest s) := by
  constructor <;> simp [State.view, State.output, completeSegment]

theorem completeSegments_moves (n : Nat) (h : Head) (s : State) (hw : s.headState h = .weld) :
    SeqRun s (completeSegments n h s) := by
  induction n generalizing s with
  | zero => exact .refl s
  | succ n ih =>
    unfold completeSegments
    split
    · exact .refl s
    next g rest _ =>
    have completed := completeSegment_unmoved h g rest s
    have hc : (completeSegment h g rest s).headState h = .weld := (completed.headState h).trans hw
    refine .of_ite (fun _ => .refl s) fun _ => ?_
    dsimp only
    split
    · exact (SeqRun.of_same completed).trans (enterExit_moves h g _ (by rw [hc]; rfl))
    · refine .of_ite (fun _ => .of_ite (fun _ => .of_same completed) fun _ => ?_) fun _ => (ih _ hc).after_same completed
      exact ((starve_moves h g _).trans (checkAllowance_moves h _)).after_same completed

theorem reentryCheck_moves (h : Head) (s : State) (hw : s.headState h = .weld) : SeqRun s (reentryCheck h s) := by
  unfold reentryCheck
  split
  · split
    · exact starve_moves h _ s
    · exact .refl s
  · exact completeSegments_moves _ h s hw

theorem planWork_moves (h : Head) (found : HeadState) (s : State) : SeqRun s (planWork h found s) := by
  have check : SeqRun s (if found = .weld ∧ s.headState h = .weld then stationCheck h s else s) :=
    .of_ite (fun hw => completeSegments_moves _ h s hw.2) fun _ => .refl s
  have measured (t : State) : SeqRun t (measureStarvation h t) := SeqRun.after_same (checkAllowance_moves h _)
  exact .of_ite (fun _ => check.trans (measured _)) fun _ => check

/-! ### The other work of a head sample -/

/-- The rest of a head, its records and its counters are none of the laws' items. -/
theorem Unmoved.onReg {s t : State} (u : Unmoved s t) (h : Head) (f : Regulator → Regulator) : Unmoved s (t.onReg h f) :=
  u.trans (by constructor <;> simp [State.view, State.output])

theorem Unmoved.onLog {s t : State} (u : Unmoved s t) (h : Head) (f : HeadLog → HeadLog) : Unmoved s (t.onLog h f) :=
  u.trans (by constructor <;> simp [State.view, State.output])

theorem Unmoved.onTrack {s t : State} (u : Unmoved s t) (h : Head) (f : Tracking → Tracking) :
    Unmoved s (t.onTrack h f) := u.trans (by constructor <;> simp [State.view, State.output])

theorem Unmoved.onTravel {s t : State} (u : Unmoved s t) (h : Head) (f : HeadTravel → HeadTravel) :
    Unmoved s (t.onTravel h f) := u.trans (by constructor <;> simp [State.view, State.output])

theorem Unmoved.onFront {s t : State} (u : Unmoved s t) (h : Head) (f : FrontEnd → FrontEnd) :
    Unmoved s (t.onFront h f) := u.trans (by constructor <;> simp [State.view, State.output])

theorem Unmoved.createRecord {s t : State} (u : Unmoved s t) (h : Head) (b : RecordBody) (co : Bool) :
    Unmoved s (createRecord h b co t) := u.trans (by constructor <;> simp [State.view, State.output])

theorem Unmoved.countHead {s t : State} (u : Unmoved s t) (h : Head) (f : HeadCounters → HeadCounters) :
    Unmoved s (countHead h f t) := u.trans (by constructor <;> simp [State.view, State.output])

theorem reportFault_unmoved (h : Head) (n : ChannelName) (kind : FaultKind) (c : Channel) (s : State) :
    Unmoved s (reportFault h n kind c s) := by
  unfold reportFault
  exact ((Unmoved.refl s).createRecord ..).countHead ..

theorem convertHead_unmoved (h : Head) (i : SampleInput) (c : HeadChannel) (s : State) :
    Unmoved s (convertHead h i c s) := by
  have read (f : FrontEnd → FrontEnd) : Unmoved s (s.onFront h f) := (Unmoved.refl s).onFront h f
  unfold convertHead
  dsimp only
  split
  · exact .of_ite (fun _ => read _) fun _ => (read _).trans (reportFault_unmoved ..)
  · exact read _

theorem readSample_unmoved (h : Head) (i : SampleInput) (o : SampleOrder) (s : State) :
    Unmoved s (readSample h i o s) := by
  refine (Unmoved.foldl _ (fun s c => convertHead_unmoved h i c s) (conversionOrder o) s).trans ?_
  have drives (t : State) : Unmoved t (t.onHead h fun u => { u with drives := readDrives u.seq.state i u.drives }) :=
    ⟨fun k => by rcases head_cases h k with rfl | rfl <;> simp [State.view], by simp [State.output]⟩
  unfold readSample
  extract_lets s1 s2 s3
  have taken : Unmoved s1 s3 := by
    unfold s3
    split
    · exact (drives s1).trans (onSeq_unmoved h _ _ fun _ _ => rfl)
    · exact drives s1
  exact taken.onTrack ..

theorem recordExcursion_unmoved (h : Head) (x : Excursion) (s : State) : Unmoved s (recordExcursion h x s) :=
  ((Unmoved.refl s).createRecord ..).countHead ..

theorem reportExcursion_unmoved (h : Head) (g : Segment) (split : Bool) (s : State) :
    Unmoved s (reportExcursion h g split s) :=
  .of_ite (fun _ => ((Unmoved.refl s).onReg ..).onReg ..) fun _ =>
    ((Unmoved.refl s).onReg ..).trans (recordExcursion_unmoved ..)

theorem regulatorSample_unmoved (h : Head) (split : Bool) (s : State) : Unmoved s (regulatorSample h split s) := by
  unfold regulatorSample
  dsimp only
  split
  · exact .refl s
  next g _ =>
  generalize regulate _ g _ _ _ _ _ = res
  have regulated : Unmoved s ((s.onReg h fun _ => res.1).onSeq h fun q => { q with depth := res.2 }) :=
    ((Unmoved.refl s).onReg ..).trans (onSeq_unmoved h _ _ fun _ _ => rfl)
  have saturated : Unmoved s (if res.1.saturated then
      countHead h (fun c => { c with saturatedSamples := bump c.saturatedSamples })
        ((s.onReg h fun _ => res.1).onSeq h fun q => { q with depth := res.2 })
      else (s.onReg h fun _ => res.1).onSeq h fun q => { q with depth := res.2 }) :=
    .of_ite (fun _ => regulated.countHead ..) fun _ => regulated
  exact .of_ite (fun _ => saturated.trans (reportExcursion_unmoved ..)) fun _ => saturated

theorem emitAtMark_unmoved (h : Head) (s : State) : Unmoved s (emitAtMark h s) := by
  unfold emitAtMark
  dsimp only
  split
  · exact .of_ite (fun _ => ((Unmoved.refl s).createRecord ..).onLog ..) fun _ => .refl s
  · exact .refl s

theorem logWork_unmoved (h : Head) (found : HeadState) (a b : Bool) (s : State) :
    Unmoved s (logWork h found a b s) :=
  .of_ite (fun _ => .of_ite (fun _ => ((Unmoved.refl s).onLog ..).trans (emitAtMark_unmoved ..)) fun _ =>
    (Unmoved.refl s).onLog ..) fun _ => .refl s

theorem checkGap_unmoved (h : Head) (g : Segment) (e : TrackEntry) (s : State) : Unmoved s (checkGap h g e s) := by
  unfold checkGap reportGap
  split
  · split
    · exact .of_ite (fun _ => .refl s) fun _ => ((Unmoved.refl s).onTrack ..).createRecord ..
    · exact (Unmoved.refl s).createRecord ..
  · exact (Unmoved.refl s).onTrack ..

theorem checkMismatch_unmoved (h : Head) (g : Segment) (e : TrackEntry) (s : State) :
    Unmoved s (checkMismatch h g e s) :=
  .of_ite (fun _ => .of_ite (fun _ => .refl s) fun _ => ((Unmoved.refl s).onTrack ..).createRecord ..) fun _ =>
    (Unmoved.refl s).onTrack ..

theorem activate_moves (h : Head) (g : Segment) (e : TrackEntry) (first : Bool) (s : State) :
    SeqRun s (activate h g e first s) := by
  have checked : SeqRun s (checkGap h g e (s.onTrack h fun t => { t with activeFirst := true })) :=
    .of_same (((Unmoved.refl s).onTrack ..).trans (checkGap_unmoved ..))
  have stopped : SeqRun s (if first && stopsAtGap (s.head h) g e then
      interruptHead h .gap (checkGap h g e (s.onTrack h fun t => { t with activeFirst := true }))
      else checkGap h g e (s.onTrack h fun t => { t with activeFirst := true })) :=
    .of_ite (fun _ => checked.trans (interruptHead_moves ..)) fun _ => checked
  exact stopped.then_same (checkMismatch_unmoved ..)

theorem steer_unmoved (h : Head) (on : Bool) (e : Option TrackEntry) (s : State) : Unmoved s (steer h on e s) := by
  unfold steer
  exact (Unmoved.refl s).onTrack ..

theorem checkLoss_moves (h : Head) (g : Segment) (r : Int) (s : State) : SeqRun s (checkLoss h g r s) := by
  have measured (d : Int) := (Unmoved.refl s).onTrack h fun t => { t with lossDistance := d }
  exact .of_ite (fun _ => SeqRun.after_same (interruptHead_moves ..) (((measured _).createRecord ..).countHead ..))
    fun _ => .of_same (measured _)

theorem trackWelding_moves (h : Head) (weld first : Bool) (g : Segment) (s : State) :
    SeqRun s (trackWelding h weld first g s) := by
  unfold trackWelding
  extract_lets due s1 s2 s3
  have activated : SeqRun s s1 := by
    unfold s1
    cases due with
    | some e => exact activate_moves ..
    | none => exact .refl s
  have steered : SeqRun s s2 := activated.then_same (steer_unmoved ..)
  have tested : SeqRun s s3 := .of_ite (fun _ => steered.trans (checkLoss_moves ..)) fun _ => steered
  exact .of_ite (fun _ => tested.trans (interruptHead_moves ..)) fun _ => tested

theorem trackAfterLeaving_moves (h : Head) (read : HeadUnit) (first : Bool) (s : State) :
    SeqRun s (trackAfterLeaving h read first s) := by
  have trimmed : SeqRun s (s.onTrack h fun _ => read.track.trim) := .of_same ((Unmoved.refl s).onTrack ..)
  unfold trackAfterLeaving
  extract_lets s1 s2
  have worked : SeqRun s s2 := by
    unfold s2
    split
    · exact trimmed.trans (trackWelding_moves ..)
    · exact trimmed
  exact .of_ite (fun _ => worked) fun _ => worked.then_same

theorem trackWork_moves (h : Head) (read : HeadUnit) (first : Bool) (s : State) :
    SeqRun s (trackWork h read first s) := by
  have trimmed := (Unmoved.refl s).onTrack h Tracking.trim
  unfold trackWork
  dsimp only
  refine .of_ite (fun _ => .of_ite (fun _ => ?_) fun _ => trackAfterLeaving_moves ..) fun _ =>
    .of_ite (fun _ => .of_same (trimmed.trans (steer_unmoved ..))) fun _ => .of_same trimmed
  split
  · exact (trackWelding_moves ..).after_same trimmed
  · exact .of_same trimmed

/-! ### The sequencer's own work -/

theorem raiseTool_unmoved (h : Head) (s : State) : Unmoved s (raiseTool h s) := by
  unfold raiseTool
  split
  · exact .refl s
  · refine onSeq_unmoved h _ s fun q p => ?_
    dsimp only
    split <;> (try split) <;> rfl

theorem plungeStep_unmoved (h : Head) (s : State) : Unmoved s (plungeStep h s) := by
  unfold plungeStep
  refine onSeq_unmoved h _ s fun q p => ?_
  dsimp only
  split <;> rfl

/-- In a retract the spindle command is kept or taken back (R44, R47). -/
theorem retractStep_moves (h : Head) (s : State) (hm : (s.headState h).mayTurn = true) : SeqRun s (retractStep h s) := by
  unfold retractStep
  refine .of_move (.turns h ?_ (by simp [State.headState, Sequencer.rampStep])
    (by simp [State.view, Sequencer.view, Sequencer.rampStep]) (onSeq_view_other ..) (by simp [State.output]))
  rw [onSeq_view_self]
  exact .turns (s.view h) (if (s.head h).drives.spindleReady then (s.head h).seq.spindle else 0) (.inr hm)

theorem followSpindle_view (h : Head) (s : State) :
    ∃ n, (followSpindle h s).view h = { s.view h with spindle := n } := by
  unfold followSpindle
  split
  · next g _ => exact ⟨g.spindle, by simp [State.view, Sequencer.view]⟩
  · exact ⟨Config.freeSpindle s.free % 4001, by simp [State.view, Sequencer.view]⟩

theorem enterSpinup_moves (h : Head) (s : State) (hs : s.headState h = .approach) : SeqRun s (enterSpinup h s) := by
  unfold enterSpinup
  extract_lets s1
  have timed : Unmoved s s1 := onSeq_unmoved h _ s fun _ _ => rfl
  obtain ⟨n, hn⟩ := followSpindle_view h s1
  refine .enters h .spinup ?_ ?_ (.trans (by simp [State.output]) timed.output) (by decide) (by simp [hs])
    ((congrArg HeadView.state hn).trans (timed.headState h))
  · rw [hn, timed.views h]
    exact .arrives (s.view h) n hs
  · rw [← timed.views h.other]
    simp [State.view]

theorem enterPlunge_moves (h : Head) (s : State) (hs : s.headState h = .spinup) : SeqRun s (enterPlunge h s) :=
  .enters h .plunge (by rw [onSeq_view_self]; exact .plunges (s.view h) hs) (onSeq_view_other ..)
    (by simp [State.output]) (by decide) (by simp [hs])

theorem enterDwell_moves (h : Head) (s : State) (hs : s.headState h = .plunge) : SeqRun s (enterDwell h s) :=
  goes_moves h .dwell (.trans (by constructor <;> simp [State.view, State.output])
    (onSeq_unmoved h _ _ fun _ _ => rfl)) (by rw [hs]; rfl) (.inl rfl)

theorem enterWeld_moves (h : Head) (s : State) (hs : s.headState h = .dwell) : SeqRun s (enterWeld h s) := by
  have prepared : Unmoved s (restartAccumulator h ((s.onSeq h fun q =>
      { q with weldEntry := s.toolStation h }).onReg h Regulator.prepared)) :=
    ((onSeq_unmoved h (fun q => { q with weldEntry := s.toolStation h }) s fun _ _ => rfl).onReg ..).onLog h _
  have entered := goes_moves h .weld prepared (by rw [hs]; rfl) (.inl rfl)
  exact .of_ite (fun _ => entered.trans (reentryCheck_moves h _ (by simp))) fun _ => entered

/-- A complete retract, from EXIT or from INTERRUPTING (R44, R47). -/
theorem finishExit_moves (h : Head) (s : State) (hs : s.headState h = .exit) : SeqRun s (finishExit h s) :=
  .enters h _ (by rw [onSeq_view_self]; exact .exits (s.view h) hs) (onSeq_view_other ..) (by simp [State.output])
    (by rcases readyOrCalDue_cases (s.head h).seq with e | e <;> rw [e] <;> decide) (by simp [hs])

theorem finishInterrupting_moves (h : Head) (s : State) (hs : s.headState h = .interrupting) :
    SeqRun s (finishInterrupting h s) := by
  have entered : SeqRun s (setHeadState h .interrupted (s.onSeq h fun q => { q with spindle := 0 })) :=
    .enters h _ (by rw [onSeq_view_self]; exact .retracts (s.view h) hs) (onSeq_view_other ..) (by simp [State.output])
      (by decide) (by simp [hs])
  exact entered.then_same (by constructor <;> simp [State.view, State.output, finishInterrupting, enterInterrupted])

theorem findAtSpeed_moves (h : Head) (s : State) : SeqRun s (findAtSpeed h s) :=
  .of_ite (fun c => enterPlunge_moves h s (by simp at c; exact c.1.2)) fun _ => .refl s

theorem findSpinupTimeout_moves (h : Head) (s : State) : SeqRun s (findSpinupTimeout h s) :=
  .of_ite (fun c => failStart_moves h _ s (by simp at c; rw [c.1.1.2]; rfl)) fun _ => .refl s

theorem findPlungeDone_moves (h : Head) (s : State) : SeqRun s (findPlungeDone h s) :=
  .of_ite (fun c => enterDwell_moves h s (by simp at c; exact c.1.2)) fun _ => .refl s

theorem findPlungeTimeout_moves (h : Head) (s : State) : SeqRun s (findPlungeTimeout h s) :=
  .of_ite (fun _ => interruptHead_moves ..) fun _ => .refl s

theorem findDwellElapsed_moves (h : Head) (s : State) : SeqRun s (findDwellElapsed h s) :=
  .of_ite (fun c => enterWeld_moves h s (by simp at c; exact c.1.2)) fun _ => .refl s

theorem findExitRetract_moves (h : Head) (s : State) : SeqRun s (findExitRetract h s) :=
  .of_ite (fun c => finishExit_moves h s (by simp at c; exact c.1.2)) fun _ => .refl s

theorem findInterruptingRetract_moves (h : Head) (s : State) : SeqRun s (findInterruptingRetract h s) :=
  .of_ite (fun c => finishInterrupting_moves h s (by simp at c; exact c.1.2)) fun _ => .refl s

theorem findCalibrationJudged_moves (h : Head) (s : State) : SeqRun s (findCalibrationJudged h s) :=
  .of_ite (fun c => judgeCalibration_moves h s (by simp at c; exact c.1.2)) fun _ => .refl s

theorem sequenceWork_moves (h : Head) (split : Bool) (s : State) : SeqRun s (sequenceWork h split s) := by
  have take (find : Head → State → State) (hf : ∀ x, SeqRun x (find h x)) {x : State} (r : SeqRun s x) :
      SeqRun s (if split then x else find h x) := .of_ite (fun _ => r) fun _ => r.trans (hf x)
  have timer (f : Sequencer → Sequencer) (hf : ∀ q p, (f q).view p = q.view p) {t : State} (r : SeqRun s t) :
      SeqRun s (t.onSeq h f) := r.then_same (onSeq_unmoved h f t hf)
  unfold sequenceWork
  dsimp only
  cases hs : s.headState h <;> dsimp only
  case uncommissioned | commissioning | calDue | ready | interrupted => exact .of_same (raiseTool_unmoved h s)
  case calibrating => exact calibrationSample_moves h split s hs
  case approach => exact .refl s
  case spinup =>
    have run := timer (fun q => { q with spinupTimer := q.spinupTimer - 2 }) (fun _ _ => rfl) (.refl s)
    exact .of_ite (fun _ => take _ (findAtSpeed_moves h) run) fun _ => take _ (findSpinupTimeout_moves h) run
  case plunge =>
    have run := (followSpindle_moves h s (by rw [hs]; rfl)).then_same (plungeStep_unmoved h _)
    exact .of_ite (fun _ => take _ (findPlungeDone_moves h) run) fun _ => take _ (findPlungeTimeout_moves h) run
  case dwell =>
    exact take _ (findDwellElapsed_moves h) (timer (fun q => { q with dwellTimer := q.dwellTimer - 2 })
      (fun _ _ => rfl) (followSpindle_moves h s (by rw [hs]; rfl)))
  case weld | pause => exact followSpindle_moves h s (by rw [hs]; rfl)
  case exit => exact take _ (findExitRetract_moves h) (retractStep_moves h s (by rw [hs]; rfl))
  case interrupting => exact take _ (findInterruptingRetract_moves h) (retractStep_moves h s (by rw [hs]; rfl))

theorem checkWork_moves (h : Head) (found : HeadState) (c : FaultCheck) (s : State) :
    SeqRun s (checkWork h found c s) := by
  unfold checkWork
  refine .of_ite (fun _ => .refl s) fun _ => .of_ite (fun _ => interruptHead_moves ..) fun _ => ?_
  split
  · exact .of_ite (fun _ => startFault_moves ..) fun _ => .refl s
  · exact .refl s

theorem blockAct_moves (h : Head) (read : HeadUnit) (o : SampleOrder) (s : State) (a : SampleAct) :
    SeqRun s (blockAct h read o s a) := by
  cases a with
  | regulator => exact .of_ite (fun _ => .of_same (regulatorSample_unmoved ..)) fun _ => .refl s
  | forceRun =>
    have counted (n : Nat) := (Unmoved.refl s).onReg h fun r => { r with forceRun := n }
    exact .of_ite (fun _ => (interruptHead_moves ..).after_same (counted _)) fun _ => .of_same (counted _)
  | station => exact planWork_moves ..
  | track => exact trackWork_moves ..
  | log => exact .refl s
  | grace => exact .of_ite (fun _ => interruptHead_moves ..) fun _ => .refl s
  | check c => exact checkWork_moves ..
  | sequence => exact .of_ite (fun _ => sequenceWork_moves ..) fun _ => .refl s

theorem sampleActs_moves (h : Head) (read : HeadUnit) (o : SampleOrder) (l : List SampleAct) (s : State) :
    SeqRun s (sampleActs h read o l s) := by
  induction l generalizing s with
  | nil => exact .refl s
  | cons a rest ih =>
    exact SeqRun.trans (.of_ite (fun _ => .of_same (logWork_unmoved ..)) fun _ => blockAct_moves ..) (ih _)

theorem sampleHead_moves (h : Head) (i : SampleInput) (o : SampleOrder) (s : State) :
    SeqRun s (sampleHead h i o s) := by
  have presented (t : State) : Unmoved t (presentOutputs h t) :=
    ⟨fun k => by rcases head_cases h k with rfl | rfl <;> simp [State.view, presentOutputs],
      by simp [State.output, presentOutputs]⟩
  exact .of_ite (fun _ => ((sampleActs_moves ..).after_same (readSample_unmoved h i o s)).then_same (presented _))
    fun _ => .refl s

/-! ### Track reports and the governor -/

theorem acceptReport_moves (l : List Byte) (s : State) : SeqRun s (acceptReport l s) := by
  have counted (h : Head) (f : HeadCounters → HeadCounters) : Unmoved s (countHead h f s) := (Unmoved.refl s).countHead ..
  have bad : Unmoved s (countBadReport s) := by constructor <;> simp [State.view, State.output, countBadReport]
  have entered (h : Head) (e : TrackEntry) : Unmoved s (acceptEntry h e s) :=
    .of_ite (fun _ => .refl s) fun _ => .of_ite (fun _ => counted ..) fun _ => .of_ite (fun _ => counted ..) fun _ =>
      .of_ite (fun _ => counted ..) fun _ => .of_ite (fun _ => .refl s) fun _ => .of_ite (fun _ => counted ..) fun _ =>
        by constructor <;> simp [State.view, State.output]
  unfold acceptReport
  split
  · exact .of_ite (fun _ => .of_same (entered ..)) fun _ => .of_same bad
  · exact .of_same bad

theorem takeTrackerCharacter_moves (d : Byte) (s : State) : SeqRun s (takeTrackerCharacter d s) := by
  have received (r : TrackReceiver) : SeqRun s { s with tracker := r } := .of_rest rfl rfl rfl rfl
  unfold takeTrackerCharacter
  split
  · exact .of_ite (fun _ => received _) fun _ => .refl s
  · exact .of_ite (fun _ => received _) fun _ => (received _).trans (acceptReport_moves ..)

theorem takeReportArrival_moves (rest : List Byte) (s : State) : SeqRun s (takeReportArrival rest s) :=
  have waits : SeqRun s { s with tracker := .hunt } := .of_rest rfl rfl rfl rfl
  .of_ite (fun _ => waits.trans (acceptReport_moves ..)) fun _ => .refl s

theorem abandonReport_moves (s : State) : SeqRun s (abandonReport s) := by
  unfold abandonReport
  split
  · exact .refl s
  · exact .of_rest rfl rfl rfl rfl

/-- Only a reached head in APPROACH arrives. -/
theorem headState_of_reached {s : State} {h : Head} (hr : s.reached h = true) : s.headState h = .approach := by
  simp [State.reached, State.demand] at hr
  exact HeadState.demand_approach hr.1

theorem findArrival_moves (h : Head) (s : State) : SeqRun s (findArrival h s) :=
  .of_ite (fun c => enterSpinup_moves h s (by simp at c; exact headState_of_reached c.2)) fun _ => .refl s

theorem endPause_moves (h : Head) (s : State) (hs : s.headState h = .pause) : SeqRun s (endPause h s) :=
  goes_moves h .weld (by constructor <;> simp [State.view, State.output]) (by rw [hs]; rfl) (.inl rfl)

theorem pauseWork_moves (h : Head) (found : HeadState) (hold split : Bool) (s : State) :
    SeqRun s (pauseWork h found hold split s) := by
  have ran : Unmoved s (runPause h s) := (Unmoved.refl s).onTravel ..
  refine .of_ite (fun c => .of_ite (fun _ => ?_) fun _ => endPause_moves h s c.2) fun _ =>
    .of_ite (fun _ => .of_move (.pauses s h)) fun _ => .refl s
  exact .of_ite (fun _ => .of_same ran) fun _ => (interruptHead_moves ..).after_same ran

theorem updateAct_moves (u : State) (stops : Bool) (o : UpdateOrder) (s : State) (a : UpdateAct) :
    SeqRun s (updateAct u stops o s a) := by
  cases a with
  | pause h => exact pauseWork_moves ..
  | bedEnd h => exact .of_ite (fun _ => interruptHead_moves ..) fun _ => .refl s
  | arrival h => exact .of_ite (fun c => enterSpinup_moves h s (by simp at c; exact c.2)) fun _ => .refl s

theorem convertGantry_unmoved (first : Head) (i : EncoderReading) (s : State) : Unmoved s (convertGantry first i s) := by
  have converted (c : Channel) : Unmoved s { s with gantry := c } := ⟨fun k => by cases k <;> rfl, rfl⟩
  unfold convertGantry
  dsimp only
  split
  · exact .of_ite (fun _ => converted _) fun _ =>
      (converted _).trans (.foldl _ (fun x h => reportFault_unmoved ..) _ _)
  · exact converted _

theorem readUpdate_unmoved (i : UpdateInput) (o : UpdateOrder) (s : State) : Unmoved s (readUpdate i o s) :=
  (convertGantry_unmoved o.first i.gantry s).trans (by
    constructor <;> simp [State.view, State.output, readUpdate])

theorem updateGovernor_moves (i : UpdateInput) (o : UpdateOrder) (s : State) : SeqRun s (updateGovernor i o s) := by
  have read : SeqRun s (readUpdate i o s) := .of_same (readUpdate_unmoved i o s)
  exact .of_ite (fun ho => (read.trans (.of_move (.governs _ ho))).trans (.foldl _ (updateAct_moves _ _ o) _ _))
    fun _ => read

/-! ### The port, and every command -/

theorem findExcursion_moves (h : Head) (s : State) : SeqRun s (findExcursion h s) := by
  unfold findExcursion
  split
  · exact .of_ite (fun _ => .of_same (((Unmoved.refl s).onReg ..).trans (recordExcursion_unmoved ..))) fun _ => .refl s
  · exact .refl s

theorem takeFramingError_moves (s : State) : SeqRun s (takeFramingError s) :=
  .of_ite (fun _ => .refl s) fun _ => .of_ite (fun _ => .of_rest rfl rfl rfl rfl) fun _ => .of_rest rfl rfl rfl rfl

theorem takeFrameSilence_moves (s : State) : SeqRun s (takeFrameSilence s) :=
  .of_ite (fun _ => .of_rest rfl rfl rfl rfl) fun _ => .refl s

theorem takeFrameComplete_moves (d : Byte) (first : Head) (s : State) : SeqRun s (takeFrameComplete d first s) :=
  .of_ite (fun _ => completeFrame_moves d first s) fun _ => .refl s

theorem startReply_moves (s : State) : SeqRun s (startReply s) :=
  .of_ite (fun _ => .of_rest rfl rfl rfl rfl) fun _ => .refl s

theorem endReply_moves (s : State) : SeqRun s (endReply s) :=
  .of_ite (fun _ => SeqRun.after_same (resetTakesPlace_moves _)) fun _ => .refl s

theorem running_moves {f : State → State} (hf : ∀ s, SeqRun s (f s)) {s t : State} (e : running f s = .next t) :
    SeqRun s t := by
  unfold running at e
  split at e
  · cases e; exact .refl s
  · cases e; exact hf s

/-- Every command is a run of such moves. -/
theorem exec_moves (c : Instr) {s t : State} (e : exec c s = .next t) : SeqRun s t := by
  cases c with
  | identify => exact running_moves (fun s => takeRequest_moves .identify s) e
  | readStatus head => exact running_moves (takeRequest_moves (.readStatus head)) e
  | startSeam head => exact running_moves (takeRequest_moves (.startSeam head)) e
  | stopSeam target => exact running_moves (takeRequest_moves (.stopSeam target)) e
  | restartSeam head overlap => exact running_moves (takeRequest_moves (.restartSeam head overlap)) e
  | abandonSeam head => exact running_moves (takeRequest_moves (.abandonSeam head)) e
  | resetHead head => exact running_moves (takeRequest_moves (.resetHead head)) e
  | appendSegment head g => exact running_moves (takeRequest_moves (.appendSegment head g)) e
  | clearPlan head => exact running_moves (takeRequest_moves (.clearPlan head)) e
  | readPlan head => exact running_moves (takeRequest_moves (.readPlan head)) e
  | loadProfile head load => exact running_moves (takeRequest_moves (.loadProfile head load)) e
  | readProfile head code => exact running_moves (takeRequest_moves (.readProfile head code)) e
  | calibrate head => exact running_moves (takeRequest_moves (.calibrate head)) e
  | setChannel head c t on v => exact running_moves (takeRequest_moves (.setChannel head c t on v)) e
  | readChannels head => exact running_moves (takeRequest_moves (.readChannels head)) e
  | setLog pitch ta tb => exact running_moves (takeRequest_moves (.setLog pitch ta tb)) e
  | readRecords head n => exact running_moves (takeRequest_moves (.readRecords head n)) e
  | readCounters scope clear => exact running_moves (takeRequest_moves (.readCounters scope clear)) e
  | resetDevice broadcast => exact running_moves (takeRequest_moves (.resetDevice broadcast)) e
  | resetTakesPlace => exact running_moves resetTakesPlace_moves e
  | resetInputAsserted => cases e; exact assertReset_moves s
  | resetInputNegated straps => cases e; exact .of_move (.powersOn ..)
  | haltInputAsserted first => cases e; exact assertHalt_moves first s
  | haltInputNegated => cases e; exact .of_rest rfl rfl rfl rfl
  | lineBreak first => cases e; exact lineHeldLow_moves first s
  | breakDetectorRearm => cases e; exact lineReturns_moves s
  | addressCharacter d => exact running_moves (takeAddressCharacter_moves d) e
  | dataCharacter d first => exact running_moves (takeDataCharacter_moves d first) e
  | controlFramingError => exact running_moves takeFramingError_moves e
  | frameSilenceTimeout => exact running_moves takeFrameSilence_moves e
  | frameComplete d first => exact running_moves (takeFrameComplete_moves d first) e
  | replyStart => exact running_moves startReply_moves e
  | replyEnd => exact running_moves endReply_moves e
  | trackReportArrival rest => exact running_moves (takeReportArrival_moves rest) e
  | trackFramingError => exact running_moves abandonReport_moves e
  | trackSilenceTimeout => exact running_moves abandonReport_moves e
  | headSample h i o => exact running_moves (sampleHead_moves h i o) e
  | atSpeed h => exact running_moves (findAtSpeed_moves h) e
  | spinupTimeout h => exact running_moves (findSpinupTimeout_moves h) e
  | plungeDone h => exact running_moves (findPlungeDone_moves h) e
  | plungeTimeout h => exact running_moves (findPlungeTimeout_moves h) e
  | dwellElapsed h => exact running_moves (findDwellElapsed_moves h) e
  | exitRetractComplete h => exact running_moves (findExitRetract_moves h) e
  | interruptingRetractComplete h => exact running_moves (findInterruptingRetract_moves h) e
  | forceLimit h => exact running_moves (fun s => .of_ite (fun _ => interruptHead_moves ..) fun _ => .refl s) e
  | excursion h => exact running_moves (findExcursion_moves h) e
  | graceExhausted h => exact running_moves (fun s => .of_ite (fun _ => interruptHead_moves ..) fun _ => .refl s) e
  | calibrationJudged h => exact running_moves (findCalibrationJudged_moves h) e
  | governorUpdate i o => exact running_moves (updateGovernor_moves i o) e
  | arrival h => exact running_moves (findArrival_moves h) e
  | pauseLimit h => exact running_moves (fun s => .of_ite (fun _ => interruptHead_moves ..) fun _ => .refl s) e
  | trackerCharacter d => exact running_moves (takeTrackerCharacter_moves d) e

theorem step_moves {s t : State} (e : step s = .next t) : SeqRun s t := by
  unfold step at e
  split at e
  · cases e; exact .refl s
  · next c rest _ => exact SeqRun.trans (.of_rest (t := { s with pending := rest }) rfl rfl rfl rfl) (exec_moves c e)

/-! ## The spindle law (R29) -/

/-- A spindle command stands in the states of R29 alone. -/
def HeadView.SpindleKept (v : HeadView) : Prop := v.spindle ≠ 0 → v.state.mayTurn = true

theorem HeadState.mayTurn_of_inMaterial {st : HeadState} (hs : st.inMaterial = true) : st.mayTurn = true := by
  revert hs
  cases st <;> decide

theorem HeadMove.keeps_spindle {v w : HeadView} (m : HeadMove v w) (hv : v.SpindleKept) : w.SpindleKept := by
  have quiet (hn : v.state.mayTurn = false) : v.spindle = 0 := by
    by_contra hs
    rw [hv hs] at hn
    cases hn
  cases m with
  | turns n hn => exact fun hs => hn.resolve_left hs
  | starts hs | reenters _ hs | abandons hs | uncalibrated hs =>
    exact fun hn => absurd (quiet (by rw [hs]; rfl)) hn
  | calibrates hs => exact fun hn => absurd (quiet (by rcases hs with e | e | e <;> rw [e] <;> rfl)) hn
  | calibrated n hs => exact fun hn => absurd (quiet (by rw [hs]; rfl)) hn
  | loads load ha =>
    refine fun hn => absurd (quiet ?_) hn
    revert ha
    cases v.state <;> simp [admitsLoad, HeadState.mayTurn]
  | arrives | plunges => exact fun _ => rfl
  | ends | exits | retracts | resets | powersOn => exact fun hn => absurd rfl hn
  | goes st hs ht =>
    rcases ht with ht | rfl | rfl
    · exact fun _ => HeadState.mayTurn_of_inMaterial ht
    · exact fun _ => rfl
    · exact fun _ => rfl

/-- What a move of the machine does to a head: nothing the laws read, one of the head's own moves, or the pause of a head
in WELD. -/
theorem SeqMove.views {s t : State} (m : SeqMove s t) (k : Head) : t.view k = s.view k ∨ HeadMove (s.view k) (t.view k) := by
  have pause {x : State} (hw : x.headState k = .weld) : HeadMove (x.view k) { x.view k with state := .pause } :=
    .goes (x.view k) .pause (by rw [show (x.view k).state = _ from hw]; rfl) (.inl rfl)
  cases m with
  | rests u => exact .inl (u.views k)
  | turns h m hs hd ho =>
    rcases head_cases h k with rfl | rfl
    · exact .inr m
    · exact .inl ho
  | @enters _ t h st m ho =>
    rcases head_cases h k with rfl | rfl
    · rw [setHeadState_view_self]
      exact .inr m
    · rw [← ho]
      rcases setHeadState_view_other h st t with e | ⟨hw, e⟩ <;> rw [e]
      · exact .inl rfl
      · exact .inr (pause hw)
  | pauses _ h =>
    rw [pauseBegin_view]
    by_cases hk : k = h ∧ s.headState h = .weld
    · rw [if_pos hk]
      exact .inr (pause (hk.1 ▸ hk.2))
    · exact .inl (if_neg hk)
  | governs => exact .inl rfl
  | releases hv => exact .inl (hv k)
  | powersOn => exact .inr (by cases k <;> exact .powersOn _)

/-- What every move of a head keeps, a run keeps at each head. -/
theorem SeqRun.keeps {P : HeadView → Prop} (hP : ∀ v w, HeadMove v w → P v → P w) {s t : State} (r : SeqRun s t) (k : Head)
    (hs : P (s.view k)) : P (t.view k) := by
  obtain ⟨moves⟩ := r
  induction moves with
  | refl => exact hs
  | tail _ m ih =>
    rcases m.views k with e | m
    · rw [e]; exact ih
    · exact hP _ _ m ih

/-- Settles O6: no move of a head leaves a spindle command in a state outside R29. -/
theorem spindleKept : Obligations.SpindleKept :=
  fun _ _ hs e h => (step_moves e).keeps (fun _ _ m hv => m.keeps_spindle hv) h (hs h)

/-! ## The calibration budget (R34) -/

/-- A calibration came from one of the states that CALIBRATE is taken in (R153). -/
def HeadView.OriginKept (v : HeadView) : Prop :=
  v.state = .calibrating →
    v.origin.getD .calDue = .calDue ∨ v.origin.getD .calDue = .ready ∨ v.origin.getD .calDue = .interrupted

/-- The states that rest on a budget (R34). -/
def HeadView.needsBudget (v : HeadView) : Prop :=
  v.state = .ready ∨ (v.state = .calibrating ∧ v.origin.getD .calDue = .ready) ∨
    (v.state.starting = true ∧ v.kind = .fresh)

/-- The budget law of a head, with what it rests on: past commissioning a TRAVEL set is loaded. -/
structure HeadView.Budgeted (v : HeadView) : Prop where
  grants : GrantsBudget v.profiles
  ceiling : v.budget ≤ v.ceiling
  needs : v.needsBudget → 1 ≤ v.budget
  origin : v.OriginKept
  loaded : v.state ≠ .uncommissioned → v.state ≠ .commissioning → v.profiles.travel.isSome = true

theorem HeadState.not_starting_of_idle {st : HeadState} (he : st.engaged = false) : st.starting = false := by
  revert he
  cases st <;> decide

theorem HeadView.not_needsBudget {v : HeadView} (hr : v.state ≠ .ready) (hc : v.state ≠ .calibrating)
    (hs : v.state.starting = false) : ¬v.needsBudget := by
  simp [HeadView.needsBudget, hr, hc, hs]

/-- A load makes no head READY, and one that leaves it so spends no budget (R149). -/
theorem stateAfterLoad_ready {st : HeadState} {n : Nat} {load : ProfileLoad} (hr : stateAfterLoad st n load = .ready) :
    st = .ready ∧ invalidates st load = false := by
  cases load <;> grind [stateAfterLoad, invalidates, profileRank]

/-- A load takes a head out of the commissioning states only with the TRAVEL set (R148). -/
theorem stateAfterLoad_commissioned {st : HeadState} {n : Nat} {load : ProfileLoad}
    (hu : stateAfterLoad st n load ≠ .uncommissioned) (hc : stateAfterLoad st n load ≠ .commissioning) :
    (st ≠ .uncommissioned ∧ st ≠ .commissioning) ∨ ∃ t, load = .travel t := by
  cases load <;> grind [stateAfterLoad]

theorem storeProfile_travel (p : ProfileStore) (load : ProfileLoad) :
    (storeProfile p load).travel = p.travel ∨ ∃ t, load = .travel t ∧ (storeProfile p load).travel = some t := by
  cases load with
  | travel t => exact .inr ⟨t, rfl, rfl⟩
  | limits | tool | regulator | unknown => exact .inl rfl

theorem HeadMove.keeps_budget {v w : HeadView} (m : HeadMove v w) (hv : v.Budgeted) : w.Budgeted := by
  obtain ⟨grants, ceiling, needs, origin, loaded⟩ := hv
  cases m with
  | turns n => exact ⟨grants, ceiling, needs, origin, loaded⟩
  | starts hs =>
    exact ⟨grants, ceiling, fun _ => needs (.inl hs), nofun, fun _ _ => loaded (by simp [hs]) (by simp [hs])⟩
  | reenters d hs =>
    exact ⟨grants, ceiling, fun hn => by simp [HeadView.needsBudget] at hn, nofun,
      fun _ _ => loaded (by simp [hs]) (by simp [hs])⟩
  | arrives n hs =>
    refine ⟨grants, ceiling, fun hn => needs (.inr (.inr ⟨by rw [hs]; rfl, ?_⟩)), nofun,
      fun _ _ => loaded (by simp [hs]) (by simp [hs])⟩
    simpa [HeadView.needsBudget, HeadState.starting] using hn
  | ends hs =>
    have rest : v.state ≠ .uncommissioned ∧ v.state ≠ .commissioning := by
      constructor <;> (intro e; rw [e] at hs; cases hs)
    refine ⟨grants, ceiling, fun hn => ?_, fun e => ?_, fun _ _ => loaded rest.1 rest.2⟩
    · by_cases hk : v.kind = .fresh
      · exact needs (.inr (.inr ⟨hs, hk⟩))
      · simp [HeadView.needsBudget, hk] at hn
    · dsimp only at e
      split at e <;> cases e
  | plunges hs =>
    refine ⟨grants, ?_, fun hn => by simp [HeadView.needsBudget, HeadState.starting] at hn, nofun,
      fun _ _ => loaded (by simp [hs]) (by simp [hs])⟩
    dsimp only
    split <;> omega
  | goes st hs ht =>
    have rest : v.state ≠ .uncommissioned ∧ v.state ≠ .commissioning := by
      constructor <;> (intro e; rw [e] at hs; cases hs)
    have went : st ≠ .ready ∧ st ≠ .calibrating ∧ st.starting = false := by
      rcases ht with ht | rfl | rfl
      · revert ht
        cases st <;> simp [HeadState.inMaterial, HeadState.starting]
      · simp [HeadState.starting]
      · simp [HeadState.starting]
    exact ⟨grants, ceiling, fun hn => by simp [HeadView.needsBudget, went] at hn, fun e => absurd e went.2.1,
      fun _ _ => loaded rest.1 rest.2⟩
  | exits hs | abandons hs =>
    refine ⟨grants, ceiling, fun hn => ?_, fun e => ?_, fun _ _ => loaded (by simp [hs]) (by simp [hs])⟩
    · by_cases hb : v.budget = 0
      · exact absurd hn (HeadView.not_needsBudget (by simp [hb]) (by simp [hb]) (by simp [hb, HeadState.starting]))
      · exact Nat.one_le_iff_ne_zero.mpr hb
    · dsimp only at e
      split at e <;> cases e
  | retracts hs =>
    exact ⟨grants, ceiling, fun hn => by simp [HeadView.needsBudget, HeadState.starting] at hn, nofun,
      fun _ _ => loaded (by simp [hs]) (by simp [hs])⟩
  | calibrates hs =>
    refine ⟨grants, ceiling, fun hn => needs (.inl ?_), fun _ => hs, fun _ _ => ?_⟩
    · simpa [HeadView.needsBudget, HeadState.starting] using hn
    · rcases hs with e | e | e <;> exact loaded (by simp [e]) (by simp [e])
  | uncalibrated hs =>
    refine ⟨grants, ceiling, fun hn => needs (.inr (.inl ⟨hs, ?_⟩)), fun e => ?_,
      fun _ _ => loaded (by simp [hs]) (by simp [hs])⟩
    · rcases origin hs with e | e | e <;> simp_all [HeadView.needsBudget, HeadState.starting]
    · rcases origin hs with e' | e' | e' <;> simp [e'] at e
  | calibrated n hs hn =>
    obtain ⟨t, ht⟩ := Option.isSome_iff_exists.mp (loaded (by simp [hs]) (by simp [hs]))
    refine ⟨grants, le_refl _, fun _ => ?_, fun e => ?_, fun _ _ => by simp [ht]⟩
    · rw [hn t ht]
      exact grants t ht
    · dsimp only at e
      split at e <;> cases e
  | loads load ha hk hi =>
    have admitted : v.state ≠ .calibrating := by
      intro e
      rw [e] at ha
      cases ha
    have idle := stateAfterLoad_idle ha v.profiles.progress
    refine ⟨fun t ht => ?_, ?_, fun hn => ?_, fun e => ?_, fun hu hc => ?_⟩
    · rcases storeProfile_travel v.profiles load with e | ⟨x, rfl, e⟩ <;> rw [e] at ht
      · exact grants t ht
      · obtain rfl : x = t := Option.some.inj ht
        simp [loadInRange, travelInRange] at hi
        omega
    · dsimp only
      split <;> omega
    · obtain ⟨hr, hn⟩ : v.state = .ready ∧ invalidates v.state load = false := by
        refine stateAfterLoad_ready (n := v.profiles.progress) ?_
        by_contra hr
        exact HeadView.not_needsBudget hr (stateAfterLoad_rest _ load admitted) (HeadState.not_starting_of_idle idle.1) hn
      simpa [hn] using needs (.inl hr)
    · exact absurd e (stateAfterLoad_rest _ load admitted)
    · rcases stateAfterLoad_commissioned hu hc with h | ⟨t, rfl⟩
      · rcases storeProfile_travel v.profiles load with e | ⟨x, -, e⟩ <;> simp [e, loaded h.1 h.2]
      · rfl
  | resets he =>
    by_cases hu : v.state = .uncommissioned ∨ v.state = .commissioning
    · refine ⟨grants, ceiling, fun hn => absurd hn ?_, fun e => ?_, fun hu' hc' => ?_⟩
      · rcases hu with e | e <;> simp [HeadView.needsBudget, e, HeadState.starting]
      · rcases hu with e' | e' <;> simp [e'] at e
      · simp only [if_pos hu] at hu' hc'
        exact absurd hu (not_or.mpr ⟨hu', hc'⟩)
    · obtain ⟨hu, hc⟩ := not_or.mp hu
      refine ⟨grants, ceiling, fun hn => ?_, fun e => ?_, fun _ _ => loaded hu hc⟩
      · by_cases hb : v.budget = 0
        · simp [HeadView.needsBudget, hu, hc, hb, HeadState.starting] at hn
        · exact Nat.one_le_iff_ne_zero.mpr hb
      · simp only [hu, hc, or_self, if_false] at e
        split at e <;> cases e
  | powersOn =>
    exact ⟨nofun, le_refl _, fun hn => absurd hn (HeadView.not_needsBudget nofun nofun rfl), nofun,
      fun hu => absurd rfl hu⟩

/-- In a commissioned machine a head past the commissioning states has its TRAVEL set (R142). -/
theorem CommissioningLaw.budgeted {s : State} (hc : CommissioningLaw s) (hb : BudgetLaw s) (h : Head) :
    (s.view h).Budgeted := by
  obtain ⟨⟨-, -, -, -, travel⟩, ⟨zero, few⟩, origin⟩ := hc h
  obtain ⟨grants, ceiling, needs⟩ := hb h
  refine ⟨grants, ceiling, fun hn => needs ?_, origin, fun hu hm => travel.mpr ?_⟩
  · simpa [HeadView.needsBudget, Sequencer.needsBudget, State.view, Sequencer.view, Sequencer.origin, or_assoc] using hn
  · have hz := mt zero.mpr hu
    have hf := mt few.mpr hm
    omega

/-- Settles O9: every move of a head keeps the budget law, with the sets and the origin it rests on. -/
theorem calibrationBudgetKept : Obligations.CalibrationBudgetKept := by
  intro s t hc hb e h
  obtain ⟨grants, ceiling, needs, -, -⟩ :=
    (step_moves e).keeps (fun _ _ m hv => m.keeps_budget hv) h (hc.budgeted hb h)
  refine ⟨grants, ceiling, fun hn => needs ?_⟩
  simpa [HeadView.needsBudget, Sequencer.needsBudget, State.view, Sequencer.view, Sequencer.origin, or_assoc] using hn

/-! ## The reverse approach (R97) -/

/-- What the reverse law rests on at one head: the origin of a calibration, and that only a re-entry approaches in
reverse (R53). -/
structure HeadView.Directed (v : HeadView) : Prop where
  origin : v.OriginKept
  reentry : v.state = .approach → v.direction = .reverse → v.kind = .reentry

/-- Where a head's move leads, as far as the travel output goes. -/
inductive Leads (v w : HeadView) : Prop
  | stays (hs : w.state = v.state) (hd : w.direction = v.direction) (hk : w.kind = v.kind) (ho : w.origin = v.origin)
  | approaches (hs : v.state = .ready ∨ v.state = .interrupted) (hw : w.state = .approach)
      (hr : w.direction = .reverse → w.kind = .reentry)
  | rests (hw : w.state.engaged = false) (ho : w.OriginKept)
  | goesOn (hv : v.state.engaged = true) (hc : w.state ≠ .calibrating) (ha : w.state ≠ .approach)
      (hh : v.state = .approach → w.state.demand = .hold)

/-- A head comes to rest, not for a calibration. -/
theorem Leads.of_idle {v w : HeadView} (hw : w.state.engaged = false) (hc : w.state ≠ .calibrating) : Leads v w :=
  .rests hw fun e => absurd e hc

theorem HeadState.engaged_of_inMaterial {st : HeadState} (hs : st.inMaterial = true) : st.engaged = true := by
  revert hs
  cases st <;> decide

theorem HeadMove.leads {v w : HeadView} (m : HeadMove v w) (hv : v.OriginKept) : Leads v w := by
  cases m with
  | turns => exact .stays rfl rfl rfl rfl
  | starts hs => exact .approaches (.inl hs) rfl nofun
  | reenters _ hs => exact .approaches (.inr hs) rfl fun _ => rfl
  | arrives _ hs => exact .goesOn (by rw [hs]; rfl) nofun nofun fun _ => rfl
  | plunges hs => exact .goesOn (by rw [hs]; rfl) nofun nofun fun _ => rfl
  | goes st hs ht =>
    have went : st ≠ .calibrating ∧ st ≠ .approach := by
      rcases ht with ht | rfl | rfl
      · constructor <;> (rintro rfl; cases ht)
      · exact ⟨nofun, nofun⟩
      · exact ⟨nofun, nofun⟩
    exact .goesOn (HeadState.engaged_of_inMaterial hs) went.1 went.2 fun e => by rw [e] at hs; cases hs
  | ends => split <;> exact .of_idle rfl nofun
  | exits | abandons => split <;> exact .of_idle rfl nofun
  | retracts | powersOn => exact .of_idle rfl nofun
  | calibrates hs => exact .rests rfl fun _ => hs
  | uncalibrated hs =>
    rcases hv hs with e | e | e <;> exact .of_idle (by rw [e]; rfl) (by rw [e]; nofun)
  | calibrated => split <;> exact .of_idle rfl nofun
  | loads load ha =>
    refine .of_idle (stateAfterLoad_idle ha _).1 (stateAfterLoad_rest _ load ?_)
    intro e
    rw [e] at ha
    cases ha
  | resets =>
    split
    · next hu => rcases hu with e | e <;> exact .of_idle (by rw [e]; rfl) (by rw [e]; nofun)
    · split <;> exact .of_idle rfl nofun

theorem Leads.keeps_directed {v w : HeadView} (m : Leads v w) (hv : v.Directed) : w.Directed := by
  obtain ⟨origin, reentry⟩ := hv
  cases m with
  | stays hs hd hk ho =>
    unfold HeadView.OriginKept at origin
    refine ⟨?_, ?_⟩
    · rwa [HeadView.OriginKept, hs, ho]
    · rwa [hs, hd, hk]
  | approaches _ hw hr => exact ⟨fun e => (by rw [hw] at e; cases e), fun _ => hr⟩
  | rests hw ho => exact ⟨ho, fun e => by rw [e] at hw; cases hw⟩
  | goesOn _ hc ha => exact ⟨fun e => absurd e hc, fun e => absurd e ha⟩

/-- The reverse law with what it rests on. -/
structure ReverseSafe (s : State) : Prop where
  absent : ∀ h, s.present h = false → s.headState h = .uncommissioned
  directed : ∀ h, (s.view h).Directed
  released : s.gov.owned = false → s.gov.speed = 0
  alone : s.gov.speed ≠ 0 → s.gov.direction = .reverse →
    ∃ h, s.headState h = .approach ∧ (s.head h).seq.direction = .reverse ∧ (s.headState h.other).engaged = false

/-- The output after a change of state: taken or released with the engagement (R85), and at rest once a HOLD comes (R86). -/
theorem setHeadState_gov_eq (h : Head) (st : HeadState) (s : State) : (setHeadState h st s).gov =
    if st.demand = .hold ∧ s.demand h ≠ .hold then { s.gov.taken with speed := 0 }
    else if st.engaged = true ∨ (s.headState h.other).engaged = true then s.gov.taken else s.gov.left false := by
  have engaged (hd : st.demand = .hold) : st.engaged = true := by
    by_contra he
    exact HeadState.not_hold_of_idle (by simpa using he) hd
  have taken : (takeEngagement ((s.onSeq h fun q =>
      { q with state := st, raising := q.raising && st.raises }).onTravel h fun t => t.entering st)).gov =
      if st.engaged = true ∨ (s.headState h.other).engaged = true then s.gov.taken else s.gov.left false := by
    rw [takeEngagement_gov, anyEngaged_eq h]
    simp [State.headState, Governor.left]
  by_cases hy : st.demand = .hold ∧ s.demand h ≠ .hold
  · rw [setHeadState_hold h st s hy, if_pos hy, takeHold, pauseBegin_gov]
    rw [if_pos (.inl (engaged hy.1))] at taken
    rw [← taken]
    rfl
  · rw [if_neg hy, ← taken]
    unfold setHeadState
    dsimp only
    rw [if_neg hy]

/-- A change of state never drives the gantry: where it still moves afterwards it moved before, no HOLD has come, and a
head is still engaged. -/
theorem setHeadState_moving (h : Head) (st : HeadState) (s : State) (hr : s.gov.owned = false → s.gov.speed = 0)
    (hm : (setHeadState h st s).gov.speed ≠ 0) :
    (setHeadState h st s).gov = s.gov ∧ (st.demand = .hold → s.demand h = .hold) ∧
      (st.engaged = true ∨ (s.headState h.other).engaged = true) := by
  rw [setHeadState_gov_eq] at hm ⊢
  split at hm
  · exact absurd rfl hm
  next hy =>
  rw [if_neg hy]
  split at hm
  · next he =>
    rw [if_pos he]
    refine ⟨?_, by tauto, he⟩
    cases ho : s.gov.owned <;> simp_all [Governor.taken]
  · exfalso
    cases ho : s.gov.owned <;> simp_all [Governor.left]

theorem setHeadState_released (h : Head) (st : HeadState) (s : State) (hr : s.gov.owned = false → s.gov.speed = 0)
    (ho : (setHeadState h st s).gov.owned = false) : (setHeadState h st s).gov.speed = 0 := by
  have owned : s.gov.taken.owned = true := by
    unfold Governor.taken
    split <;> trivial
  rw [setHeadState_gov_eq] at ho ⊢
  split
  · rfl
  next hy =>
  rw [if_neg hy] at ho
  split
  · next he =>
    rw [if_pos he, owned] at ho
    cases ho
  · cases hw : s.gov.owned <;> simp_all [Governor.left]

/-- A change of state by a move of the head keeps the law: the reverse approach that drives the gantry stays, and stays
alone. -/
theorem ReverseSafe.enters {s t : State} (hs : ReverseSafe s) (h : Head) (st : HeadState)
    (m : HeadMove (s.view h) { t.view h with state := st }) (ho : t.view h.other = s.view h.other)
    (hg : t.output = s.output) (hc : st = .approach → s.headState h ≠ .calibrating → s.ClearOf h)
    (hp : s.headState h = .uncommissioned → st = .uncommissioned ∨ s.present h = true)
    (hh : t.headState h = s.headState h) : ReverseSafe (setHeadState h st t) := by
  obtain ⟨absent, directed, released, alone⟩ := hs
  have leads := m.leads (directed h).origin
  have self := setHeadState_view_self h st t
  have other := setHeadState_view_other h st t
  have otherState : t.headState h.other = s.headState h.other := congrArg HeadView.state ho
  simp only [State.output, Output.mk.injEq] at hg
  obtain ⟨owned, speed, direction, straps⟩ := hg
  have present (k : Head) : (setHeadState h st t).present k = s.present k := by
    cases k <;> simp [State.present, straps]
  rw [ho, otherState] at other
  refine ⟨fun k hk => ?_, fun k => ?_, setHeadState_released h st t (by rwa [owned, speed]), fun hm hd => ?_⟩
  · rw [present] at hk
    have e := absent k hk
    rcases head_cases h k with rfl | rfl
    · rw [setHeadState_headState]
      exact (hp e).resolve_right (by simp [hk])
    · rcases other with o | ⟨hw, o⟩
      · exact (congrArg HeadView.state o).trans e
      · rw [hw] at e; cases e
  · rcases head_cases h k with rfl | rfl
    · rw [self]
      exact leads.keeps_directed (directed k)
    · rcases other with o | ⟨hw, o⟩ <;> rw [o]
      · exact directed _
      · exact ⟨nofun, nofun⟩
  · obtain ⟨same, hold, engaged⟩ := setHeadState_moving h st t (by rwa [owned, speed]) hm
    rw [same, speed] at hm
    rw [same, direction] at hd
    rw [otherState] at engaged
    obtain ⟨k, ka, kd, kn⟩ := alone hm hd
    have otherEngaged : ((setHeadState h st t).headState h.other).engaged = (s.headState h.other).engaged := by
      rcases other with o | ⟨hw, o⟩
      · exact congrArg (fun v : HeadView => v.state.engaged) o
      · rw [hw, show (setHeadState h st t).headState h.other = .pause from congrArg HeadView.state o]
        rfl
    rcases head_cases h k with rfl | rfl
    · cases leads with
      | stays e d =>
        exact ⟨k, (setHeadState_headState ..).trans (e.trans ka), (congrArg HeadView.direction self).trans (d.trans kd),
          otherEngaged.trans kn⟩
      | approaches e =>
        rw [show (s.view k).state = .approach from ka] at e
        simp at e
      | rests e =>
        rw [show st.engaged = false from e, kn] at engaged
        simp at engaged
      | goesOn _ _ _ e =>
        have still := hold (e ka)
        rw [State.demand, hh, ka] at still
        cases still
    · rw [other_other] at kn
      have rests : st.engaged = false := by
        cases leads with
        | stays e => rw [show st = s.headState h from e, kn]
        | approaches e w =>
          have present : s.present h.other = true := by
            by_contra hp
            rw [absent _ (by simpa using hp)] at ka
            cases ka
          refine absurd kd (hc w (fun hcal => ?_) present ka)
          rw [show (s.view h).state = s.headState h from rfl, hcal] at e
          simp at e
        | rests e => exact e
        | goesOn e => rw [show (s.view h).state = s.headState h from rfl, kn] at e; cases e
      have same : (setHeadState h st t).view h.other = s.view h.other := by
        rcases other with o | ⟨hw, -⟩
        · exact o
        · rw [ka] at hw; cases hw
      refine ⟨h.other, (congrArg HeadView.state same).trans ka, (congrArg HeadView.direction same).trans kd, ?_⟩
      rw [other_other, setHeadState_headState, rests]

theorem rampSpeed_zero (a v : Nat) : rampSpeed a 0 v = 0 := by simp [rampSpeed]

/-- A head without a demand is not engaged (R28). -/
theorem HeadState.engaged_of_demand {st : HeadState} (hd : st.demand = .idle) : st.engaged = false := by
  revert hd
  cases st <;> decide

/-- With a target speed nothing stands in the way of the wanted travel (R94, R97, R101). -/
theorem targetSpeed_pos {s : State} {a : Nat} (ht : s.targetSpeed a ≠ 0) :
    s.keepsDirection = false ∧ s.reverseBlocked = false ∧ (s.wantedTravel a).1 ≠ 0 := by
  unfold State.targetSpeed at ht
  dsimp only at ht
  split at ht
  · exact absurd rfl ht
  next hn =>
  obtain ⟨⟨⟨⟨hr, hf⟩, hb⟩, -⟩, -⟩ : (((s.gov.travelReady = true ∧ s.gantry.fault = false) ∧ s.reverseBlocked = false) ∧
      s.reached .a = false) ∧ s.reached .b = false := by simpa using hn
  refine ⟨by simp [State.keepsDirection, hr, hf, hb], hb, fun hw => ht ?_⟩
  rw [hw]
  unfold State.bedLimit
  split
  · split <;> simp
  · rfl

/-- A reverse travel is wanted only for a reverse approach (R87). -/
theorem wantedTravel_reverse {s : State} {a : Nat} (hw : (s.wantedTravel a).1 ≠ 0)
    (hd : (s.wantedTravel a).2 = .reverse) : ∃ h, s.approaches h .reverse = true := by
  unfold State.wantedTravel at hw hd
  split at hw
  · exact absurd rfl hw
  next hh =>
  rw [if_neg hh] at hd
  split at hw
  · next v e =>
    simp [e] at hd
  · next e =>
    rw [e] at hd
    split at hw
    · next v e' =>
      rw [e'] at hd
      by_cases ha : s.approaches .a .reverse = true
      · exact ⟨.a, ha⟩
      · by_cases hb : s.approaches .b .reverse = true
        · exact ⟨.b, hb⟩
        · simp [ha, hb] at hd
    · exact absurd rfl hw

/-- The command moves in reverse only toward a reverse approach, beside which no head has a demand (R87, R97). -/
theorem moveGovernor_reverse {s : State} (hs : s.moveGovernor.speed ≠ 0) (hd : s.moveGovernor.direction = .reverse) :
    ∃ h, s.headState h = .approach ∧ (s.head h).seq.direction = .reverse ∧ (s.headState h.other).engaged = false := by
  unfold State.moveGovernor at hs hd
  dsimp only at hs hd
  split at hs
  case isFalse => exact absurd rfl hs
  case isTrue hk =>
    rw [if_pos hk] at hd
    obtain ⟨free, unblocked, wanted⟩ := targetSpeed_pos (s := s) (a := s.acceleration) fun ht =>
      hs (by simp only [ht, rampSpeed_zero])
    have same : (s.wantedTravel s.acceleration).2 = s.gov.direction := by simpa [free] using hk
    obtain ⟨h, ha⟩ := wantedTravel_reverse wanted (same.trans hd)
    have approach : s.demand h = .approach ∧ (s.head h).seq.direction = .reverse := by simpa [State.approaches] using ha
    refine ⟨h, HeadState.demand_approach approach.1, approach.2, HeadState.engaged_of_demand ?_⟩
    cases h <;> simp_all [State.reverseBlocked, State.demand, Head.other]

theorem moveGovernor_owned (s : State) : s.moveGovernor.owned = s.gov.owned := by
  unfold State.moveGovernor
  dsimp only
  split <;> rfl

/-- What leaves the heads' states and directions and the output as they are keeps the law. -/
theorem ReverseSafe.of_same {s t : State} (hs : ReverseSafe s) (hd : ∀ k, (t.view k).Directed)
    (hv : ∀ k, (t.view k).state = (s.view k).state ∧ (t.view k).direction = (s.view k).direction)
    (hg : t.output = s.output) : ReverseSafe t := by
  obtain ⟨absent, -, released, alone⟩ := hs
  simp only [State.output, Output.mk.injEq] at hg
  obtain ⟨owned, speed, direction, straps⟩ := hg
  have state (k : Head) : t.headState k = s.headState k := (hv k).1
  refine ⟨fun k hk => (state k).trans (absent k ?_), hd, by rwa [owned, speed], fun hm hr => ?_⟩
  · cases k
    · cases hk
    · exact straps.symm.trans hk
  · obtain ⟨k, ka, kd, kn⟩ := alone (by rwa [speed] at hm) (by rwa [direction] at hr)
    exact ⟨k, (state k).trans ka, (hv k).2.trans kd, by rwa [state]⟩

/-- The law holds while the output stands still. -/
theorem ReverseSafe.at_rest {s : State} (ha : ∀ h, s.present h = false → s.headState h = .uncommissioned)
    (hd : ∀ k, (s.view k).Directed) (hr : s.gov.speed = 0) : ReverseSafe s :=
  ⟨ha, hd, fun _ => hr, fun hm => absurd hr hm⟩

theorem ReverseSafe.keeps {s t : State} (m : SeqMove s t) (hs : ReverseSafe s) : ReverseSafe t := by
  have ⟨absent, directed, released, alone⟩ := hs
  cases m with
  | rests u =>
    exact hs.of_same (fun k => by rw [u.views]; exact directed k) (fun k => by rw [u.views]; exact ⟨rfl, rfl⟩) u.output
  | turns h m st hd ho hg =>
    refine hs.of_same (fun k => ?_) (fun k => ?_) hg
    · rcases head_cases h k with rfl | rfl
      · exact (m.leads (directed k).origin).keeps_directed (directed k)
      · rw [ho]; exact directed _
    · rcases head_cases h k with rfl | rfl
      · exact ⟨st, hd⟩
      · rw [ho]; exact ⟨rfl, rfl⟩
  | enters h st m ho hg hc hp hh => exact hs.enters h st m ho hg hc hp hh
  | pauses _ h =>
    have paused (k : Head) : (pauseBegin h s).view k = s.view k ∨
        (s.view k).state = .weld ∧ (pauseBegin h s).view k = { s.view k with state := .pause } := by
      rw [pauseBegin_view]
      by_cases hk : k = h ∧ s.headState h = .weld
      · rw [if_pos hk]
        exact .inr ⟨hk.1 ▸ hk.2, rfl⟩
      · exact .inl (if_neg hk)
    have kept {k : Head} (hk : s.headState k ≠ .weld) : (pauseBegin h s).view k = s.view k :=
      (paused k).resolve_right fun w => hk w.1
    refine ⟨fun k hk => ?_, fun k => ?_, by simpa using released, fun hm hd => ?_⟩
    · have e := absent k (by simpa using hk)
      exact (congrArg HeadView.state (kept (by simp [e]))).trans e
    · rcases paused k with e | ⟨-, e⟩ <;> rw [e]
      · exact directed k
      · exact ⟨nofun, nofun⟩
    · obtain ⟨k, ka, kd, kn⟩ := alone (by simpa using hm) (by simpa using hd)
      refine ⟨k, (congrArg HeadView.state (kept (by simp [ka]))).trans ka,
        (congrArg HeadView.direction (kept (by simp [ka]))).trans kd, ?_⟩
      rw [State.headState]
      exact (congrArg (fun v : HeadView => v.state.engaged) (kept fun e => by rw [e] at kn; cases kn)).trans kn
  | governs _ ho =>
    refine ⟨absent, directed, fun hn => ?_, moveGovernor_reverse⟩
    rw [show s.moveGovernor.owned = true from (moveGovernor_owned s).trans ho] at hn
    cases hn
  | releases hv hg =>
    simp only [State.output, Output.mk.injEq] at hg
    obtain ⟨-, speed, -, straps⟩ := hg
    refine .at_rest (fun k hk => ?_) (fun k => by rw [hv]; exact directed k) speed
    refine (congrArg HeadView.state (hv k)).trans (absent k ?_)
    cases k
    · cases hk
    · exact straps.symm.trans hk
  | powersOn =>
    exact .at_rest (fun k _ => by cases k <;> rfl) (fun k => by cases k <;> exact ⟨nofun, nofun⟩) rfl

/-- Settles O13: the reverse law, with ownership and commissioning as its ground, is kept by every move. -/
theorem reverseApproachAlone : Obligations.ReverseApproachAlone := by
  intro s t ⟨_, released, _⟩ habsent hc ⟨reentry, alone⟩ e
  have start : ReverseSafe s := by
    refine ⟨fun h hp => ?_, fun h => ⟨(hc h).2.2, reentry h⟩, released, alone⟩
    cases h
    · cases hp
    · rw [State.headState, State.head, habsent hp]
      rfl
  obtain ⟨moves⟩ := step_moves e
  clear e
  have safe : ReverseSafe t := by
    induction moves with
    | refl => exact start
    | tail _ m ih => exact ih.keeps m
  exact ⟨fun h => (safe.directed h).reentry, safe.alone⟩

/-! ## READ STATUS (R59, R195) -/

/-- A field lies behind the little-endian fields before it. -/
theorem fieldAt_skip {k i n : Nat} (v : Int) (b : List Byte) (h : k ≤ i) :
    fieldAt (leBytes k v ++ b) i n = fieldAt b (i - k) n := by
  simp [fieldAt, List.drop_append, List.drop_eq_nil_of_le, h]

theorem fieldAt_first (n : Nat) (v : Int) (b : List Byte) : fieldAt (leBytes n v ++ b) 0 n = leBytes n v :=
  fieldAt_append [] (leBytes n v) b rfl (leBytes_length n v)

theorem fieldAt_last (n : Nat) (v : Int) : fieldAt (leBytes n v) 0 n = leBytes n v := by
  simpa using fieldAt_first n v []

/-- A one-byte field is one byte. -/
theorem leBytes_one (n : Nat) : leBytes 1 (n : Int) = [BitVec.ofNat 8 n] := rfl

/-- The parameter of a head's travel demand (R106). -/
def HeadUnit.demandParameter (u : HeadUnit) : Int :=
  match u.seq.state.demand with
  | .approach => u.seq.target
  | .advance => u.travel.permitted
  | .idle | .hold => 0

/-- The bytes of the travel demand: its parameter, then its direction (R195). -/
theorem demandBytes_eq (u : HeadUnit) : u.demandBytes = leBytes 3 u.demandParameter ++
    leBytes 1 (if u.seq.state.demand = .approach then u.seq.direction.code else 0) := by
  unfold HeadUnit.demandBytes HeadUnit.demandParameter
  cases u.seq.state.demand <;> simp <;> rfl

/-- Settles O18: the 45 bytes, field by field. -/
theorem readStatusAnswersItems : Obligations.ReadStatusAnswersItems := by
  intro h s hr hp
  have taken := running_forHead 0x02 h takeReadStatus s hr hp
  refine ⟨s.statusBytes h, (takeReadStatus h s).free, ?_, ?_⟩
  · refine taken.trans (congrArg _ ?_)
    unfold takeReadStatus
    dsimp only
    split <;> rfl
  have id (g : Segment) (hg : (s.head h).plan.inForce = some g) : s.statusId h = g.id := by
    rw [State.statusId, hg]
  unfold State.statusBytes
  dsimp only
  rw [demandBytes_eq]
  simp only [List.append_assoc]
  refine ⟨by simp, by rw [leBytes_one, leBytes_one, leBytes_one]; rfl, ?_⟩
  simp only [fieldAt_skip, fieldAt_first, fieldAt_last, Nat.reduceLeDiff, Nat.reduceSub, true_and, and_true]
  refine ⟨fun g hg => by rw [id g hg], by simp, by simp, rfl, ?_, rfl⟩
  unfold HeadUnit.demandParameter State.demand State.headState
  cases (s.head h).seq.state.demand <;> rfl

/-! ## A HOLD, and what it brings (R86, R102) -/

/-- PAUSE_BEGIN is counted before it is recorded; the log is the same (R172). -/
theorem createRecord_of_counted (h : Head) (b : RecordBody) (s t : State) (hp : t.present h = s.present h)
    (hc : t.commonUsed = s.commonUsed) (hl : (t.head h).log = (s.head h).log) :
    ((createRecord h b false (countHead h (fun c => { c with pauses := bump c.pauses }) t)).head h).log =
      logCounted h b (fun c => { c with pauses := bump c.pauses }) s := by
  rw [← countHead_logCounted h b _ hp hc hl]
  cases hs : t.present h with
  | false =>
    have absent (x : State) (hx : x.present h = false) : createRecord h b false x = x := createRecord_absent h b false x hx
    rw [absent _ (by simp [hs]), absent _ hs]
  | true =>
    rw [countHead_log h _ _ (by simp [hs])]
    have slot := slotFor_congr h b t (countHead h (fun c => { c with pauses := bump c.pauses }) t) (by simp) (by simp)
    unfold createRecord
    simp only [hs, countHead_present, if_true, slot]
    cases slotFor h b t <;> simp [countHead_log h _ _ hs]

/-- A head in WELD pauses (R102), whatever else has changed beside it. -/
theorem pauseBegin_begun (h : Head) {s t : State} (hh : t.head h = s.head h) (hp : t.present h = s.present h)
    (hc : t.commonUsed = s.commonUsed) (hs : t.toolStation h = s.toolStation h) (hw : t.headState h = .weld) :
    PauseBegun h (t.headState h.other) s ((pauseBegin h t).head h) := by
  unfold pauseBegin
  rw [if_pos hw]
  extract_lets s1 s2 s3
  obtain ⟨named, n, hn, e⟩ := reportInForce_eq h (fun g => .pauseBegin g (t.toolStation h) (t.headState h.other)) s3
  have plan : (s3.head h).plan = (s.head h).plan := by simp [s3, s2, s1, hh]
  have log (k : Head) : (s2.head k).log = (t.head k).log := by
    rcases head_cases h k with rfl | rfl <;> simp [s2, s1]
  have before : s2.head h = { s.head h with
      seq := { (s.head h).seq with state := .pause }
      travel := { (s.head h).travel with
        pauseTimer := (s.head h).travelSet.pauseAllowance * 100, pauseElapsed := 0 } } := by
    simp [s2, s1, hh]
  have counted := createRecord_of_counted h (.pauseBegin named (t.toolStation h) (t.headState h.other)) s s2
    (by simpa [s2, s1] using hp) ((commonUsed_congr fun k => by rw [log k]).trans hc) (by rw [log h, hh])
  have freed := createRecord_log_congr h (.pauseBegin named (t.toolStation h) (t.headState h.other)) false s3
    { s3 with free := n } (withFree_present ..) rfl (by rw [withFree_head])
  refine ⟨named, fun g hg => hn g (plan ▸ hg), ?_⟩
  rw [e, createRecord_self, freed, counted, withFree_head, countHead_self, before, hs]

/-- A head that enters a state with a HOLD, seen from the output and from the other head (R85, R86, R102). -/
theorem setHeadState_holdTaken (h : Head) {st : HeadState} {s t : State} (hd : st.demand = .hold)
    (hp : t.present h.other = s.present h.other) (hq : t.headState h = s.headState h) (ho : t.head h.other = s.head h.other)
    (hg : t.gov = s.gov) (hl : s.demand h ≠ .hold → (t.head h).log = (s.head h).log) (hz : t.gantry = s.gantry) :
    HoldTaken h st s (setHeadState h st t) := by
  have engaged : st.engaged = true := by
    by_contra he
    exact HeadState.not_hold_of_idle (by simpa using he) hd
  have demand : t.demand h = s.demand h := congrArg HeadState.demand hq
  have gov := setHeadState_gov_eq h st t
  unfold HoldTaken
  by_cases hs : s.demand h = .hold
  · rw [if_pos hs]
    rw [if_neg (by simp [demand, hs]), if_pos (.inl engaged), hg] at gov
    exact ⟨gov, (setHeadState_other h st t (by simp [demand, hs])).trans ho⟩
  · rw [if_neg hs]
    rw [if_pos ⟨hd, by rwa [demand]⟩, hg] at gov
    refine ⟨gov, ?_⟩
    rw [setHeadState_hold h st t ⟨hd, by rwa [demand]⟩, takeHold]
    generalize hm : takeEngagement _ = m
    have other : m.head h.other = s.head h.other := by rw [← hm, ← ho]; simp
    have own : m.headState h = st := by rw [← hm]; simp [State.headState]
    split
    · next hw =>
      have begun := pauseBegin_begun h.other (s := s) (t := m.onGov fun g => { g with speed := 0 })
        (by simpa using other) (by rw [← hm]; simpa using hp)
        ((commonUsed_congr fun k => by rw [← hm]; rcases head_cases h k with rfl | rfl <;> simp [hl hs, ho]))
        (by simp [State.toolStation, ← hm, hz, ho]) (by simpa [State.headState, other] using hw)
      rwa [other_other, show (m.onGov fun g => { g with speed := 0 }).headState h = m.headState h by simp [State.headState], own]
        at begun
    · next hw =>
      rw [pauseBegin, if_neg (by simpa [State.headState, other] using hw)]
      simpa using other

/-! ## An interrupt, in full (R45) -/

/-- The INTERRUPT record names the segment that was in force at the entry, where there was one (R45, log 15). -/
theorem reportInterrupt_eq (h : Head) (c : Cause) (e s : State) : ∃ named n, NamesInForce e h named ∧
    reportInterrupt h c e s = countHead h (interruptCount c) (createRecord h
      (.interrupt c (e.toolStation h) named (e.head h).seq.kind (e.headState h) (e.head h).seq.depth) false
      { s with free := n }) := by
  unfold reportInterrupt NamesInForce
  dsimp only
  cases hg : (e.head h).plan.inForce with
  | some g => exact ⟨g.ref, s.free, fun k hk => by rw [← Option.some.inj hk]; rfl, rfl⟩
  | none => exact ⟨_, s.free + 1, nofun, rfl⟩

/-- The interrupt of a head, whole: its own items, the record behind the other head's PAUSE_BEGIN, and the HOLD. -/
theorem interruptHead_interrupted (h : Head) (c : Cause) (s : State) (ha : c.actsIn (s.headState h) = true) :
    Interrupted h c s (interruptHead h c s) := by
  unfold interruptHead
  rw [if_pos ha]
  extract_lets s1 s2
  have held : HoldTaken h .interrupting s (setHeadState h .interrupting s1) :=
    setHeadState_holdTaken h rfl (by simp [s1]) (by simp [s1, State.headState]) (by simp [s1]) (by simp [s1]) (by simp [s1])
      (by simp [s1])
  have own : s2.head h = { s.head h with
      seq := { (s.head h).seq with
        state := .interrupting, raising := false, cause := some c, interruptStation := s.toolStation h, rampAcc := 499 }
      plan := { (s.head h).plan with starved := none }
      travel := ⟨0, 0, 0⟩ } := by
    simp [s2, s1, endStarvation, setHeadState_self, HeadState.raises,
      HeadTravel.entering_rest _ (show HeadState.interrupting.welding = false from rfl)]
  have other : (reportInterrupt h c s s2).head h.other = (setHeadState h .interrupting s1).head h.other := by simp [s2]
  refine ⟨by simp [SameRest, s2, s1], by simp [s2, s1], ?_, ?_⟩
  · unfold HoldTaken at held ⊢
    simpa [other, s2] using held
  · obtain ⟨named, n, hn, e⟩ := reportInterrupt_eq h c s s2
    have others (k : Head) : (({ s2 with free := n } : State).head k).log.queue =
        ((s.onHead h.other fun _ => (reportInterrupt h c s s2).head h.other).head k).log.queue := by
      rw [withFree_head]
      rcases head_cases h k with rfl | rfl
      · simp [own]
      · rw [onHead_self, other]
        simp [s2]
    have log := countHead_logCounted h
      (.interrupt c (s.toolStation h) named (s.head h).seq.kind (s.headState h) (s.head h).seq.depth) (interruptCount c)
      (s := s.onHead h.other fun _ => (reportInterrupt h c s s2).head h.other) (t := { s2 with free := n })
      (by rw [withFree_present]; simp [s2, s1]) (commonUsed_congr others)
      (by rw [withFree_head, own]; simp)
    refine ⟨named, hn, ?_⟩
    rw [← log]
    nth_rw 1 [e]
    rw [countHead_self, createRecord_self, withFree_head, own]

/-! ## The end of a start (R38, R39, R49, R56) -/

/-- A start ends on a head whose log alone has changed. -/
theorem endStart_ended (h : Head) (log : HeadLog) {s t : State} (hr : SameRest s t) (hp : t.port = s.port)
    (hg : t.gov = s.gov) (ho : t.head h.other = s.head h.other) (hh : t.head h = { s.head h with log := log }) :
    StartEnded h log s (endStart h t) := by
  have kind : (t.head h).seq.kind = (s.head h).seq.kind := by rw [hh]
  have idle (st : HeadState) (hi : st.engaged = false) :
      (setHeadState h st (t.onSeq h fun q => { q with spindle := 0 })).gov = s.gov.left (s.headState h.other).engaged := by
    rw [setHeadState_gov_idle h _ hi]
    simp [hg, State.headState, ho]
  have rest (st : HeadState) (hi : st.engaged = false) :
      (setHeadState h st (t.onSeq h fun q => { q with spindle := 0 })).head h.other = s.head h.other := by
    rw [setHeadState_other_of_not_hold h _ (HeadState.not_hold_of_idle hi)]
    simpa using ho
  refine ⟨by simpa [SameRest] using hr, by simpa using hp, ?_, ?_, ?_⟩
  · unfold endStart enterInterrupted
    cases hk : (t.head h).seq.kind
    · simpa using idle .ready rfl
    · simpa using idle .interrupted rfl
  · unfold endStart enterInterrupted
    cases hk : (t.head h).seq.kind
    · simpa [emptyTrack] using rest .ready rfl
    · simpa [emptyTrack] using rest .interrupted rfl
  · unfold endStart enterInterrupted
    rw [kind]
    cases (s.head h).seq.kind <;>
      simp [emptyTrack, setHeadState_self, hh, Tracking.emptied, HeadState.raises, HeadTravel.entering, HeadState.welding]

/-- A start that fails is recorded first (R38, R39, R49). -/
theorem failStart_ended (h : Head) (r : StartFailure) (s : State) :
    StartEnded h (logWith h (.startFailed r (s.head h).seq.kind (s.headState h) (s.toolStation h)) s) s
      (failStart h r s) :=
  endStart_ended h _ (by simp [SameRest]) (by simp) (by simp) (createRecord_other ..) (createRecord_self ..)

/-- A record behind the end of a start joins the log that the end left. -/
theorem StartEnded.record {h : Head} {log : HeadLog} {s t : State} (e : StartEnded h log s t) (b : RecordBody)
    (hl : log = (s.head h).log) : StartEnded h (logWith h b s) s (createRecord h b false t) := by
  obtain ⟨rest, port, gov, other, own⟩ := e
  have present : t.present h = s.present h := by
    obtain ⟨-, -, -, -, -, straps, -⟩ := rest
    cases h <;> simp [State.present, straps]
  have logs (k : Head) : (t.head k).log = (s.head k).log := by
    rcases head_cases h k with rfl | rfl
    · rw [own, hl]
    · rw [other]
  refine ⟨by simpa [SameRest] using rest, by simpa using port, by simpa using gov, ?_, ?_⟩
  · rw [createRecord_other, other]
  · rw [createRecord_self, createRecord_logWith h b present (commonUsed_congr fun k => by rw [logs]) (logs h), own]

/-! ## STOP SEAM (R49, R50) -/

theorem stopHead_taken (h : Head) (s : State) : StopTaken h s (stopHead h s) := by
  unfold StopTaken stopHead
  split
  · exact failStart_ended h .hostStop s
  · have acts : Cause.hostStop.actsIn (s.headState h) = (s.headState h).inMaterial := rfl
    split
    · next hm => exact interruptHead_interrupted h .hostStop s (by rw [acts, hm])
    · next hm => rw [interruptHead, if_neg (by rwa [acts])]

/-- A head that is not engaged takes no stop. -/
theorem stopHead_idle (h : Head) (s : State) (he : (s.headState h).engaged = false) : stopHead h s = s := by
  have idle : (s.headState h).starting = false ∧ (s.headState h).inMaterial = false := by
    revert he
    cases s.headState h <;> decide
  unfold stopHead interruptHead
  rw [if_neg (by simp [idle.1]), if_neg (by simp [Cause.actsIn, idle.2])]

@[simp] theorem stopHead_port (h : Head) (s : State) : (stopHead h s).port = s.port := by
  unfold stopHead
  split <;> simp

/-- What both heads take one after the other, as long as what the first leaves is still of the kind that the second
takes (R50, R182, R191, log 3). -/
theorem eachHead_foldl {P : State → Prop} {take : Head → State → State} {Taken : Head → State → State → Prop}
    (hP : ∀ h s, P s → P (take h s)) (ht : ∀ h s, P s → Taken h s (take h s)) (first : Head) {s : State} (hs : P s) :
    EachHead first Taken s ((s.presentHeads first).foldl (fun x h => take h x) s) := by
  unfold EachHead State.presentHeads
  split
  · exact ⟨take first s, ht first s hs, ht first.other _ (hP first s hs)⟩
  · exact ht .a s hs

/-- Settles O20: the stop by the head's state, and each present head's for a broadcast one. -/
theorem stopSeamByState : Obligations.StopSeamByState := by
  refine ⟨fun h s hr hp => ?_, fun first s hr => ?_⟩
  · refine ⟨stopHead h s, stopHead_taken h s, ?_⟩
    have taken : exec (.stopSeam (.head (headCode h))) s = .next (takeStopSeam h s) :=
      running_forHead 0x04 h takeStopSeam s hr hp
    rw [taken, takeStopSeam]
    split
    · rfl
    · next he => rw [stopHead_idle h s (by simpa using he)]; rfl
  · refine ⟨broadcastStop first s, eachHead_foldl (P := fun _ => True)
      (fun _ _ _ => trivial) (fun h s _ => stopHead_taken h s) first trivial, running_negated _ s hr, ?_⟩
    unfold broadcastStop State.presentHeads
    split <;> simp

/-! ## The halt event (R56, R57, R182, R191) -/

/-- A record is a change of its head's log. -/
theorem createRecord_eq_onHead (h : Head) (b : RecordBody) (s : State) :
    createRecord h b false s = s.onHead h fun u => { u with log := logWith h b s } := by
  have own : s.onHead h (fun u => { u with log := (s.head h).log }) = s := by cases h <;> rfl
  have set (f : HeadLog → HeadLog) : s.onLog h f = s.onHead h fun u => { u with log := f (s.head h).log } := by
    cases h <;> rfl
  unfold logWith createRecord
  split
  · split
    · rw [set, onHead_self]
    · rw [set, onHead_self]
  · exact own.symm

theorem Interrupted.headState {h : Head} {c : Cause} {s t : State} (i : Interrupted h c s t) :
    t.headState h = .interrupting := by
  obtain ⟨-, -, -, named, -, own⟩ := i
  rw [State.headState, own]

theorem StartEnded.headState {h : Head} {log : HeadLog} {s t : State} (e : StartEnded h log s t) :
    t.headState h = if (s.head h).seq.kind = .fresh then .ready else .interrupted := by
  obtain ⟨-, -, -, -, own⟩ := e
  rw [State.headState, own]

/-- A calibration that a halt aborts, with its two records (R56, R156). -/
theorem haltHead_calibrating (h : Head) (src : HaltSource) (s : State) (hs : s.headState h = .calibrating)
    (hk : (s.head h).seq.OriginKept) : HaltTaken h src s (reportHalt h src .calibrating (abortCalibration h .halt s)) := by
  have idle : (s.head h).seq.origin.engaged = false ∧ (s.head h).seq.origin.raises = true ∧
      (s.head h).seq.origin.welding = false := by
    rcases hk hs with e | e | e <;> rw [e] <;> decide
  obtain ⟨he, hi, hw⟩ := idle
  unfold HaltTaken
  rw [hs, if_neg (by decide), if_neg (by decide), if_pos rfl]
  unfold reportHalt abortCalibration endCalibration
  extract_lets q
  have state : (setHeadState h q.origin ((createRecord h (.calFailed .halt q.cal.count 0 0) false s).onSeq h fun q =>
      { q with cal := CalAccumulator.clear })).headState h = q.origin := setHeadState_headState ..
  rw [state]
  refine ⟨by simp [SameRest], by simp, ?_, ?_, s.onHead h (fun u =>
    { u with log := logWith h (.calFailed .halt u.seq.cal.count 0 0) s }), rfl, ?_⟩
  · rw [createRecord_gov, setHeadState_gov_idle h _ he]
    simp [State.headState]
  · rw [createRecord_other, setHeadState_other_of_not_hold h _ (HeadState.not_hold_of_idle he)]
    simp
  · have logs (k : Head) : ((setHeadState h q.origin ((createRecord h (.calFailed .halt q.cal.count 0 0) false s).onSeq h
        fun q => { q with cal := CalAccumulator.clear })).head k).log = ((s.onHead h (fun u =>
        { u with log := logWith h (.calFailed .halt u.seq.cal.count 0 0) s })).head k).log := by
      rw [setHeadState_log_of_not_hold h k _ (HeadState.not_hold_of_idle he)]
      rcases head_cases h k with rfl | rfl
      · simp [logWith, q]
      · simp
    rw [createRecord_self, createRecord_logWith h _ (by simp) (commonUsed_congr fun k => by rw [logs]) (logs h),
      setHeadState_self]
    have recorded : (createRecord h (.calFailed .halt q.cal.count 0 0) false s).head h =
        { s.head h with log := logWith h (.calFailed .halt q.cal.count 0 0) s } := createRecord_self ..
    simp [recorded, hi, HeadTravel.entering_rest _ hw, Sequencer.afterCalibration, q]
    and_intros <;> rfl

theorem haltHead_taken (h : Head) (src : HaltSource) (s : State) (hk : (s.head h).seq.OriginKept) :
    HaltTaken h src s (haltHead h src s) := by
  have interrupts (hm : (s.headState h).inMaterial = true) :
      HaltTaken h src s (reportHalt h src (s.headState h) (interruptHead h .halt s)) := by
    have i := interruptHead_interrupted h .halt s hm
    unfold HaltTaken reportHalt
    rw [if_pos hm, i.headState]
    exact ⟨_, i, createRecord_eq_onHead ..⟩
  have ends (hm : (s.headState h).inMaterial = false) (hs : (s.headState h).starting = true) :
      HaltTaken h src s (reportHalt h src (s.headState h) (endStart h s)) := by
    have e := endStart_ended h (s.head h).log (s := s) (t := s) (by simp [SameRest]) rfl rfl rfl rfl
    unfold HaltTaken reportHalt
    rw [if_neg (by simp [hm]), if_pos hs, e.headState]
    exact e.record _ rfl
  unfold haltHead
  dsimp only
  cases hs : s.headState h
  case plunge | dwell | weld | pause => rw [hs] at interrupts; exact interrupts rfl
  case approach | spinup => rw [hs] at ends; exact ends rfl rfl
  case calibrating => exact haltHead_calibrating h src s hs hk
  all_goals simp [HaltTaken, hs, HeadState.inMaterial, HeadState.starting]

/-- A move of a head keeps the origin of a calibration. -/
theorem HeadMove.keeps_origin {v w : HeadView} (m : HeadMove v w) (hv : v.OriginKept) : w.OriginKept := by
  unfold HeadView.OriginKept at hv
  cases m.leads hv with
  | stays hs _ _ ho => rwa [HeadView.OriginKept, hs, ho]
  | approaches _ hw => exact fun e => by rw [hw] at e; cases e
  | rests _ ho => exact ho
  | goesOn _ hc => exact fun e => absurd e hc

theorem haltEvent_taken (src : HaltSource) (first : Head) (s : State) (hk : ∀ h, (s.head h).seq.OriginKept) :
    EachHead first (fun h => HaltTaken h src) s (haltEvent src first s) :=
  eachHead_foldl (P := fun x => ∀ k, (x.head k).seq.OriginKept)
    (fun h x hx k => (haltHead_moves h src x).keeps (fun _ _ m hv => m.keeps_origin hv) k (hx k))
    (fun h x hx => haltHead_taken h src x (hx h)) first hk

@[simp] theorem haltHead_port (h : Head) (src : HaltSource) (s : State) : (haltHead h src s).port = s.port := by
  unfold haltHead reportHalt abortCalibration endCalibration
  dsimp only
  split <;> simp

@[simp] theorem haltEvent_port (src : HaltSource) (first : Head) (s : State) : (haltEvent src first s).port = s.port := by
  unfold haltEvent State.presentHeads
  split <;> simp

/-- A discarded reply is gone, and with that of a device reset the reset comes (R189). -/
theorem discardReply_kept {s : State} (hd : s.port.resetDeferred = false) :
    discardReply s = (false, s.onPort fun p => { p with pendingReply := none }) := by
  unfold discardReply
  rw [if_neg (by simp [hd])]

theorem discardReply_reset {s : State} (hd : s.port.resetDeferred = true) : discardReply s = (true, deviceReset s) := by
  unfold discardReply
  rw [if_pos hd]

/-- Settles O33: each event on the state that the input or the line leaves. -/
theorem haltEventsHaltHeads : Obligations.HaltEventsHaltHeads := by
  intro first s hr hk
  have asserted : ∀ x : State, (∀ h, x.head h = s.head h) → ∀ h, (x.head h).seq.OriginKept := fun x hx h => by
    rw [hx]
    exact hk h
  have broken (hx : s.port.rx ≠ .replying) (ha : s.port.armed = true) :
      lineHeldLow first s = takeBreak first { s with pins := { s.pins with lineLow := true } } := by
    unfold lineHeldLow
    rw [if_neg (by simp [hr]), if_neg hx, if_pos ha]
  refine ⟨fun hh => ?_, fun hh => ?_, rfl, fun hx ha hd => ?_, fun hx ha hd => ?_, fun hx ha => ?_, ?_⟩
  · refine ⟨haltEvent .haltInput first { s with pins := { s.pins with halt := true } }, ?_, by simp,
      haltEvent_taken _ _ _ (asserted _ fun h => by cases h <;> rfl)⟩
    simp [exec, execHaltInputAsserted, assertHalt, hh, hr]
  · have again : assertHalt first s = { s with pins := { s.pins with halt := true } } := by simp [assertHalt, hh]
    have same : { s.pins with halt := true } = s.pins := by rw [← hh]
    exact congrArg Host.Outcome.next (again.trans (by rw [same]))
  · refine ⟨_, ?_, haltEvent_taken _ _ _ (asserted _ fun h => by cases h <;> rfl)⟩
    refine congrArg Host.Outcome.next ((broken hx ha).trans ?_)
    rw [takeBreak, discardReply_kept (s := { s with pins := { s.pins with lineLow := true } }) hd]
    rfl
  · refine congrArg Host.Outcome.next ((broken hx ha).trans ?_)
    rw [takeBreak, discardReply_reset (s := { s with pins := { s.pins with lineLow := true } }) hd]
    rfl
  · simp [exec, execLineBreak, lineHeldLow, hr, hx, ha]
  · simp [exec, execBreakDetectorRearm, lineReturns, hr]
    rfl

/-! ## START SEAM (R35, R36) -/

/-- The part's checks and those of the statement fail together, in one order (R35). -/
theorem takeStartSeam_eq (h : Head) (s : State) : takeStartSeam h s =
    (firstFailure (startChecks h s)).elim
      ((s.head h).plan.current.elim s fun g => answer 0x03 .ok (leBytes 3 (g.start : Nat)) (beginSeam h g s))
      fun st => answer 0x03 st [] s := by
  have sensors : s.sensorsSound h = !s.sensorFaulted h := rfl
  have drives (d : DriveInputs) : d.everyReady = d.allReady := rfl
  have busy : (s.present h.other && s.headState h.other == .approach && (s.head h.other).seq.direction == .reverse) =
      s.otherReverses h := rfl
  have startable : (s.headState h ≠ .ready ∧ s.headState h ≠ .calDue) ↔
      ¬(s.headState h == .ready || s.headState h == .calDue) = true := by simp
  have due : s.headState h = .calDue ↔ ¬(s.headState h != .calDue) = true := by simp
  have reached (g : Segment) : (g.start : Int) + 10 < s.toolStation h ↔
      ¬decide (s.toolStation h ≤ (g.start : Int) + 10) = true := by simp
  unfold takeStartSeam startChecks PlanStore.current
  simp only [firstFailure_elim_cons, firstFailure_elim_nil, sensors, drives, busy, startable, due, ite_not, reached]
  cases (s.head h).plan.queue with
  | nil => simp [ite_eq_false_swap]
  | cons g rest => simp [ite_eq_false_swap]

/-- The start of a seam, block by block (R36, R85). -/
theorem beginSeam_spec (h : Head) (g : Segment) (s : State) :
    SameRest s (beginSeam h g s) ∧ (beginSeam h g s).port = s.port ∧ (beginSeam h g s).gov = s.gov.taken ∧
    (beginSeam h g s).head h.other = s.head h.other ∧
    (beginSeam h g s).head h = { s.head h with
      seq := { (s.head h).seq with
        state := .approach, raising := false, kind := .fresh, target := (g.start : Nat), direction := .forward }
      travel := ⟨0, 0, 0⟩
      log := logWith h (.seamStart ⟨g.id, some g.zone⟩ (g.start : Nat) (s.toolStation h)) s } := by
  have hd : HeadState.approach.demand ≠ .hold := by decide
  obtain ⟨s1, hs1⟩ : ∃ x, x = s.onSeq h fun q =>
    { q with kind := .fresh, target := (g.start : Nat), direction := .forward } := ⟨_, rfl⟩
  have begun : beginSeam h g s =
      createRecord h (.seamStart g.ref (g.start : Nat) (s.toolStation h)) false (setHeadState h .approach s1) := by
    rw [hs1]
    rfl
  rw [begun]
  refine ⟨by simp [SameRest, hs1], by simp [hs1], ?_, ?_, ?_⟩
  · rw [createRecord_gov, setHeadState_gov_engaged h s1 rfl hd]
    simp [hs1]
  · rw [createRecord_other, setHeadState_other_of_not_hold h _ hd]
    simp [hs1]
  · have logs (k : Head) : ((setHeadState h .approach s1).head k).log = (s.head k).log := by
      rw [setHeadState_log_of_not_hold h k _ hd]
      simp [hs1]
    rw [createRecord_self, createRecord_logWith h _ (by simp [hs1]) (commonUsed_congr fun k => by rw [logs]) (logs h),
      setHeadState_self]
    simp [hs1, HeadState.raises, HeadTravel.entering_rest _ (show HeadState.approach.welding = false from rfl), Segment.ref]

/-- Settles O19: the checks, then the start. -/
theorem startSeamTaken : Obligations.StartSeamTaken := by
  intro h s hr hp
  have taken : exec (.startSeam (headCode h)) s = .next (takeStartSeam h s) := running_forHead 0x03 h takeStartSeam s hr hp
  rw [taken, takeStartSeam_eq]
  refine ⟨fun st hf => ?_, fun g hf hg => ⟨beginSeam h g s, ?_, beginSeam_spec h g s⟩⟩
  · rw [hf]
    rfl
  · rw [hf, hg]
    rfl

/-! ## Rows that interrupt (R41, R80, R103, R133) -/

/-- Settles O50: each row finds its condition and interrupts. -/
theorem conditionsInterrupt : Obligations.ConditionsInterrupt := by
  intro h s hr hp
  have row (find : State → State) (c : Cause) (ha : c.actsIn (s.headState h) = true) (e : find s = interruptHead h c s) :
      ∃ t, running find s = .next t ∧ Interrupted h c s t :=
    ⟨interruptHead h c s, by rw [running_negated find s hr, e], interruptHead_interrupted h c s ha⟩
  refine ⟨fun hs hd ht => ?_, fun hm hf => ?_, fun hm hg => ?_, fun hs hh ht => ?_⟩
  · refine row (findPlungeTimeout h) .plungeTimeout (by rw [hs]; rfl) ?_
    simp [findPlungeTimeout, hp, hs, HeadUnit.plunged, hd, ht]
  · refine row (findForceLimit h) .forceLimit hm ?_
    simp [findForceLimit, hp, hm, hf]
  · refine row (findGraceExhausted h) .sensor hm ?_
    have spent : (s.head h).front.graceSpent = true := by simpa [FrontEnd.graceSpent, Config.graceLimit] using hg
    simp [findGraceExhausted, hp, hm, spent]
  · refine row (findPauseLimit h) .pauseLimit (by rw [hs]; rfl) ?_
    simp [findPauseLimit, hp, hs, hh, ht]

/-! ## Complete retracts (R44, R47) -/

/-- The change of state at the end of a retract: nothing beside the head but the output. -/
theorem retracted_spec (h : Head) (st : HeadState) (s : State) (he : st.engaged = false) (hi : st.raises = true)
    (hw : st.welding = false) :
    SameRest s (setHeadState h st (s.onSeq h fun q => { q with spindle := 0 })) ∧
    (setHeadState h st (s.onSeq h fun q => { q with spindle := 0 })).port = s.port ∧
    (setHeadState h st (s.onSeq h fun q => { q with spindle := 0 })).gov = s.gov.left (s.headState h.other).engaged ∧
    (setHeadState h st (s.onSeq h fun q => { q with spindle := 0 })).head h.other = s.head h.other ∧
    (setHeadState h st (s.onSeq h fun q => { q with spindle := 0 })).head h = { s.head h with
      seq := { (s.head h).seq with state := st, spindle := 0 }
      travel := ⟨0, 0, 0⟩ } := by
  refine ⟨by simp [SameRest], by simp, ?_, ?_, ?_⟩
  · simp [setHeadState_gov_idle h _ he, State.headState]
  · simp [setHeadState_other_of_not_hold h _ (HeadState.not_hold_of_idle he)]
  · simp [setHeadState_self, hi, HeadTravel.entering_rest _ hw]

/-- Settles O51: the change of state, and from INTERRUPTING the emptied lookahead queue. -/
theorem retractsEnd : Obligations.RetractsEnd := by
  intro h s hr hp hd
  have raised : (s.head h).raised = true := by simpa [HeadUnit.raised, HeadUnit.clearanceHeight] using hd
  refine ⟨fun hs => ?_, fun hs => ?_⟩
  · obtain ⟨he, hi, hw⟩ := readyOrCalDue_idle (s.head h).seq
    refine ⟨finishExit h s, ?_, retracted_spec h _ s he hi hw⟩
    refine (running_negated (findExitRetract h) s hr).trans (congrArg _ ?_)
    simp [findExitRetract, hp, hs, raised]
  · obtain ⟨-, -, gov, other, own⟩ := retracted_spec h .interrupted s rfl rfl rfl
    refine ⟨finishInterrupting h s, ?_, ?_, ?_, ?_, ?_, ?_⟩
    · refine (running_negated (findInterruptingRetract h) s hr).trans (congrArg _ ?_)
      simp [findInterruptingRetract, hp, hs, raised]
    · simp [SameRest, finishInterrupting]
    · simp [finishInterrupting]
    · simpa [finishInterrupting, enterInterrupted] using gov
    · simpa [finishInterrupting, enterInterrupted, emptyTrack] using other
    · simp [finishInterrupting, enterInterrupted, emptyTrack, own, Tracking.emptied]

/-! ## Arrival, at speed, and the complete plunge (R37, R38, R41) -/

theorem onSeq_onSeq (h : Head) (f k : Sequencer → Sequencer) (s : State) :
    (s.onSeq h f).onSeq h k = s.onSeq h fun q => k (f q) := by cases h <;> rfl

/-- The counter of free values is nothing to a record. -/
theorem createRecord_of_free (h : Head) (b : RecordBody) (n : Nat) (s : State) :
    (createRecord h b false { s with free := n }).head h = { s.head h with log := logWith h b s } := by
  rw [createRecord_self, createRecord_logWith h b (withFree_present ..) rfl (by rw [withFree_head]), withFree_head]

/-- With a segment in force the spindle command is its spindle speed (R29). -/
theorem followSpindle_of_inForce (h : Head) {g : Segment} (s : State) (hg : (s.head h).plan.inForce = some g) :
    followSpindle h s = s.onSeq h fun q => { q with spindle := g.spindle } := by
  unfold followSpindle
  rw [hg]

/-- Within 1.0 mm of its target, or past it, an approach is reached (R94). -/
theorem reached_of_near {h : Head} {s : State} (hs : s.headState h = .approach)
    (near : let target : Int := (s.head h).tool.seamOrigin + (s.head h).seq.target
      if (s.head h).seq.direction = .forward then target - s.gantry.effective ≤ 10
      else s.gantry.effective - target ≤ 10) : s.reached h = true := by
  have demand : s.demand h = .approach := by rw [State.demand, hs]; rfl
  unfold State.reached State.remaining
  cases hd : (s.head h).seq.direction <;> simp_all

/-- Settles O57: the reached head's entry to SPINUP. -/
theorem arrivalSpinsUp : Obligations.ArrivalSpinsUp := by
  intro h g s hr hp hs hg near
  obtain ⟨s1, hs1⟩ : ∃ x, x = s.onSeq h fun q =>
    { q with plungeStation := s.toolStation h, spinupTimer := (s.head h).travelSet.spinupTimeout * 100, spindle := g.spindle } :=
    ⟨_, rfl⟩
  have entered : enterSpinup h s = setHeadState h .spinup s1 := by
    unfold enterSpinup
    extract_lets x
    rw [followSpindle_of_inForce h (g := g) _ (by simpa [x] using hg), onSeq_onSeq, hs1]
  have reached : s.reached h = true := reached_of_near hs near
  refine ⟨setHeadState h .spinup s1, ?_, by simp [SameRest, hs1], by simp [hs1], ?_, ?_⟩
  · refine (running_negated (findArrival h) s hr).trans (congrArg _ ?_)
    simp [findArrival, hp, reached, entered]
  · exact setHeadState_holdTaken h rfl (by simp [hs1]) (by simp [hs1, State.headState]) (by simp [hs1]) (by simp [hs1])
      (fun _ => by simp [hs1]) (by simp [hs1])
  · simp [hs1, setHeadState_self, HeadState.raises, HeadTravel.entering_rest _ (show HeadState.spinup.welding = false from rfl)]

/-- Settles O48: the entries to PLUNGE and DWELL, and the start that fails. -/
theorem spinupAndPlungeEnd : Obligations.SpinupAndPlungeEnd := by
  refine ⟨fun h s hr hp hs => ⟨fun ha => ?_, fun ha ht => ?_⟩, fun h s hr hp hs hd => ?_⟩
  · refine ⟨enterPlunge h s, ?_, by simp [SameRest, enterPlunge], by simp [enterPlunge], ?_, ?_⟩
    · refine (running_negated (findAtSpeed h) s hr).trans (congrArg _ ?_)
      simp [findAtSpeed, hp, hs, ha]
    · exact setHeadState_holdTaken h rfl (by simp) (by simp [State.headState]) (by simp) (by simp)
        (fun _ => by simp) (by simp)
    · simp [enterPlunge, setHeadState_self, HeadState.raises,
        HeadTravel.entering_rest _ (show HeadState.plunge.welding = false from rfl)]
  · refine ⟨failStart h .spinupTimeout s, ?_, ?_⟩
    · refine (running_negated (findSpinupTimeout h) s hr).trans (congrArg _ ?_)
      simp [findSpinupTimeout, hp, hs, ha, ht]
    · have failed := failStart_ended h .spinupTimeout s
      rwa [hs] at failed
  · obtain ⟨named, n, hn, e⟩ := reportInForce_eq h (fun g => .plungeDone g (s.head h).seq.kind
      (s.head h).seq.plungeStation (s.head h).seq.depth
      (((s.head h).tool.plungeTimeout * 100 : Nat) - (s.head h).seq.plungeTimer : Int).toNat) s
    obtain ⟨s1, hs1⟩ : ∃ x, x = (createRecord h (.plungeDone named (s.head h).seq.kind
      (s.head h).seq.plungeStation (s.head h).seq.depth
      (((s.head h).tool.plungeTimeout * 100 : Nat) - (s.head h).seq.plungeTimer : Int).toNat) false
      { s with free := n }).onSeq h fun q => { q with dwellTimer := (s.head h).tool.dwell } := ⟨_, rfl⟩
    have entered : enterDwell h s = setHeadState h .dwell s1 := by
      rw [hs1, ← e]
      simp [enterDwell]
    have demand : s.demand h = .hold := by rw [State.demand, hs]; rfl
    have own : s1.head h = { s.head h with
        seq := { (s.head h).seq with dwellTimer := (s.head h).tool.dwell }
        log := logWith h (.plungeDone named (s.head h).seq.kind (s.head h).seq.plungeStation (s.head h).seq.depth
          (((s.head h).tool.plungeTimeout * 100 : Nat) - (s.head h).seq.plungeTimer : Int).toNat) s } := by
      rw [hs1, State.onSeq, onHead_self, createRecord_of_free]
    refine ⟨setHeadState h .dwell s1, named, ?_, hn, by simp [SameRest, hs1], by simp [hs1], ?_, ?_⟩
    · refine (running_negated (findPlungeDone h) s hr).trans (congrArg _ ?_)
      simp [findPlungeDone, hp, hs, HeadUnit.plunged, hd, entered]
    · exact setHeadState_holdTaken h rfl (by simp [hs1, State.present]) (by simp [State.headState, own])
        (by simp [hs1, createRecord_other]) (by simp [hs1]) (fun hn => absurd demand hn) (by simp [hs1])
    · simp [setHeadState_self, own, HeadState.raises,
        HeadTravel.entering_rest _ (show HeadState.dwell.welding = false from rfl)]

/-! ## Room in the pool, and records that stay (R165, R166) -/

/-- What at most `n` records leave of the pool: every queue keeps its records in front, and at most `n` more common slots
are taken. -/
structure Grown (n : Nat) (s t : State) : Prop where
  present : ∀ k, t.present k = s.present k
  queues : ∀ k, (s.head k).log.queue <+: (t.head k).log.queue
  common : t.commonUsed ≤ s.commonUsed + n

theorem Grown.refl (s : State) : Grown 0 s s := ⟨fun _ => rfl, fun _ => List.prefix_rfl, le_refl _⟩

theorem Grown.trans {m n : Nat} {s t u : State} (a : Grown m s t) (b : Grown n t u) : Grown (m + n) s u :=
  ⟨fun k => (b.present k).trans (a.present k), fun k => (a.queues k).trans (b.queues k),
    by have := a.common; have := b.common; omega⟩

theorem Grown.mono {m n : Nat} {s t : State} (a : Grown m s t) (h : m ≤ n) : Grown n s t :=
  ⟨a.present, a.queues, by have := a.common; omega⟩

/-- What leaves the heads' presence and queues as they are. -/
theorem Grown.of_same {s t : State} (hp : ∀ k, t.present k = s.present k)
    (hq : ∀ k, (t.head k).log.queue = (s.head k).log.queue) : Grown 0 s t :=
  ⟨hp, fun k => by rw [hq], by rw [commonUsed_congr hq]; omega⟩

theorem Grown.then_same {n : Nat} {s t u : State} (a : Grown n s t) (hp : ∀ k, u.present k = t.present k)
    (hq : ∀ k, (u.head k).log.queue = (t.head k).log.queue) : Grown n s u := a.trans (.of_same hp hq)

theorem Grown.after_same {n : Nat} {s t u : State} (a : Grown n t u) (hp : ∀ k, t.present k = s.present k)
    (hq : ∀ k, (t.head k).log.queue = (s.head k).log.queue) : Grown n s u :=
  ((Grown.of_same hp hq).trans a).mono (by omega)

theorem createRecord_grown (h : Head) (b : RecordBody) (co : Bool) (s : State) : Grown 1 s (createRecord h b co s) := by
  refine ⟨by simp, fun k => createRecord_grows h k b co s, ?_⟩
  have other : ((createRecord h b co s).head h.other).log.commonUsed = (s.head h.other).log.commonUsed := by
    rw [createRecord_other]
  have own : ((createRecord h b co s).head h).log.commonUsed ≤ (s.head h).log.commonUsed + 1 := by
    unfold createRecord
    split
    · split
      · next r _ => cases r <;> simp [HeadLog.commonUsed, List.countP_append]
      · simp [HeadLog.commonUsed]
    · omega
  rw [commonUsed_eq h, commonUsed_eq h s, other]
  omega

theorem countHead_grown (h : Head) (f : HeadCounters → HeadCounters) (s : State) : Grown 0 s (countHead h f s) :=
  .of_same (by simp) (by simp)

theorem reportInForce_grown (h : Head) (b : SegmentRef → RecordBody) (s : State) : Grown 1 s (reportInForce h b s) := by
  obtain ⟨named, n, -, e⟩ := reportInForce_eq h b s
  rw [e]
  exact (createRecord_grown ..).after_same (by simp) (by simp)

theorem pauseBegin_grown (h : Head) (s : State) : Grown 1 s (pauseBegin h s) := by
  unfold pauseBegin
  split
  · refine (reportInForce_grown ..).after_same (by simp) fun k => ?_
    rw [countHead_queue]
    rcases head_cases h k with rfl | rfl <;> simp
  · exact (Grown.refl s).mono (by omega)

/-- A HOLD makes at most one record, the other head's PAUSE_BEGIN (R102). -/
theorem setHeadState_grown (h : Head) (st : HeadState) (s : State) : Grown 1 s (setHeadState h st s) := by
  unfold setHeadState takeHold
  dsimp only
  split
  · refine (pauseBegin_grown ..).after_same (by simp) fun k => ?_
    rcases head_cases h k with rfl | rfl <;> simp
  · refine (Grown.of_same (by simp) fun k => ?_).mono (by omega)
    rcases head_cases h k with rfl | rfl <;> simp

theorem reportInterrupt_grown (h : Head) (c : Cause) (e s : State) : Grown 1 s (reportInterrupt h c e s) := by
  obtain ⟨named, n, -, r⟩ := reportInterrupt_eq h c e s
  rw [r]
  exact ((createRecord_grown ..).after_same (by simp) (by simp)).trans (countHead_grown ..)

/-- A head's entry to INTERRUPTING, before its record (R45). -/
def interruptEntry (h : Head) (c : Cause) (s : State) : State :=
  endStarvation h (setHeadState h .interrupting (s.onSeq h fun q =>
    { q with cause := some c, interruptStation := s.toolStation h, rampAcc := 499 }))

theorem interruptHead_of_acts {h : Head} {c : Cause} {s : State} (ha : c.actsIn (s.headState h) = true) :
    interruptHead h c s = reportInterrupt h c s (interruptEntry h c s) := if_pos ha

theorem interruptHead_of_not_acts {h : Head} {c : Cause} {s : State} (ha : c.actsIn (s.headState h) = false) :
    interruptHead h c s = s := if_neg (by simp [ha])

theorem interruptEntry_grown (h : Head) (c : Cause) (s : State) : Grown 1 s (interruptEntry h c s) := by
  have entered : Grown 1 s (setHeadState h .interrupting (s.onSeq h fun q =>
      { q with cause := some c, interruptStation := s.toolStation h, rampAcc := 499 })) :=
    (setHeadState_grown h .interrupting _).after_same (by simp) (by simp)
  exact entered.then_same (by simp [interruptEntry]) (by simp [interruptEntry])

theorem interruptHead_grown (h : Head) (c : Cause) (s : State) : Grown 2 s (interruptHead h c s) := by
  cases ha : c.actsIn (s.headState h) with
  | true =>
    rw [interruptHead_of_acts ha]
    exact (interruptEntry_grown h c s).trans (reportInterrupt_grown ..)
  | false =>
    rw [interruptHead_of_not_acts ha]
    exact (Grown.refl s).mono (by omega)

/-- With a common slot free a record is stored (R165). -/
theorem createRecord_recorded {h : Head} (b : RecordBody) (co : Bool) {s : State} (hp : s.present h = true)
    (hr : s.commonUsed < 960) : Recorded h b (createRecord h b co s) := by
  have slot : slotFor h b s = some false := by
    unfold slotFor
    rw [if_pos (by simpa [Config.commonSlots] using hr)]
  refine ⟨⟨b, (s.head h).log.seq, (s.head h).log.lossPending, co, false⟩, ?_, rfl⟩
  simp [createRecord, hp, slot]

theorem Recorded.grown {h : Head} {b : RecordBody} {n : Nat} {s t : State} (r : Recorded h b s) (g : Grown n s t) :
    Recorded h b t := by
  obtain ⟨x, hx, e⟩ := r
  exact ⟨x, (g.queues h).subset hx, e⟩

/-- The record of an interrupt is stored where two common slots are free (R45). -/
theorem interruptHead_recorded {h : Head} {c : Cause} {s : State} (hp : s.present h = true)
    (ha : c.actsIn (s.headState h) = true) (hr : s.commonUsed + 1 < 960) :
    ∃ named, NamesInForce s h named ∧ Recorded h
      (.interrupt c (s.toolStation h) named (s.head h).seq.kind (s.headState h) (s.head h).seq.depth)
      (interruptHead h c s) := by
  obtain ⟨named, n, hn, e⟩ := reportInterrupt_eq h c s (interruptEntry h c s)
  have entered := interruptEntry_grown h c s
  refine ⟨named, hn, ?_⟩
  rw [interruptHead_of_acts ha, e]
  refine (createRecord_recorded _ false ?_ ?_).grown (countHead_grown ..)
  · rw [withFree_present, entered.present, hp]
  · rw [withFree_commonUsed]
    have := entered.common
    omega

/-! ## What a governor update reads (R87, R91, R98) -/

/-- The counters after a record and what its event counts: what it counts, and perhaps a record lost (R166, R172). -/
theorem logCounted_counters {h : Head} {s : State} (b : RecordBody) (f : HeadCounters → HeadCounters)
    (hp : s.present h = true) :
    ∃ n, (logCounted h b f s).counters = f { (s.head h).log.counters with recordsLost := n } := by
  obtain ⟨n, e⟩ := createRecord_counters h h b false s
  refine ⟨n, ?_⟩
  unfold logCounted logWith
  rw [if_pos hp, e]

/-- A head after what happens to its record queue and its permitted speed alone. -/
structure HeadRead (u v : HeadUnit) : Prop where
  self : v = { u with travel := { u.travel with permitted := v.travel.permitted }, log := v.log }
  counters : v.log.counters = { u.log.counters with
    sensorFaults := v.log.counters.sensorFaults, recordsLost := v.log.counters.recordsLost }

theorem HeadRead.refl (u : HeadUnit) : HeadRead u u := ⟨rfl, rfl⟩

theorem HeadRead.trans {u v w : HeadUnit} (a : HeadRead u v) (b : HeadRead v w) : HeadRead u w :=
  ⟨b.self.trans (by rw [a.self]), b.counters.trans (by rw [a.counters])⟩

theorem HeadRead.seq {u v : HeadUnit} (r : HeadRead u v) : v.seq = u.seq := by rw [r.self]
theorem HeadRead.plan {u v : HeadUnit} (r : HeadRead u v) : v.plan = u.plan := by rw [r.self]
theorem HeadRead.profiles {u v : HeadUnit} (r : HeadRead u v) : v.profiles = u.profiles := by rw [r.self]
theorem HeadRead.pauseTimer {u v : HeadUnit} (r : HeadRead u v) : v.travel.pauseTimer = u.travel.pauseTimer := by rw [r.self]
theorem HeadRead.pauseElapsed {u v : HeadUnit} (r : HeadRead u v) : v.travel.pauseElapsed = u.travel.pauseElapsed := by
  rw [r.self]

/-- A head after an update's reading. -/
structure UpdateRead (s t : State) : Prop where
  heads : ∀ k, HeadRead (s.head k) (t.head k)
  grown : Grown 2 s t

theorem reportFault_read (h : Head) (n : ChannelName) (kind : FaultKind) (c : Channel) (s : State) (k : Head) :
    HeadRead (s.head k) ((reportFault h n kind c s).head k) := by
  rcases head_cases h k with rfl | rfl
  · obtain ⟨m, e⟩ := createRecord_counters k k (.sensorFault n kind c.raw c.substituteOn (s.headState k)) false s
    refine ⟨by rw [reportFault, countHead_self, createRecord_self], ?_⟩
    unfold reportFault countHead
    split
    · simp [e]
    · simp [e]
  · simpa [reportFault] using HeadRead.refl _

theorem reportFault_grown (h : Head) (n : ChannelName) (kind : FaultKind) (c : Channel) (s : State) :
    Grown 1 s (reportFault h n kind c s) := (createRecord_grown ..).trans (countHead_grown ..)

theorem Grown.foldl {α : Type} {n : Nat} (f : State → α → State) (hf : ∀ x a, Grown n x (f x a)) (l : List α) (s : State) :
    Grown (n * l.length) s (l.foldl f s) := by
  induction l generalizing s with
  | nil => exact .refl s
  | cons a l ih => exact ((hf s a).trans (ih (f s a))).mono (by rw [List.length_cons, Nat.mul_succ]; omega)

theorem presentHeads_length (s : State) (first : Head) : (s.presentHeads first).length ≤ 2 := by
  unfold State.presentHeads
  split <;> simp

theorem convertGantry_read (first : Head) (i : EncoderReading) (s : State) : UpdateRead s (convertGantry first i s) := by
  have converted (c : Channel) : UpdateRead s { s with gantry := c } :=
    have same (k : Head) : ({ s with gantry := c } : State).head k = s.head k := by cases k <;> rfl
    ⟨fun k => by rw [same]; exact .refl _, (Grown.of_same (fun k => by cases k <;> rfl) fun k => by rw [same]).mono (by omega)⟩
  unfold convertGantry
  dsimp only
  split
  · next kind _ =>
    split
    · exact converted _
    · have reported (l : List Head) (x : State) (k : Head) : HeadRead (x.head k) ((l.foldl (fun acc h =>
          reportFault h .gantry kind (convert gantryScale i.count (encoderFault i) s.gantry) acc) x).head k) := by
        induction l generalizing x with
        | nil => exact .refl _
        | cons first l ih => exact (reportFault_read first _ _ _ x k).trans (ih _)
      refine ⟨fun k => ((converted _).heads k).trans (reported _ _ k), ?_⟩
      · refine ((Grown.of_same (fun k => ?_) fun k => ?_).trans (Grown.foldl _ (fun x k => reportFault_grown k _ _ _ x) _ _)).mono ?_
        · cases k <;> rfl
        · cases k <;> rfl
        · have := presentHeads_length s first
          omega
  · exact converted _

theorem readUpdate_read (i : UpdateInput) (o : UpdateOrder) (s : State) : UpdateRead s (readUpdate i o s) := by
  obtain ⟨heads, grown⟩ := convertGantry_read o.first i.gantry s
  have queue (k : Head) : ((readUpdate i o s).head k).log = ((convertGantry o.first i.gantry s).head k).log := by
    simp [readUpdate]
  refine ⟨fun k => (heads k).trans ⟨?_, ?_⟩, grown.then_same (by simp [readUpdate]) fun k => by rw [queue]⟩
  · unfold readUpdate
    cases k
    · rw [show Head.a = Head.b.other from rfl, onTravel_other, Head.other, onTravel_self]
      simp
    · rw [onTravel_self]
      rw [show Head.b = Head.a.other from rfl, onTravel_other]
      simp
  · rw [queue]

theorem UpdateRead.headState {s t : State} (r : UpdateRead s t) (k : Head) : t.headState k = s.headState k :=
  congrArg Sequencer.state (r.heads k).seq

theorem UpdateRead.demand {s t : State} (r : UpdateRead s t) (k : Head) : t.demand k = s.demand k :=
  congrArg HeadState.demand (r.headState k)

theorem UpdateRead.anyHold {s t : State} (r : UpdateRead s t) : t.anyHold = s.anyHold := by
  simp [State.anyHold, r.demand]

theorem convertGantry_gov (first : Head) (i : EncoderReading) (s : State) : (convertGantry first i s).gov = s.gov := by
  have kept (l : List Head) (n : ChannelName) (kind : FaultKind) (c : Channel) (x : State) :
      (l.foldl (fun acc h => reportFault h n kind c acc) x).gov = x.gov := by
    induction l generalizing x with
    | nil => rfl
    | cons k l ih => exact (ih _).trans (by simp [reportFault])
  unfold convertGantry
  dsimp only
  split
  · split
    · rfl
    · exact kept ..
  · rfl

/-- The bed ends are those of the loaded sets, which an update leaves (R98). -/
theorem UpdateRead.effectiveBedEnd {s t : State} (r : UpdateRead s t) : t.effectiveBedEnd = s.effectiveBedEnd := by
  have profiles (k : Head) : (t.head k).profiles = (s.head k).profiles := (r.heads k).profiles
  have ofA := profiles .a
  have ofB := profiles .b
  simp only [State.head] at ofA ofB
  simp [State.effectiveBedEnd, ofA, ofB]

theorem readUpdate_gov (i : UpdateInput) (o : UpdateOrder) (s : State) :
    (readUpdate i o s).gov = { s.gov with travelReady := i.travelReady, bedEnd := s.effectiveBedEnd } := by
  rw [← (convertGantry_read o.first i.gantry s).effectiveBedEnd, ← convertGantry_gov o.first i.gantry s]
  simp [readUpdate]

/-! ## The command of an update that stands still (R87, R90, R99) -/

/-- Under a HOLD the gantry is commanded to stand, and the direction is kept (R87). -/
theorem moveGovernor_hold {s : State} (hh : s.anyHold = true) :
    s.moveGovernor.speed = 0 ∧ s.moveGovernor.direction = s.gov.direction := by
  have wanted (a : Nat) : s.wantedTravel a = (0, s.gov.direction) := if_pos hh
  have target (a : Nat) : s.targetSpeed a = 0 := by
    by_contra ht
    exact (targetSpeed_pos ht).2.2 (by rw [wanted])
  unfold State.moveGovernor
  simp [wanted, target, rampSpeed_zero]

/-- At or beyond the bed end no forward travel is commanded (R99). -/
theorem moveGovernor_atBedEnd {s : State} (hw : (s.wantedTravel s.acceleration).2 = .forward) (hb : s.atBedEnd = true) :
    s.moveGovernor.speed = 0 := by
  have target : s.targetSpeed s.acceleration = 0 := by
    unfold State.targetSpeed
    dsimp only
    rw [if_pos hw]
    split
    · rfl
    · unfold State.bedLimit State.atBedEnd at *
      cases hg : s.gov.bedEnd with
      | none => simp [hg] at hb
      | some e =>
        have beyond : (e : Int) - s.gantry.effective ≤ 0 := by
          have : (e : Int) ≤ s.gantry.effective := by simpa [hg] using hb
          omega
        simp [brakingSpeed, beyond]
  unfold State.moveGovernor
  simp only [target, rampSpeed_zero]
  split <;> rfl

/-- Without a HOLD a head in WELD or PAUSE wants forward travel (R87). -/
theorem wantedTravel_forward {s : State} {h : Head} (a : Nat) (hw : (s.headState h).welding = true)
    (hh : s.anyHold = true → s.gov.direction = .forward) : (s.wantedTravel a).2 = .forward := by
  have advance : s.demand h = .advance := by
    unfold State.demand
    revert hw
    cases s.headState h <;> decide
  unfold State.wantedTravel
  split
  · next c => exact hh c
  · have some : ∃ v, s.leastOf .advance (fun u => u.travel.permitted) = some v := by
      unfold State.leastOf State.where
      cases h
      · rw [if_pos advance]
        split <;> simp [least]
      · rw [if_pos advance]
        split <;> simp [least]
    obtain ⟨v, e⟩ := some
    rw [e]

/-! ## One condition of a governor update (R94, R99, R102 to R104) -/

theorem pauseBegin_head_originTaken (h k : Head) (s : State) :
    ((pauseBegin h s).head k).seq.originTaken = (s.head k).seq.originTaken := by
  unfold pauseBegin
  split
  · rcases head_cases h k with rfl | rfl <;> simp
  · rfl

theorem setHeadState_head_originTaken (h k : Head) (st : HeadState) (s : State) :
    ((setHeadState h st s).head k).seq.originTaken = (s.head k).seq.originTaken := by
  rcases head_cases h k with rfl | rfl
  · rw [setHeadState_self]
  · unfold setHeadState takeHold
    dsimp only
    split
    · rw [pauseBegin_head_originTaken]
      simp
    · simp

/-- The head a condition is one of. -/
def actHead : UpdateAct → Head
  | .pause h | .bedEnd h | .arrival h => h

/-- A head's pause-begin, as far as the conditions of an update look at it (R102). -/
structure Paused (h : Head) (s t : State) : Prop where
  found : s.headState h = .weld
  seq : (t.head h).seq = { (s.head h).seq with state := .pause }
  plan : (t.head h).plan = (s.head h).plan
  timer : (t.head h).travel.pauseTimer = (s.head h).travelSet.pauseAllowance * 100
  elapsed : (t.head h).travel.pauseElapsed = 0
  counters : s.present h = true → ∃ n, (t.head h).log.counters =
    { (s.head h).log.counters with pauses := bump (s.head h).log.counters.pauses, recordsLost := n }

theorem PauseBegun.paused {h : Head} {st : HeadState} {s t : State} (b : PauseBegun h st s (t.head h))
    (hw : s.headState h = .weld) : Paused h s t := by
  obtain ⟨named, -, e⟩ := b
  refine ⟨hw, by rw [e], by rw [e], by rw [e], by rw [e], fun hp => ?_⟩
  obtain ⟨n, c⟩ := logCounted_counters (.pauseBegin named (s.toolStation h) st)
    (fun c => { c with pauses := bump c.pauses }) hp
  exact ⟨n, by rw [e, c]⟩

theorem pauseBegin_paused {h : Head} {s : State} (hw : s.headState h = .weld) : Paused h s (pauseBegin h s) :=
  (pauseBegin_begun h rfl rfl rfl rfl hw).paused hw

/-- What a condition at a head leaves, and what it may bring beside it: the output is at rest or as it was, and the other
head is as it was or begins its pause (R86, R102). -/
structure Raised (h : Head) (s t : State) : Prop where
  gantry : t.gantry = s.gantry
  origin : ∀ k, (t.head k).seq.originTaken = (s.head k).seq.originTaken
  gov : s.gov.owned = true → t.gov = s.gov ∨ t.gov = { s.gov with speed := 0 }
  grown : Grown 2 s t
  beside : t.head h.other = s.head h.other ∨ Paused h.other s t

theorem Raised.refl (h : Head) (s : State) : Raised h s s :=
  ⟨rfl, fun _ => rfl, fun _ => .inl rfl, (Grown.refl s).mono (by omega), .inl rfl⟩

/-- What changes nothing that a condition rests on but the head itself. -/
theorem Raised.of_self {h : Head} {s t : State} (hz : t.gantry = s.gantry)
    (ho : (t.head h).seq.originTaken = (s.head h).seq.originTaken) (hg : t.gov = s.gov) (hr : Grown 2 s t)
    (hb : t.head h.other = s.head h.other) : Raised h s t :=
  ⟨hz, fun k => by rcases head_cases h k with rfl | rfl; exacts [ho, by rw [hb]], fun _ => .inl hg, hr, .inl hb⟩

theorem Governor.taken_of_owned {g : Governor} (ho : g.owned = true) : g.taken = g := if_pos ho

/-- A change to HOLD, seen beside the head. -/
theorem HoldTaken.gov_or {h : Head} {st : HeadState} {s t : State} (a : HoldTaken h st s t) (ho : s.gov.owned = true) :
    t.gov = s.gov ∨ t.gov = { s.gov with speed := 0 } := by
  unfold HoldTaken at a
  rw [Governor.taken_of_owned ho] at a
  split at a
  · exact .inl a.1
  · exact .inr a.1

theorem HoldTaken.beside {h : Head} {st : HeadState} {s t : State} (a : HoldTaken h st s t) :
    t.head h.other = s.head h.other ∨ Paused h.other s t := by
  unfold HoldTaken at a
  split at a
  · exact .inl a.2
  · obtain ⟨-, other⟩ := a
    split at other
    · next hw => exact .inr (other.paused hw)
    · exact .inl other

theorem interruptHead_raised (h : Head) (c : Cause) (s : State) : Raised h s (interruptHead h c s) := by
  cases ha : c.actsIn (s.headState h) with
  | false =>
    rw [interruptHead_of_not_acts ha]
    exact .refl h s
  | true =>
    obtain ⟨-, -, held, -⟩ := interruptHead_interrupted h c s ha
    refine ⟨by simp, fun k => ?_, held.gov_or, interruptHead_grown h c s, held.beside⟩
    rw [interruptHead_of_acts ha]
    rcases head_cases h k with rfl | rfl <;> simp [interruptEntry, setHeadState_head_originTaken]

theorem enterSpinup_grown (h : Head) (s : State) : Grown 1 s (enterSpinup h s) := by
  refine (setHeadState_grown ..).after_same (by simp) fun k => ?_
  rcases head_cases h k with rfl | rfl <;> simp

theorem enterSpinup_raised (h : Head) (s : State) : Raised h s (enterSpinup h s) := by
  have held : HoldTaken h .spinup s (enterSpinup h s) :=
    setHeadState_holdTaken h rfl (by simp) (by simp [State.headState, followSpindle]; split <;> simp) (by simp) (by simp)
      (by simp) (by simp)
  refine ⟨by simp [enterSpinup], fun k => ?_, held.gov_or, (enterSpinup_grown h s).mono (by omega), held.beside⟩
  unfold enterSpinup
  rw [setHeadState_head_originTaken]
  unfold followSpindle
  split <;> rcases head_cases h k with rfl | rfl <;> simp

theorem endPause_raised (h : Head) (s : State) (ho : s.gov.owned = true) : Raised h s (endPause h s) := by
  have gov : (endPause h s).gov = s.gov := by
    unfold endPause
    rw [setHeadState_gov_eq, if_neg (by simp [HeadState.demand]), if_pos (.inl rfl)]
    simp [Governor.taken_of_owned ho]
  have grown : Grown 2 s (endPause h s) :=
    (reportInForce_grown h (fun g => .pauseEnd g (s.toolStation h) (s.head h).travel.pauseElapsed) s).trans
      (setHeadState_grown h .weld _)
  refine .of_self (by simp [endPause]) ?_ gov grown ?_
  · simp [endPause, setHeadState_head_originTaken]
  · rw [endPause, setHeadState_other _ _ _ (by simp [HeadState.demand]), reportInForce_other]

theorem pauseBegin_raised (h : Head) (s : State) : Raised h s (pauseBegin h s) :=
  .of_self (by simp) (pauseBegin_head_originTaken ..) (by simp) ((pauseBegin_grown h s).mono (by omega)) (by simp)

theorem runPause_raised (h : Head) (s : State) : Raised h s (runPause h s) :=
  .of_self (by simp [runPause]) (by simp [runPause]) (by simp [runPause])
    ((Grown.of_same (by simp [runPause]) (by simp [runPause])).mono (by omega)) (by simp [runPause])

theorem Raised.after_runPause {h : Head} {s t : State} (r : Raised h (runPause h s) t) : Raised h s t := by
  obtain ⟨gantry, origin, gov, grown, beside⟩ := r
  refine ⟨by simpa [runPause] using gantry, by simpa [runPause] using origin, by simpa [runPause] using gov,
    grown.after_same (by simp [runPause]) (by simp [runPause]), ?_⟩
  have other : (runPause h s).head h.other = s.head h.other := by simp [runPause]
  rcases beside with same | ⟨found, seq, plan, timer, elapsed, counters⟩
  · exact .inl (same.trans other)
  · rw [State.headState, other] at found
    rw [other] at seq plan timer counters
    exact .inr ⟨found, seq, plan, timer, elapsed, by simpa [runPause] using counters⟩

theorem pauseWork_raised (h : Head) (found : HeadState) (hold split : Bool) (s : State) (ho : s.gov.owned = true) :
    Raised h s (pauseWork h found hold split s) := by
  unfold pauseWork
  dsimp only
  split
  · split
    · split
      · exact runPause_raised h s
      · exact (interruptHead_raised ..).after_runPause
    · exact endPause_raised h s ho
  · split
    · exact pauseBegin_raised h s
    · exact .refl h s

theorem updateAct_raised (u : State) (stops : Bool) (o : UpdateOrder) (s : State) (a : UpdateAct)
    (ho : s.gov.owned = true) : Raised (actHead a) s (updateAct u stops o s a) := by
  cases a with
  | pause h => exact pauseWork_raised h _ _ _ s ho
  | bedEnd h =>
    show Raised h s (bedEndWork h (u.headState h) stops s)
    unfold bedEndWork
    split
    · exact interruptHead_raised ..
    · exact .refl h s
  | arrival h =>
    show Raised h s (if _ then enterSpinup h s else s)
    split
    · exact enterSpinup_raised h s
    · exact .refl h s

/-! ### The conditions of an update, one after the other (log 2) -/

/-- Each condition comes once at each head. -/
theorem mem_updateActs (o : UpdateOrder) (a : UpdateAct) : a ∈ updateActs o := by
  refine (mem_firstOccurrences ..).mpr ⟨List.mem_append_right _ ?_, by simp⟩
  rcases a with h | h | h <;> cases h <;> decide

theorem updateActs_nodup (o : UpdateOrder) : (updateActs o).Nodup := firstOccurrences_nodup ..

theorem updateActs_length (o : UpdateOrder) : (updateActs o).length ≤ 6 := by
  have all : updateActs o ⊆ [.arrival .a, .arrival .b, .bedEnd .a, .bedEnd .b, .pause .a, .pause .b] := fun a _ => by
    rcases a with h | h | h <;> cases h <;> decide
  exact ((updateActs_nodup o).subperm all).length_le

/-- A state between the conditions of an update that began at `s`, with those of `l` still to come. -/
structure Updating (s : State) (l : List UpdateAct) (x : State) : Prop where
  gantry : x.gantry = s.gantry
  origin : ∀ k, (x.head k).seq.originTaken = (s.head k).seq.originTaken
  gov : x.gov = s.gov ∨ x.gov = { s.gov with speed := 0 }
  grown : ∃ n, Grown n s x ∧ n + 2 * l.length ≤ 12
  nodup : l.Nodup

section
variable {s x : State} {l : List UpdateAct}

theorem Updating.owned (w : Updating s l x) (ho : s.gov.owned = true) : x.gov.owned = true := by
  rcases w.gov with e | e <;> simpa [e] using ho

theorem Updating.atRest (w : Updating s l x) (hz : s.gov.speed = 0) : x.gov.speed = 0 := by
  rcases w.gov with e | e <;> simp [e, hz]

theorem Updating.direction (w : Updating s l x) : x.gov.direction = s.gov.direction := by
  rcases w.gov with e | e <;> simp [e]

theorem Updating.toolStation (w : Updating s l x) (k : Head) : x.toolStation k = s.toolStation k := by
  simp [State.toolStation, w.gantry, w.origin]

theorem Updating.present (w : Updating s l x) (k : Head) : x.present k = s.present k := by
  obtain ⟨n, grown, -⟩ := w.grown
  exact grown.present k

theorem Updating.room (w : Updating s l x) : x.commonUsed ≤ s.commonUsed + 12 := by
  obtain ⟨n, grown, hn⟩ := w.grown
  have := grown.common
  omega

theorem Updating.next {a : UpdateAct} {t : State} (w : Updating s (a :: l) x) (ho : s.gov.owned = true)
    (r : Raised (actHead a) x t) : Updating s l t := by
  obtain ⟨gantry, origin, gov, grown, -⟩ := r
  obtain ⟨n, before, hn⟩ := w.grown
  refine ⟨gantry.trans w.gantry, fun k => (origin k).trans (w.origin k), ?_,
    ⟨n + 2, before.trans grown, by rw [List.length_cons] at hn; omega⟩, w.nodup.of_cons⟩
  rcases gov (w.owned ho) with e | e <;> rcases w.gov with f | f <;> simp [e, f]

theorem Updating.start (s : State) (o : UpdateOrder) : Updating s (updateActs o) s :=
  ⟨rfl, fun _ => rfl, .inl rfl, ⟨0, .refl s, by have := updateActs_length o; omega⟩, updateActs_nodup o⟩

end

/-- What holds of a head and of the conditions still to come, through the conditions of an update: the head's own, and
those of the other head. -/
theorem updateActs_settle (u : State) (stops : Bool) (o : UpdateOrder) {s : State} (ho : s.gov.owned = true) (h : Head)
    {P : List UpdateAct → HeadUnit → Prop} (start : P (updateActs o) (s.head h))
    (own : ∀ a l x, actHead a = h → Updating s (a :: l) x → P (a :: l) (x.head h) →
      P l ((updateAct u stops o x a).head h))
    (beside : ∀ a l x, actHead a = h.other → Updating s (a :: l) x → P (a :: l) (x.head h) →
      P l ((updateAct u stops o x a).head h)) :
    Updating s [] ((updateActs o).foldl (updateAct u stops o) s) ∧
      P [] (((updateActs o).foldl (updateAct u stops o) s).head h) := by
  have run (l : List UpdateAct) : ∀ x, Updating s l x → P l (x.head h) →
      Updating s [] (l.foldl (updateAct u stops o) x) ∧ P [] ((l.foldl (updateAct u stops o) x).head h) := by
    induction l with
    | nil => exact fun x w p => ⟨w, p⟩
    | cons a l ih =>
      intro x w p
      refine ih _ (w.next ho (updateAct_raised u stops o x a (w.owned ho))) ?_
      rcases head_cases h (actHead a) with e | e
      · exact own a l x e w p
      · exact beside a l x e w p
  exact run _ s (.start s o) start

/-! ## Pauses at a governor update (R99, R102 to R104) -/

theorem Interrupted.counters {h : Head} {c : Cause} {s t : State} (i : Interrupted h c s t) (hp : s.present h = true) :
    ∃ n, (t.head h).log.counters = interruptCount c { (s.head h).log.counters with recordsLost := n } := by
  obtain ⟨-, -, -, named, -, e⟩ := i
  obtain ⟨n, k⟩ := logCounted_counters (s := s.onHead h.other fun _ => t.head h.other)
    (.interrupt c (s.toolStation h) named (s.head h).seq.kind (s.headState h) (s.head h).seq.depth)
    (interruptCount c) (by simpa using hp)
  exact ⟨n, by rw [e, k, onHead_of_other]⟩

theorem Interrupted.seq {h : Head} {c : Cause} {s t : State} (i : Interrupted h c s t) :
    (t.head h).seq = { (s.head h).seq with
      state := .interrupting, raising := false, cause := some c, interruptStation := s.toolStation h, rampAcc := 499 } := by
  obtain ⟨-, -, -, named, -, e⟩ := i
  rw [e]

theorem Interrupted.travel {h : Head} {c : Cause} {s t : State} (i : Interrupted h c s t) :
    (t.head h).travel = ⟨0, 0, 0⟩ := by
  obtain ⟨-, -, -, named, -, e⟩ := i
  rw [e]

/-- The conditions of an update that has read the state `u`, `stops` telling whether the bed end stops forward travel. -/
def conditions (o : UpdateOrder) (stops : Bool) (u : State) : State :=
  (updateActs o).foldl (updateAct u stops o) (u.onGov fun _ => u.moveGovernor)

/-- An update of an owned output: its reading, the move of the command, its conditions. -/
theorem updateGovernor_owned (i : UpdateInput) (o : UpdateOrder) {s : State} (ho : s.gov.owned = true) :
    updateGovernor i o s = conditions o (((readUpdate i o s).wantedTravel (readUpdate i o s).acceleration).2 == .forward &&
      (readUpdate i o s).atBedEnd) (readUpdate i o s) := by
  have owned : (readUpdate i o s).gov.owned = true := by rw [readUpdate_gov]; exact ho
  unfold updateGovernor
  dsimp only
  rw [if_pos owned]
  rfl

theorem governed_owned {u : State} (ho : u.gov.owned = true) : (u.onGov fun _ => u.moveGovernor).gov.owned = true :=
  (moveGovernor_owned u).trans ho

section
variable {u x : State} {o : UpdateOrder} {h : Head} {stops : Bool}

/-- BED_END and an arrival are no conditions of a head in PAUSE or WELD short of the bed end. -/
theorem updateAct_own {a : UpdateAct} (ha : actHead a = h) (hn : a ≠ .pause h) (hr : u.reached h = false) :
    updateAct u false o x a = x := by
  subst ha
  cases a with
  | pause k => exact absurd rfl hn
  | bedEnd k => exact if_neg (by simp)
  | arrival k => exact if_neg (by simp [show u.reached k = false from hr])

theorem headState_of_same {s t : State} (e : t.head h = s.head h) : t.headState h = s.headState h := by
  rw [State.headState, e, ← State.headState]

theorem not_reached (hw : (u.headState h).demand = .advance) : u.reached h = false := by
  simp [State.reached, State.demand, hw]

/-- A head found in PAUSE, short of the bed end: its own pause coordination, once, and nothing else of an update changes
it. -/
theorem pause_settles {Done : HeadUnit → Prop} (ho : u.gov.owned = true) (hp : u.headState h = .pause)
    (own : ∀ l x, Updating (u.onGov fun _ => u.moveGovernor) l x → x.head h = u.head h →
      Done ((pauseWork h .pause u.anyHold o.split x).head h))
    (beside : ∀ a l x, actHead a = h.other → Updating (u.onGov fun _ => u.moveGovernor) l x →
      (x.head h = u.head h ∨ Done (x.head h)) → (updateAct u false o x a).head h = x.head h) :
    Done ((conditions o false u).head h) := by
  have idle : u.reached h = false := not_reached (by rw [hp]; rfl)
  have settled := (updateActs_settle u false o (governed_owned ho) h
    (P := fun l v => (.pause h ∈ l ∧ v = u.head h) ∨ (.pause h ∉ l ∧ Done v))
    (.inl ⟨mem_updateActs .., by simp⟩) ?_ ?_).2
  · exact (settled.resolve_left fun p => List.not_mem_nil p.1).2
  · intro a l x ha w p
    by_cases hn : a = .pause h
    · subst hn
      have once := w.nodup.notMem
      rcases p with ⟨-, same⟩ | ⟨gone, -⟩
      · exact .inr ⟨once, by simpa [updateAct, hp] using own _ x w same⟩
      · simp at gone
    · rw [updateAct_own ha hn idle]
      rcases p with ⟨mem, same⟩ | ⟨gone, done⟩
      · exact .inl ⟨(List.mem_cons.mp mem).resolve_left (Ne.symm hn), same⟩
      · exact .inr ⟨fun mem => gone (List.mem_cons_of_mem _ mem), done⟩
  · intro a l x ha w p
    have hn : a ≠ .pause h := by
      rintro rfl
      cases h <;> cases ha
    rw [beside a _ x ha w (p.imp And.right And.right)]
    rcases p with ⟨mem, same⟩ | ⟨gone, done⟩
    · exact .inl ⟨(List.mem_cons.mp mem).resolve_left (Ne.symm hn), same⟩
    · exact .inr ⟨fun mem => gone (List.mem_cons_of_mem _ mem), done⟩

/-- The other head's conditions leave a head that is not in WELD. -/
theorem updateAct_beside {a : UpdateAct} (ha : actHead a = h.other) (ho : x.gov.owned = true) (hw : x.headState h ≠ .weld) :
    (updateAct u stops o x a).head h = x.head h := by
  have raised := (updateAct_raised u stops o x a ho).beside
  rw [ha, other_other] at raised
  exact raised.resolve_right fun p => hw p.found

theorem pauseWork_hold {split : Bool} (hp : x.headState h = .pause) : pauseWork h .pause true split x =
    if split = true ∨ ((runPause h x).head h).travel.pauseTimer ≠ 0 then runPause h x
    else interruptHead h .pauseLimit (runPause h x) := by
  unfold pauseWork
  dsimp only
  rw [if_pos ⟨rfl, hp⟩, if_pos rfl]

/-- A pause under a HOLD with time left runs down and stays (R103). -/
theorem pause_runs (ho : u.gov.owned = true) (hp : u.headState h = .pause) (hh : u.anyHold = true)
    (ht : o.split = true ∨ 10 < (u.head h).travel.pauseTimer) :
    (conditions o false u).headState h = .pause ∧
      ((conditions o false u).head h).travel.pauseTimer = (u.head h).travel.pauseTimer - 10 ∧
      ((conditions o false u).head h).travel.pauseElapsed = (u.head h).travel.pauseElapsed + 10 := by
  refine pause_settles (Done := fun v => v.seq.state = .pause ∧ v.travel.pauseTimer = (u.head h).travel.pauseTimer - 10 ∧
    v.travel.pauseElapsed = (u.head h).travel.pauseElapsed + 10) ho hp (fun l x w same => ?_) fun a l x ha w p => ?_
  · rw [hh, pauseWork_hold ((headState_of_same same).trans hp), if_pos]
    · refine ⟨?_, ?_, ?_⟩ <;> simp [runPause, same]
      exact hp
    · refine ht.imp id fun ht => ?_
      simp [runPause, same]
      omega
  · refine updateAct_beside ha (w.owned (governed_owned ho)) ?_
    rcases p with same | done
    · rw [headState_of_same same, hp]
      decide
    · rw [State.headState, done.1]
      decide

/-- A pause under a HOLD that runs out is interrupted with PAUSE_LIMIT (R103). -/
theorem pause_runsOut (ho : u.gov.owned = true) (hp : u.headState h = .pause) (hh : u.anyHold = true)
    (hs : o.split = false) (ht : (u.head h).travel.pauseTimer ≤ 10) (hb : u.present h = true) :
    (conditions o false u).headState h = .interrupting ∧
      ((conditions o false u).head h).seq.cause = some .pauseLimit ∧
      ((conditions o false u).head h).log.counters.pauseLimitInterrupts =
        bump (u.head h).log.counters.pauseLimitInterrupts := by
  refine pause_settles (Done := fun v => v.seq.state = .interrupting ∧ v.seq.cause = some .pauseLimit ∧
    v.log.counters.pauseLimitInterrupts = bump (u.head h).log.counters.pauseLimitInterrupts) ho hp
    (fun l x w same => ?_) fun a l x ha w p => ?_
  · have found : x.headState h = .pause := (headState_of_same same).trans hp
    have interrupted := interruptHead_interrupted h .pauseLimit (runPause h x) (by simp [runPause, found, Cause.actsIn])
    obtain ⟨n, counters⟩ := interrupted.counters (by simpa [runPause] using (w.present h).trans (by simpa using hb))
    rw [hh, pauseWork_hold found, if_neg (by simp [hs, runPause, same]; omega)]
    refine ⟨by rw [interrupted.seq], by rw [interrupted.seq], ?_⟩
    rw [counters]
    simp [interruptCount, runPause, same]
  · refine updateAct_beside ha (w.owned (governed_owned ho)) ?_
    rcases p with same | done
    · rw [headState_of_same same, hp]
      decide
    · rw [State.headState, done.1]
      decide

/-- A head whose pause has just begun (R102). -/
structure FreshPause (v w : HeadUnit) : Prop where
  state : w.seq.state = .pause
  timer : w.travel.pauseTimer = v.travelSet.pauseAllowance * 100
  elapsed : w.travel.pauseElapsed = 0
  pauses : w.log.counters.pauses = bump v.log.counters.pauses

theorem Paused.fresh {t : State} (p : Paused h x t) (hb : x.present h = true) : FreshPause (x.head h) (t.head h) := by
  obtain ⟨-, seq, -, timer, elapsed, counters⟩ := p
  obtain ⟨n, counters⟩ := counters hb
  exact ⟨by rw [seq], timer, elapsed, by rw [counters]⟩

/-- A head found in WELD pauses under a HOLD, whichever condition brings its pause-begin (R102). -/
theorem weld_pauses (ho : u.gov.owned = true) (hw : u.headState h = .weld) (hh : u.anyHold = true)
    (hb : u.present h = true) :
    FreshPause (u.head h) ((conditions o false u).head h) := by
  have settled := (updateActs_settle u false o (governed_owned ho) h
    (P := fun l v => (.pause h ∈ l ∧ v = u.head h) ∨ FreshPause (u.head h) v) (.inl ⟨mem_updateActs .., by simp⟩) ?_ ?_).2
  · exact settled.resolve_left fun p => List.not_mem_nil p.1
  · intro a l x ha w p
    have there : x.present h = true := (w.present h).trans (by simpa using hb)
    by_cases hn : a = .pause h
    · subst hn
      have coordinates : updateAct u false o x (.pause h) = pauseBegin h x := by
        simp [updateAct, pauseWork, hw, hh]
      rw [coordinates]
      rcases p with ⟨-, same⟩ | done
      · exact .inr (same ▸ (pauseBegin_paused ((headState_of_same same).trans hw)).fresh there)
      · have stays : pauseBegin h x = x := if_neg (by rw [State.headState, done.state]; decide)
        exact .inr (by rwa [stays])
    · rw [updateAct_own ha hn (not_reached (by rw [hw]; rfl))]
      exact p.imp (fun q => ⟨(List.mem_cons.mp q.1).resolve_left (Ne.symm hn), q.2⟩) id
  · intro a l x ha w p
    have hn : a ≠ .pause h := by
      rintro rfl
      cases h <;> cases ha
    have raised := (updateAct_raised u false o x a (w.owned (governed_owned ho))).beside
    rw [ha, other_other] at raised
    rcases p with ⟨mem, same⟩ | done
    · rcases raised with e | paused
      · exact .inl ⟨(List.mem_cons.mp mem).resolve_left (Ne.symm hn), e.trans same⟩
      · exact .inr (same ▸ paused.fresh ((w.present h).trans (by simpa using hb)))
    · rcases raised with e | paused
      · exact .inr (by rwa [e])
      · have found := paused.found
        rw [State.headState, done.state] at found
        cases found

/-- A record that names the segment in force is stored where a common slot is free. -/
theorem reportInForce_recorded (b : SegmentRef → RecordBody) (hp : x.present h = true) (hr : x.commonUsed < 960) :
    ∃ named, NamesInForce x h named ∧ Recorded h (b named) (reportInForce h b x) := by
  obtain ⟨named, n, hn, e⟩ := reportInForce_eq h b x
  exact ⟨named, hn, by rw [e]; exact createRecord_recorded _ _ (by simpa using hp) (by simpa using hr)⟩

/-- Without a HOLD, short of the bed end and with no approach at it, a head's conditions leave the other head. -/
theorem updateAct_calm {a : UpdateAct} (ha : actHead a = h.other) (hh : u.anyHold = false)
    (hr : u.reached h.other = false) : (updateAct u false o x a).head h = x.head h := by
  by_cases hn : a = .pause h.other
  · subst hn
    have ended : (endPause h.other x).head h = x.head h := by
      have e := setHeadState_other h.other .weld (reportInForce h.other
        (fun g => .pauseEnd g (x.toolStation h.other) (x.head h.other).travel.pauseElapsed) x)
        (by simp [HeadState.demand])
      have r := reportInForce_other h.other
        (fun g => .pauseEnd g (x.toolStation h.other) (x.head h.other).travel.pauseElapsed) x
      rw [other_other] at e r
      exact e.trans r
    show (pauseWork h.other (u.headState h.other) u.anyHold o.split x).head h = x.head h
    unfold pauseWork
    rw [hh]
    simp only [Bool.false_eq_true, if_false, and_false]
    split
    · exact ended
    · rfl
  · rw [updateAct_own ha hn hr]

/-- Without a HOLD, short of the bed end, a pause ends (R104). -/
theorem pause_ends (ho : u.gov.owned = true) (hp : u.headState h = .pause) (hh : u.anyHold = false)
    (hr : u.demand h.other ≠ .approach) (hb : u.present h = true) :
    (conditions o false u).headState h = .weld ∧ ((conditions o false u).head h).travel.pauseTimer = 0 ∧
      ((conditions o false u).head h).travel.pauseElapsed = 0 ∧
      (u.commonUsed + 12 < 960 → ∃ named, NamesInForce u h named ∧
        Recorded h (.pauseEnd named ((conditions o false u).toolStation h) (u.head h).travel.pauseElapsed)
          (conditions o false u)) := by
  have stands : (conditions o false u).toolStation h = u.toolStation h := by
    have w := (updateActs_settle u false o (governed_owned ho) h (P := fun _ _ => True) trivial
      (fun _ _ _ _ _ _ => trivial) fun _ _ _ _ _ _ => trivial).1
    exact (w.toolStation h).trans (onGov_toolStation ..)
  rw [stands]
  refine pause_settles (Done := fun v => v.seq.state = .weld ∧ v.travel.pauseTimer = 0 ∧ v.travel.pauseElapsed = 0 ∧
    (u.commonUsed + 12 < 960 → ∃ named, NamesInForce u h named ∧
      ∃ r ∈ v.log.queue, r.body = .pauseEnd named (u.toolStation h) (u.head h).travel.pauseElapsed)) ho hp
    (fun l x w same => ?_) fun a l x ha w p => updateAct_calm ha hh (by simp [State.reached, hr])
  have coordinates : pauseWork h .pause u.anyHold o.split x = endPause h x := by
    simp [pauseWork, hh, (headState_of_same same).trans hp]
  rw [coordinates]
  refine ⟨by simp [endPause, setHeadState_self], by simp [endPause, setHeadState_self, HeadTravel.entering],
    by simp [endPause, setHeadState_self, HeadTravel.entering], fun room => ?_⟩
  have slots := w.room
  obtain ⟨named, names, recorded⟩ := reportInForce_recorded (h := h)
    (fun g => .pauseEnd g (x.toolStation h) (x.head h).travel.pauseElapsed)
    ((w.present h).trans (by simpa using hb)) (by rw [onGov_commonUsed] at slots; omega)
  refine ⟨named, fun g hg => names g (by rw [same]; exact hg), ?_⟩
  have kept : Recorded h _ (endPause h x) := recorded.grown (setHeadState_grown h .weld _)
  rw [show x.toolStation h = u.toolStation h by simpa using w.toolStation h, same] at kept
  exact kept

/-! ### The bed end (R99) -/

/-- A welding head that no condition of the update has interrupted yet. -/
structure StillWelding (v w : HeadUnit) : Prop where
  state : w.seq.state = .weld ∨ w.seq.state = .pause
  kind : w.seq.kind = v.seq.kind
  depth : w.seq.depth = v.seq.depth
  plan : w.plan = v.plan
  count : w.log.counters.seamsInterrupted = v.log.counters.seamsInterrupted

/-- A head that the bed end, or a pause that ran out, has interrupted at an update that read `u`. -/
structure BedEndTaken (h : Head) (split : Bool) (u : State) (w : HeadUnit) : Prop where
  state : w.seq.state = .interrupting
  station : w.seq.interruptStation = u.toolStation h
  travel : w.travel = ⟨0, 0, 0⟩
  count : w.log.counters.seamsInterrupted = bump (u.head h).log.counters.seamsInterrupted
  cause : w.seq.cause = some .bedEnd ∨ w.seq.cause = some .pauseLimit ∧ u.headState h = .pause ∧ u.anyHold = true ∧
    (u.head h).travel.pauseTimer ≤ 10 ∧ split = false
  record : u.commonUsed + 14 < 960 → ∃ cause named left, w.seq.cause = some cause ∧ NamesInForce u h named ∧
    (left = .weld ∨ left = .pause) ∧
    ∃ r ∈ w.log.queue, r.body = .interrupt cause (u.toolStation h) named (u.head h).seq.kind left (u.head h).seq.depth

theorem StillWelding.interrupted {c : Cause} {split : Bool} (v : StillWelding (u.head h) (x.head h))
    (ha : c.actsIn (x.headState h) = true) (hb : x.present h = true) (hr : x.commonUsed ≤ u.commonUsed + 12)
    (hs : x.toolStation h = u.toolStation h)
    (hc : c = .bedEnd ∨ c = .pauseLimit ∧ u.headState h = .pause ∧ u.anyHold = true ∧
      (u.head h).travel.pauseTimer ≤ 10 ∧ split = false) :
    BedEndTaken h split u ((interruptHead h c x).head h) := by
  have interrupted := interruptHead_interrupted h c x ha
  have seq := interrupted.seq
  obtain ⟨n, counters⟩ := interrupted.counters hb
  refine ⟨by rw [seq], by rw [seq, hs], interrupted.travel, by rw [counters, interruptCount, v.count], ?_, fun room => ?_⟩
  · rw [seq]
    simpa using hc
  · obtain ⟨named, names, recorded⟩ := interruptHead_recorded hb ha (by omega)
    rw [hs, v.kind, v.depth] at recorded
    exact ⟨c, named, x.headState h, by rw [seq], fun g hg => names g (by rw [v.plan]; exact hg), v.state, recorded⟩

theorem welding_acts {c : Cause} (hc : c = .bedEnd ∨ c = .hostStop) {st : HeadState} (hs : st = .weld ∨ st = .pause) :
    c.actsIn st = true := by
  rcases hc with rfl | rfl <;> rcases hs with rfl | rfl <;> decide

theorem Paused.stillWelding {t : State} {v : HeadUnit} (p : Paused h x t) (w : StillWelding v (x.head h))
    (hb : x.present h = true) : StillWelding v (t.head h) := by
  obtain ⟨-, seq, plan, -, -, counters⟩ := p
  obtain ⟨n, counters⟩ := counters hb
  exact ⟨.inr (by rw [seq]), by rw [seq, w.kind], by rw [seq, w.depth], by rw [plan, w.plan], by rw [counters, w.count]⟩

theorem runPause_stillWelding {v : HeadUnit} (w : StillWelding v (x.head h)) :
    StillWelding v ((runPause h x).head h) := by
  obtain ⟨state, kind, depth, plan, count⟩ := w
  constructor <;> simpa [runPause]

theorem endPause_stillWelding {v : HeadUnit} (w : StillWelding v (x.head h)) :
    StillWelding v ((endPause h x).head h) := by
  obtain ⟨state, kind, depth, plan, count⟩ := w
  obtain ⟨named, n, -, e⟩ := reportInForce_eq h
    (fun g => .pauseEnd g (x.toolStation h) (x.head h).travel.pauseElapsed) x
  unfold endPause
  dsimp only
  rw [setHeadState_self, e]
  exact ⟨.inl rfl, by simpa, by simpa, by simpa, by simpa⟩

/-- A welding head's own pause coordination: it goes on welding, with its timer run down where it was in PAUSE, or its
pause runs out. -/
theorem pauseWork_stillWelding {l : List UpdateAct} (w : Updating (u.onGov fun _ => u.moveGovernor) (.pause h :: l) x)
    (hb : u.present h = true) (v : StillWelding (u.head h) (x.head h))
    (ht : u.headState h = .pause → (x.head h).travel.pauseTimer = (u.head h).travel.pauseTimer) :
    StillWelding (u.head h) ((pauseWork h (u.headState h) u.anyHold o.split x).head h) ∨
      BedEndTaken h o.split u ((pauseWork h (u.headState h) u.anyHold o.split x).head h) := by
  have there : x.present h = true := (w.present h).trans (by simpa using hb)
  have ran := runPause_stillWelding v
  unfold pauseWork
  dsimp only
  split
  · next found =>
    split
    · next hold =>
      split
      · exact .inl ran
      · next out =>
        simp only [not_or, Bool.not_eq_true, not_not] at out
        obtain ⟨split, out⟩ := out
        have slots := w.room
        have timer : (u.head h).travel.pauseTimer ≤ 10 := by
          have := ht found.1
          simp [runPause] at out
          omega
        refine .inr (ran.interrupted ?_ (by simpa [runPause] using there) (by simpa [runPause] using slots)
          (by simpa [runPause] using w.toolStation h) (.inr ⟨rfl, found.1, hold, timer, split⟩))
        simp [runPause, found.2, Cause.actsIn]
    · exact .inl (endPause_stillWelding v)
  · split
    · by_cases hw : x.headState h = .weld
      · exact .inl ((pauseBegin_paused hw).stillWelding v there)
      · rw [pauseBegin, if_neg hw]
        exact .inl v
    · exact .inl v

/-- A head that has been interrupted takes no condition of its own any more. -/
theorem updateAct_interrupted {a : UpdateAct} (ha : actHead a = h) (hx : x.headState h = .interrupting)
    (hr : u.reached h = false) : updateAct u stops o x a = x := by
  subst ha
  cases a with
  | pause k =>
    have state : x.headState k = .interrupting := hx
    simp [updateAct, pauseWork, pauseBegin, state]
  | bedEnd k =>
    have state : x.headState k = .interrupting := hx
    simp [updateAct, bedEndWork, interruptHead, state, Cause.actsIn, HeadState.welding]
  | arrival k => exact if_neg (by simp [show u.reached k = false from hr])

/-- At or beyond the bed end with the direction FORWARD every head in WELD or PAUSE is interrupted (R99). -/
theorem bedEnd_interrupts (ho : u.gov.owned = true) (hw : u.headState h = .weld ∨ u.headState h = .pause)
    (hb : u.present h = true) : BedEndTaken h o.split u ((conditions o true u).head h) := by
  have idle : u.reached h = false := not_reached (by rcases hw with e | e <;> rw [e] <;> rfl)
  have settled := (updateActs_settle u true o (governed_owned ho) h
    (P := fun l v => (StillWelding (u.head h) v ∧ .bedEnd h ∈ l ∧ (u.headState h = .pause → .pause h ∈ l →
      v = u.head h)) ∨ BedEndTaken h o.split u v) ?_ ?_ ?_).2
  · exact settled.resolve_left fun p => List.not_mem_nil p.2.1
  · exact .inl ⟨⟨by simpa [State.headState] using hw, by simp, by simp, by simp, by simp⟩, mem_updateActs .., by simp⟩
  · intro a l x ha w p
    have there : x.present h = true := (w.present h).trans (by simpa using hb)
    subst ha
    cases a with
    | pause k =>
      rcases p with ⟨v, due, same⟩ | taken
      · refine (pauseWork_stillWelding w hb v fun found =>
          congrArg (·.travel.pauseTimer) (same found List.mem_cons_self)).imp (fun v => ⟨v, ?_, ?_⟩) id
        · exact (List.mem_cons.mp due).resolve_left (by simp)
        · exact fun _ mem => absurd mem w.nodup.notMem
      · rw [updateAct_interrupted rfl taken.state idle]
        exact .inr taken
    | bedEnd k =>
      rcases p with ⟨v, -, -⟩ | taken
      · have works : updateAct u true o x (.bedEnd k) = interruptHead k .bedEnd x :=
          if_pos (by rcases hw with e | e <;> simp [actHead, State.headState] at e ⊢ <;> simp [e, HeadState.welding])
        rw [works]
        exact .inr (v.interrupted (welding_acts (.inl rfl) v.state) there w.room (w.toolStation k) (.inl rfl))
      · rw [updateAct_interrupted rfl taken.state idle]
        exact .inr taken
    | arrival k =>
      have works : updateAct u true o x (.arrival k) = x := if_neg (by simp [show u.reached k = false from idle])
      rw [works]
      exact p.imp (fun p => ⟨p.1, by simpa using p.2.1, by simpa using p.2.2⟩) id
  · intro a l x ha w p
    have raised := (updateAct_raised u true o x a (w.owned (governed_owned ho))).beside
    rw [ha, other_other] at raised
    have hn (b : UpdateAct) (hb : actHead b = h) : b ∈ a :: l → b ∈ l := fun mem =>
      (List.mem_cons.mp mem).resolve_left fun e => by
        rw [e, ha] at hb
        cases h <;> cases hb
    rcases p with ⟨v, due, same⟩ | taken
    · rcases raised with e | paused
      · rw [e]
        exact .inl ⟨v, hn _ rfl due, fun found mem => same found (List.mem_cons_of_mem _ mem)⟩
      · refine .inl ⟨paused.stillWelding v ((w.present h).trans (by simpa using hb)), hn _ rfl due, fun found mem => ?_⟩
        have weld := paused.found
        rw [headState_of_same (same found (List.mem_cons_of_mem _ mem)), found] at weld
        cases weld
    · rcases raised with e | paused
      · rw [e]
        exact .inr taken
      · have found := paused.found
        rw [State.headState, taken.state] at found
        cases found

/-! ### The settlement -/

/-- No forward travel is stopped short of the bed end (R98, R99). -/
theorem not_atBedEnd (hb : ∀ e, u.gov.bedEnd = some e → u.gantry.effective < (e : Int)) (b : Bool) :
    (b && u.atBedEnd) = false := by
  unfold State.atBedEnd
  cases hg : u.gov.bedEnd with
  | none => simp
  | some e => simp [hb e hg]

theorem conditions_updating (ho : u.gov.owned = true) :
    Updating (u.onGov fun _ => u.moveGovernor) [] (conditions o stops u) :=
  (updateActs_settle u stops o (governed_owned ho) .a (P := fun _ _ => True) trivial
    (fun _ _ _ _ _ _ => trivial) fun _ _ _ _ _ _ => trivial).1

end

/-- What an update of an owned output reads, and what it comes to. -/
theorem exec_governorUpdate (i : UpdateInput) (o : UpdateOrder) {s : State} (hr : s.pins.reset = false)
    (ho : s.gov.owned = true) : ∃ u stops, UpdateRead s u ∧
      u.gov = { s.gov with travelReady := i.travelReady, bedEnd := s.effectiveBedEnd } ∧
      stops = ((u.wantedTravel u.acceleration).2 == .forward && u.atBedEnd) ∧
      exec (.governorUpdate i o) s = .next (conditions o stops u) ∧
      (conditions o stops u).gantry = u.gantry := by
  refine ⟨readUpdate i o s, _, readUpdate_read i o s, readUpdate_gov i o s, rfl, ?_, ?_⟩
  · rw [← updateGovernor_owned i o ho]
    exact running_negated _ s hr
  · exact (conditions_updating (by rw [readUpdate_gov]; exact ho)).gantry

theorem CommonRoom.common {s : State} (r : CommonRoom s) : s.commonUsed + 32 ≤ 960 := by
  unfold CommonRoom at r
  omega

/-- Settles O55: an update's conditions are followed one by one, in every order, through what each of them brings at its own
head and beside it. -/
theorem holdUpdateRunsPauses : Obligations.HoldUpdateRunsPauses := by
  unfold Obligations.HoldUpdateRunsPauses
  refine ⟨fun i o s hr ho hh => ?_, fun i o s hr ho hh => ?_, fun h i o s hr ho hb hp hh hd => ?_,
    fun i o e s hr ho he hf => ?_⟩ <;>
    obtain ⟨u, stops, read, gov, hs, step, gantry⟩ := exec_governorUpdate i o hr ho <;>
    have owned : u.gov.owned = true := by rw [gov]; exact ho
  · have hold : u.anyHold = true := read.anyHold.trans hh
    have w := conditions_updating (o := o) (stops := stops) owned
    have stands := moveGovernor_hold hold
    refine ⟨_, step, w.owned (governed_owned owned), w.atRest stands.1, w.direction.trans (stands.2.trans (by rw [gov])),
      fun h hp ht short => ?_⟩
    have go : stops = false := hs.trans (not_atBedEnd (fun e hg => gantry ▸ short e (by rwa [gov] at hg)) _)
    subst go
    rw [← (read.heads h).pauseTimer, ← (read.heads h).pauseElapsed]
    exact pause_runs owned ((read.headState h).trans hp) hold (.inr (by rwa [(read.heads h).pauseTimer]))
  · have hold : u.anyHold = true := read.anyHold.trans hh
    refine ⟨_, step, fun h hb short => ?_⟩
    have go : stops = false := hs.trans (not_atBedEnd (fun e hg => gantry ▸ short e (by rwa [gov] at hg)) _)
    subst go
    have there : u.present h = true := (read.grown.present h).trans hb
    refine ⟨fun hw => ?_, fun hp ht => ?_⟩
    · have fresh := weld_pauses (o := o) owned ((read.headState h).trans hw) hold there
      refine ⟨fresh.state, fresh.timer.trans ?_, fresh.elapsed, fresh.pauses.trans ?_⟩
      · simp [HeadUnit.travelSet, (read.heads h).profiles]
      · rw [(read.heads h).counters]
    · have found := (read.headState h).trans hp
      rw [← (read.heads h).pauseTimer] at ht
      cases split : o.split with
      | true =>
        obtain ⟨state, timer, -⟩ := pause_runs (o := o) owned found hold (.inl split)
        exact ⟨state, by rw [timer]; omega⟩
      | false =>
        obtain ⟨state, cause, count⟩ := pause_runsOut owned found hold split ht there
        exact ⟨state, cause, by rw [count, (read.heads h).counters]⟩
  · refine ⟨_, step, fun short => ?_⟩
    have go : stops = false := hs.trans (not_atBedEnd (fun e hg => gantry ▸ short e (by rwa [gov] at hg)) _)
    subst go
    obtain ⟨state, timer, elapsed, record⟩ := pause_ends (o := o) owned ((read.headState h).trans hp)
      (read.anyHold.trans hh) (by rwa [read.demand]) ((read.grown.present h).trans hb)
    refine ⟨state, timer, elapsed, fun room => ?_⟩
    have slots := read.grown.common
    have free := room.common
    obtain ⟨named, names, recorded⟩ := record (by omega)
    exact ⟨named, fun g hg => names g (by rwa [(read.heads h).plan]), (read.heads h).pauseElapsed ▸ recorded⟩
  · refine ⟨_, step, fun h hb hw beyond => ?_⟩
    rw [gantry] at beyond
    have welding : u.headState h = .weld ∨ u.headState h = .pause := by
      rw [read.headState]
      revert hw
      cases s.headState h <;> simp [HeadState.welding]
    have forward : (u.wantedTravel u.acceleration).2 = .forward :=
      wantedTravel_forward (h := h) _ ((congrArg _ (read.headState h)).trans hw) fun hold => by
        rw [gov]
        exact hf (read.anyHold.symm.trans hold)
    have there : u.atBedEnd = true := by simp [State.atBedEnd, gov, he, beyond]
    have stop : stops = true := by simp [hs, forward, there]
    subst stop
    have w := conditions_updating (o := o) (stops := true) owned
    obtain ⟨state, station, travel, count, cause, record⟩ :=
      bedEnd_interrupts (o := o) owned welding ((read.grown.present h).trans hb)
    rw [read.headState, read.anyHold, (read.heads h).pauseTimer] at cause
    have stands : (conditions o true u).toolStation h = u.toolStation h := (w.toolStation h).trans (onGov_toolStation ..)
    rw [stands]
    refine ⟨w.atRest (moveGovernor_atBedEnd forward there), state, station, travel,
      count.trans (by rw [(read.heads h).counters]), cause, fun room => ?_⟩
    have slots := read.grown.common
    have free := room.common
    obtain ⟨c, named, left, hc, names, hl, recorded⟩ := record (by omega)
    rw [(read.heads h).seq] at recorded
    exact ⟨c, named, left, hc, fun g hg => names g (by rwa [(read.heads h).plan]), hl, recorded⟩

/-! ## What a head sample reads, in full (R112, R127 to R136) -/

/-- The seam origin that a sample takes (R112, log 10). -/
def HeadUnit.originRead (u : HeadUnit) : Int :=
  match u.profiles.tool with
  | some t => (t.seamOrigin : Nat)
  | none => u.seq.originTaken

/-- A head after its sample's reading: the conversions with their records, the drive inputs, the seam origin and the tool
station. -/
structure SampleRead (h : Head) (i : SampleInput) (s t : State) : Prop where
  self : t.head h = { s.head h with
    seq := { (s.head h).seq with originTaken := (s.head h).originRead }
    track := { (s.head h).track with toolStation := t.toolStation h }
    front := (t.head h).front
    drives := readDrives (s.headState h) i (s.head h).drives
    log := (t.head h).log }
  counters : (t.head h).log.counters = { (s.head h).log.counters with
    sensorFaults := (t.head h).log.counters.sensorFaults, recordsLost := (t.head h).log.counters.recordsLost }
  other : t.head h.other = s.head h.other
  gov : t.gov = s.gov
  gantry : t.gantry = s.gantry
  grown : Grown 4 s t
  quiet : (∀ c, faultOf i c = none) → (t.head h).log = (s.head h).log

/-- A head after conversions, `n` records at most. -/
structure Converted (h : Head) (n : Nat) (s t : State) : Prop where
  self : t.head h = { s.head h with front := (t.head h).front, log := (t.head h).log }
  counters : (t.head h).log.counters = { (s.head h).log.counters with
    sensorFaults := (t.head h).log.counters.sensorFaults, recordsLost := (t.head h).log.counters.recordsLost }
  other : t.head h.other = s.head h.other
  gov : t.gov = s.gov
  gantry : t.gantry = s.gantry
  grown : Grown n s t

theorem Converted.refl (h : Head) (s : State) : Converted h 0 s s := ⟨rfl, rfl, rfl, rfl, rfl, .refl s⟩

theorem Converted.trans {h : Head} {m n : Nat} {s t u : State} (a : Converted h m s t) (b : Converted h n t u) :
    Converted h (m + n) s u :=
  ⟨b.self.trans (by rw [a.self]), b.counters.trans (by rw [a.counters]), b.other.trans a.other, b.gov.trans a.gov,
    b.gantry.trans a.gantry, a.grown.trans b.grown⟩

theorem convertHead_converted (h : Head) (i : SampleInput) (c : HeadChannel) (s : State) :
    Converted h 1 s (convertHead h i c s) := by
  have set (f : FrontEnd → FrontEnd) : Converted h 1 s (s.onFront h f) :=
    ⟨by simp, by simp, by simp, by simp, by simp, (Grown.of_same (by simp) (by simp)).mono (by omega)⟩
  have reports (n : ChannelName) (k : FaultKind) (ch : Channel) (x : State) : Converted h 1 x (reportFault h n k ch x) := by
    have read := reportFault_read h n k ch x h
    refine ⟨?_, read.counters, by simp [reportFault], by simp [reportFault], by simp [reportFault],
      reportFault_grown h n k ch x⟩
    rw [reportFault, countHead_self, createRecord_self]
  have quiet (f : FrontEnd → FrontEnd) : Converted h 0 s (s.onFront h f) :=
    ⟨by simp, by simp, by simp, by simp, by simp, .of_same (by simp) (by simp)⟩
  unfold convertHead
  dsimp only
  split
  · split
    · exact set _
    · exact ((quiet _).trans (reports _ _ _ _))
  · exact set _

theorem conversions_converted (h : Head) (i : SampleInput) (l : List HeadChannel) (s : State) :
    Converted h l.length s (l.foldl (fun acc c => convertHead h i c acc) s) := by
  induction l generalizing s with
  | nil => exact .refl h s
  | cons c l ih =>
    have e := (convertHead_converted h i c s).trans (ih (convertHead h i c s))
    rwa [Nat.add_comm] at e

theorem conversionOrder_length (o : SampleOrder) : (conversionOrder o).length ≤ 4 := by
  have all : conversionOrder o ⊆ [.force, .torque, .temp, .depth] := fun c _ => by cases c <;> decide
  exact ((firstOccurrences_nodup [] (o.conversions ++ [.force, .torque, .temp, .depth])).subperm all).length_le

theorem readAfter_self (h : Head) (i : SampleInput) (s : State) : (readAfter h i s).head h = { s.head h with
    seq := { (s.head h).seq with originTaken := (s.head h).originRead }
    track := { (s.head h).track with toolStation := (readAfter h i s).toolStation h }
    drives := readDrives (s.headState h) i (s.head h).drives } := by
  unfold readAfter HeadUnit.originRead State.headState
  simp only [onHead_self]
  cases (s.head h).profiles.tool <;> simp

theorem readSample_read (h : Head) (i : SampleInput) (o : SampleOrder) (s : State) :
    SampleRead h i s (readSample h i o s) := by
  obtain ⟨self, counters, other, gov, gantry, grown⟩ := conversions_converted h i (conversionOrder o) s
  have log (k : Head) := (readAfter_reached h i ((conversionOrder o).foldl (fun acc c => convertHead h i c acc) s)).2.2 k
  have present (k : Head) : (readSample h i o s).present k = s.present k := by
    rw [← grown.present k, readSample_eq]
    unfold readAfter
    dsimp only
    split <;> simp
  rw [readSample_eq] at present ⊢
  refine ⟨?_, by rw [log]; exact counters, ?_, ?_, ?_, ?_, fun quiet => ?_⟩
  · rw [readAfter_self, HeadUnit.originRead, State.headState, self]
    rfl
  · rw [← other]
    unfold readAfter
    dsimp only
    split <;> simp
  · rw [← gov]
    unfold readAfter
    dsimp only
    split <;> simp
  · rw [← gantry]
    unfold readAfter
    dsimp only
    split <;> simp
  · have length := conversionOrder_length o
    exact (grown.mono length).then_same (fun k => (present k).trans (grown.present k).symm) fun k => by rw [log]
  · rw [log, conversions_quiet h h i _ s quiet]

section
variable {h : Head} {i : SampleInput} {s t : State}

theorem SampleRead.headState (r : SampleRead h i s t) : t.headState h = s.headState h := by
  rw [State.headState, r.self, State.headState]
theorem SampleRead.seq (r : SampleRead h i s t) :
    (t.head h).seq = { (s.head h).seq with originTaken := (s.head h).originRead } := by rw [r.self]
theorem SampleRead.plan (r : SampleRead h i s t) : (t.head h).plan = (s.head h).plan := by rw [r.self]
theorem SampleRead.reg (r : SampleRead h i s t) : (t.head h).reg = (s.head h).reg := by rw [r.self]
theorem SampleRead.profiles (r : SampleRead h i s t) : (t.head h).profiles = (s.head h).profiles := by rw [r.self]
theorem SampleRead.travel (r : SampleRead h i s t) : (t.head h).travel = (s.head h).travel := by rw [r.self]
theorem SampleRead.drives (r : SampleRead h i s t) :
    (t.head h).drives = readDrives (s.headState h) i (s.head h).drives := by rw [r.self]
theorem SampleRead.present (r : SampleRead h i s t) (k : Head) : t.present k = s.present k := r.grown.present k

end

/-! ## Pieces of work, each in its place (log 1) -/

/-- A relation that each piece of work of a list extends holds from its beginning to its end. -/
theorem sampleActs_through {R : State → State → Prop} (h : Head) (read : HeadUnit) (o : SampleOrder)
    (front rest : List SampleAct) {s : State} (start : R s s)
    (step : ∀ a ∈ front, ∀ later x, R s x → R s (placedAct h read o a later x)) :
    ∃ m, R s m ∧ sampleActs h read o (front ++ rest) s = sampleActs h read o rest m ∧ (front = [] → m = s) := by
  have run (l : List SampleAct) (hl : ∀ a ∈ l, a ∈ front) : ∀ x, R s x →
      ∃ m, R s m ∧ sampleActs h read o (l ++ rest) x = sampleActs h read o rest m ∧ (l = [] → m = x) := by
    induction l with
    | nil => exact fun x r => ⟨x, r, rfl, fun _ => rfl⟩
    | cons a l ih =>
      intro x r
      obtain ⟨m, rm, e, -⟩ := ih (fun b hb => hl b (List.mem_cons_of_mem _ hb)) _ (step a (hl a List.mem_cons_self) _ x r)
      exact ⟨m, rm, e, nofun⟩
  exact run front (fun _ ha => ha) s start

theorem sampleActs_all {R : State → State → Prop} (h : Head) (read : HeadUnit) (o : SampleOrder)
    (l : List SampleAct) {s : State} (start : R s s)
    (step : ∀ a ∈ l, ∀ later x, R s x → R s (placedAct h read o a later x)) : R s (sampleActs h read o l s) := by
  obtain ⟨m, r, e, -⟩ := sampleActs_through h read o l [] start step
  rw [← List.append_nil l, e]
  exact r

/-- Each piece of work but the log's comes once, and first where the order takes it first. -/
theorem actOrder_at (o : SampleOrder) {a : SampleAct} (ha : a ≠ .log) : ∃ front rest, actOrder o = front ++ a :: rest ∧
    a ∉ front ∧ a ∉ rest ∧ (o.acts.head? = some a → front = []) := by
  have mem : a ∈ actOrder o := by
    rw [actOrder, mem_firstOccurrences, mem_logAfterRegulator ha]
    refine ⟨List.mem_append_right _ ?_, by simp⟩
    cases a with
    | log => exact absurd rfl ha
    | check c => cases c <;> decide
    | regulator | forceRun | station | track | grace | sequence => decide
  obtain ⟨front, rest, e⟩ := List.append_of_mem mem
  have once : (front ++ a :: rest).Nodup := e ▸ firstOccurrences_nodup ..
  have apart := List.nodup_append.mp once
  have before : a ∉ front := fun hf => apart.2.2 _ hf _ List.mem_cons_self rfl
  refine ⟨front, rest, e, before, (List.nodup_cons.mp apart.2.1).1, fun hh => ?_⟩
  obtain ⟨acts, hx⟩ : ∃ acts, o.acts = a :: acts := List.head?_eq_some_iff.mp hh
  have first : (actOrder o).head? = some a := by
    rw [actOrder, hx, List.cons_append, logAfterRegulator, if_neg ha]
    split <;> simp [firstOccurrences]
  cases front with
  | nil => rfl
  | cons b l =>
    rw [e] at first
    simp at first
    simp [first] at before

/-! ## What the work of a sample leaves of what the sample has read -/

/-- What a sample has read, and what its records rest on: the inputs of a head, its sets, its seam origin and the gantry are
as they were, and its queue has the records it had. -/
structure Scene (h : Head) (s t : State) : Prop where
  present : t.present h = s.present h
  gantry : t.gantry = s.gantry
  origin : (t.head h).seq.originTaken = (s.head h).seq.originTaken
  profiles : (t.head h).profiles = (s.head h).profiles
  drives : (t.head h).drives = (s.head h).drives
  front : (t.head h).front = (s.head h).front
  records : (s.head h).log.queue <+: (t.head h).log.queue

section
variable {h : Head} {s t u : State}

theorem Scene.refl (h : Head) (s : State) : Scene h s s := ⟨rfl, rfl, rfl, rfl, rfl, rfl, List.prefix_rfl⟩

theorem Scene.trans (a : Scene h s t) (b : Scene h t u) : Scene h s u :=
  ⟨b.present.trans a.present, b.gantry.trans a.gantry, b.origin.trans a.origin, b.profiles.trans a.profiles,
    b.drives.trans a.drives, b.front.trans a.front, a.records.trans b.records⟩

theorem Scene.of_ite {c : Prop} [Decidable c] {x y : State} (hx : c → Scene h s x) (hy : ¬c → Scene h s y) :
    Scene h s (if c then x else y) := by
  split
  · next hc => exact hx hc
  · next hc => exact hy hc

theorem Scene.toolStation (w : Scene h s t) : t.toolStation h = s.toolStation h := by
  simp [State.toolStation, w.gantry, w.origin]
theorem Scene.limits (w : Scene h s t) : (t.head h).limits = (s.head h).limits := by simp [HeadUnit.limits, w.profiles]
theorem Scene.tool (w : Scene h s t) : (t.head h).tool = (s.head h).tool := by simp [HeadUnit.tool, w.profiles]
theorem Scene.regulator (w : Scene h s t) : (t.head h).regulator = (s.head h).regulator := by
  simp [HeadUnit.regulator, w.profiles]

theorem Noted.scene (n : Noted h s t) : Scene h s t := by
  have self := n.self
  constructor
  case present => exact n.present
  case gantry => exact n.gantry
  case records => exact n.records
  all_goals rw [self]

theorem Scene.notes (w : Scene h s t) (n : Noted h t u) : Scene h s u := w.trans n.scene
theorem Scene.creates (w : Scene h s t) (b : RecordBody) (co : Bool) : Scene h s (createRecord h b co t) :=
  w.notes (createRecord_noted h b co t)
theorem Scene.counts (w : Scene h s t) (f : HeadCounters → HeadCounters) : Scene h s (countHead h f t) :=
  w.trans (by constructor <;> simp)
theorem Scene.onReg (w : Scene h s t) (f : Regulator → Regulator) : Scene h s (t.onReg h f) :=
  w.trans (by constructor <;> simp)
theorem Scene.onTrack (w : Scene h s t) (f : Tracking → Tracking) : Scene h s (t.onTrack h f) :=
  w.trans (by constructor <;> simp)
theorem Scene.onPlan (w : Scene h s t) (f : PlanStore → PlanStore) : Scene h s (t.onPlan h f) :=
  w.trans (by constructor <;> simp)
theorem Scene.onSeq (w : Scene h s t) (f : Sequencer → Sequencer) (hf : ∀ q, (f q).originTaken = q.originTaken) :
    Scene h s (t.onSeq h f) := w.trans (by constructor <;> simp [hf])
theorem Scene.ticks (w : Scene h s t) : Scene h s t.tick := w.notes (tick_noted h t)

theorem Scene.enters (w : Scene h s t) (st : HeadState) : Scene h s (setHeadState h st t) := by
  refine w.trans ⟨by simp, by simp, setHeadState_head_originTaken .., by simp, by simp, by simp, ?_⟩
  rw [setHeadState_self]

theorem Scene.untracks (w : Scene h s t) : Scene h s (emptyTrack h t) := w.trans (by constructor <;> simp)
theorem Scene.unstarves (w : Scene h s t) : Scene h s (endStarvation h t) := w.trans (by constructor <;> simp)

theorem Scene.reports (w : Scene h s t) (b : SegmentRef → RecordBody) : Scene h s (reportInForce h b t) := by
  unfold reportInForce
  split
  · exact w.creates _ _
  · exact w.ticks.creates _ _

theorem Scene.follows (w : Scene h s t) : Scene h s (followSpindle h t) := by
  unfold followSpindle
  split
  · exact w.onSeq _ fun _ => by rfl
  · exact (w.onSeq _ fun _ => by rfl).ticks

theorem Scene.interrupts (w : Scene h s t) (c : Cause) : Scene h s (interruptHead h c t) := by
  have raised := interruptHead_raised h c t
  exact w.trans ⟨by simp, raised.gantry, raised.origin h, by simp, by simp, by simp, raised.grown.queues h⟩

theorem Scene.fails (w : Scene h s t) (r : StartFailure) : Scene h s (failStart h r t) := by
  have created := (w.creates (.startFailed r (t.head h).seq.kind (t.head h).seq.state (t.toolStation h)) false).onSeq
    (fun q => { q with spindle := 0 }) fun _ => rfl
  unfold failStart endStart enterInterrupted
  dsimp only
  split <;> exact (created.enters _).untracks

theorem Work.scene {r : Bool} (w : Work h r s t) : Scene h s t := by
  obtain ⟨steps⟩ := w
  induction steps with
  | refl => exact .refl h s
  | tail _ x ih =>
    cases x with
    | notes n => exact ih.notes n
    | steers f => exact ih.onTrack f
    | regulates f hr => exact ih.onReg f
    | sequences f hw hf => exact ih.onSeq f fun q => (hf q).2.2
    | interrupts c => exact ih.interrupts c

/-! ### The plan store's work -/

theorem Scene.completes (w : Scene h s t) (g : Segment) (rest : List Segment) :
    Scene h s (completeSegment h g rest t) := by
  unfold completeSegment
  exact (((w.onPlan _).creates _ _).counts _).onReg _

theorem Scene.exits (w : Scene h s t) (g : Segment) : Scene h s (enterExit h g t) := by
  unfold enterExit startRamp
  extract_lets s1 s2
  have counted : Scene h s s2 := (w.creates _ _).counts _
  have ramped : Scene h s (s2.onSeq h fun q => { q with rampAcc := 499 }) := counted.onSeq _ fun _ => rfl
  exact (ramped.enters .exit).unstarves.untracks

theorem Scene.starves (w : Scene h s t) (g : Segment) : Scene h s (starve h g t) := by
  unfold starve
  exact (w.onPlan _).creates _ _

theorem Scene.allows (w : Scene h s t) : Scene h s (checkAllowance h t) := by
  unfold checkAllowance
  split
  · exact .of_ite (fun _ => w.interrupts _) fun _ => w
  · exact w

theorem Scene.completesAll (n : Nat) (w : Scene h s t) : Scene h s (completeSegments n h t) := by
  induction n generalizing t with
  | zero => exact w
  | succ n ih =>
    rw [completeSegments]
    split
    · exact w
    · next g rest _ =>
      have completed := w.completes g rest
      refine .of_ite (fun _ => w) fun _ => ?_
      dsimp only
      split
      · exact completed.exits g
      · exact .of_ite (fun _ => .of_ite (fun _ => completed) fun _ => (completed.starves g).allows) fun _ => ih completed

theorem Scene.plans (w : Scene h s t) (found : HeadState) : Scene h s (planWork h found t) := by
  unfold planWork measureStarvation
  dsimp only
  have checked : Scene h s (if found = .weld ∧ t.headState h = .weld then stationCheck h t else t) :=
    .of_ite (fun _ => w.completesAll _) fun _ => w
  exact .of_ite (fun _ => (checked.onPlan _).allows) fun _ => checked

/-! ### The sequencer's work -/

theorem Scene.raises (w : Scene h s t) : Scene h s (raiseTool h t) := by
  unfold raiseTool
  split
  · exact w
  · exact w.onSeq _ fun q => by dsimp only; split <;> [split <;> rfl; rfl]

theorem Scene.plunges (w : Scene h s t) : Scene h s (plungeStep h t) := by
  unfold plungeStep
  exact w.onSeq _ fun q => by dsimp only; split <;> rfl

theorem Scene.retracts (w : Scene h s t) : Scene h s (retractStep h t) := by
  unfold retractStep
  exact w.onSeq _ fun _ => by rfl

theorem Scene.welds (w : Scene h s t) : Scene h s (enterWeld h t) := by
  have entered : Scene h s (weldEntered h t) := by
    have self := weldEntered_self h t
    refine w.trans ⟨by simp, by simp [weldEntered, restartAccumulator], ?_, ?_, ?_, ?_, ?_⟩ <;> rw [self]
    exact List.prefix_rfl
  rw [enterWeld_eq]
  refine .of_ite (fun _ => ?_) fun _ => entered
  unfold reentryCheck
  refine .of_ite (fun _ => ?_) fun _ => entered.completesAll _
  split
  · exact entered.starves _
  · exact entered

/-- The sequencer's work outside CALIBRATING, which alone may set an offset. -/
theorem Scene.sequences (w : Scene h s t) (split : Bool) (hc : t.headState h ≠ .calibrating) :
    Scene h s (sequenceWork h split t) := by
  have take {x y : State} (vx : Scene h s x) (vy : Scene h s y) : Scene h s (if split then x else y) :=
    .of_ite (fun _ => vx) fun _ => vy
  unfold sequenceWork
  dsimp only
  cases hs : t.headState h <;> dsimp only
  case uncommissioned | commissioning | calDue | ready | interrupted => exact w.raises
  case calibrating => exact absurd hs hc
  case approach => exact w
  case spinup =>
    have timed := w.onSeq (fun q => { q with spinupTimer := q.spinupTimer - 2 }) fun _ => rfl
    exact .of_ite (fun _ => take timed (.of_ite (fun _ => (timed.onSeq _ fun _ => by rfl).enters _) fun _ => timed))
      fun _ => take timed (.of_ite (fun _ => timed.fails _) fun _ => timed)
  case plunge =>
    have moved := w.follows.plunges
    exact .of_ite (fun _ => take moved (.of_ite (fun _ => ((moved.reports _).onSeq _ fun _ => by rfl).enters _) fun _ => moved))
      fun _ => take moved (.of_ite (fun _ => moved.interrupts _) fun _ => moved)
  case dwell =>
    have timed := w.follows.onSeq (fun q => { q with dwellTimer := q.dwellTimer - 2 }) fun _ => rfl
    exact take timed (.of_ite (fun _ => timed.welds) fun _ => timed)
  case weld | pause => exact w.follows
  case exit =>
    exact take w.retracts (.of_ite (fun _ => (w.retracts.onSeq _ fun _ => by rfl).enters _) fun _ => w.retracts)
  case interrupting =>
    exact take w.retracts (.of_ite (fun _ => ((w.retracts.onSeq _ fun _ => by rfl).enters _).untracks) fun _ => w.retracts)

/-- A piece of work of a sample that did not find a calibration. -/
theorem placedAct_scene (h : Head) (read : HeadUnit) (o : SampleOrder) (a : SampleAct) (rest : List SampleAct) (s : State)
    (hc : read.seq.state ≠ .calibrating) : Scene h s (placedAct h read o a rest s) := by
  have plain (hs : a ≠ .sequence) (hp : a ≠ .station) (hk : ∀ c, a ≠ .check c) :
      Scene h s (placedAct h read o a rest s) :=
    (placedAct_work (r := true) h read o rest s
      ⟨fun _ => rfl, fun e => absurd e hp, fun e => absurd e hs, fun c e => absurd e (hk c)⟩).scene
  have still := Scene.refl h s
  cases a with
  | sequence =>
    show Scene h s (sequencerWork h read.seq.state o.split s)
    exact .of_ite (fun e => still.sequences _ (by rwa [e])) fun _ => still
  | station => exact still.plans read.seq.state
  | check c =>
    show Scene h s (checkWork h read.seq.state c s)
    unfold checkWork
    refine .of_ite (fun _ => still) fun _ => .of_ite (fun _ => still.interrupts _) fun _ => ?_
    split
    · exact .of_ite (fun _ => .of_ite (fun _ => still.fails _) fun _ => still) fun _ => still
    · exact still
  | regulator | forceRun | track | log | grace => exact plain (by simp) (by simp) (by simp)

end

/-! ## A sample that found a head outside WELD and PAUSE: the work beside the sequencer's -/

/-- What the pieces of work other than the sequencer's leave of a head that they neither interrupt nor end: everything but
the force-limit run and the track. -/
structure Standing (h : Head) (found : HeadState) (s t : State) : Prop where
  self : t.head h = { s.head h with
    reg := { (s.head h).reg with forceRun := (t.head h).reg.forceRun }, track := (t.head h).track }
  lateral : found.settling = false → (t.head h).track.lateralCommand = (s.head h).track.lateralCommand
  emptied : (s.head h).track.queue = [] → (t.head h).track.queue = []
  other : t.head h.other = s.head h.other
  gov : t.gov = s.gov
  gantry : t.gantry = s.gantry
  present : t.present h = s.present h

section
variable {h : Head} {found : HeadState} {s t u : State}

theorem Standing.refl (h : Head) (found : HeadState) (s : State) : Standing h found s s :=
  ⟨rfl, fun _ => rfl, id, rfl, rfl, rfl, rfl⟩

theorem Standing.trans (a : Standing h found s t) (b : Standing h found t u) : Standing h found s u :=
  ⟨b.self.trans (by rw [a.self]), fun hs => (b.lateral hs).trans (a.lateral hs), fun e => b.emptied (a.emptied e),
    b.other.trans a.other, b.gov.trans a.gov, b.gantry.trans a.gantry, b.present.trans a.present⟩

theorem Standing.seq (a : Standing h found s t) : (t.head h).seq = (s.head h).seq := by rw [a.self]
theorem Standing.plan (a : Standing h found s t) : (t.head h).plan = (s.head h).plan := by rw [a.self]
theorem Standing.log (a : Standing h found s t) : (t.head h).log = (s.head h).log := by rw [a.self]
theorem Standing.travel (a : Standing h found s t) : (t.head h).travel = (s.head h).travel := by rw [a.self]
theorem Standing.front (a : Standing h found s t) : (t.head h).front = (s.head h).front := by rw [a.self]
theorem Standing.drives (a : Standing h found s t) : (t.head h).drives = (s.head h).drives := by rw [a.self]
theorem Standing.profiles (a : Standing h found s t) : (t.head h).profiles = (s.head h).profiles := by rw [a.self]
theorem Standing.headState (a : Standing h found s t) : t.headState h = s.headState h := congrArg Sequencer.state a.seq
theorem Standing.tool (a : Standing h found s t) : (t.head h).tool = (s.head h).tool := by
  rw [HeadUnit.tool, a.profiles, HeadUnit.tool]
theorem Standing.toolStation (a : Standing h found s t) : t.toolStation h = s.toolStation h := by
  rw [State.toolStation, a.gantry, a.seq, State.toolStation]

theorem standing_onReg (n : Nat) : Standing h found s (s.onReg h fun r => { r with forceRun := n }) := by
  constructor <;> simp

theorem trim_nil {x : Tracking} (e : x.queue = []) : x.trim.queue = [] := by simp [Tracking.trim, e, trimQueue]

theorem standing_trim : Standing h found s (s.onTrack h Tracking.trim) := by
  refine ⟨by simp, fun _ => ?_, fun e => ?_, by simp, by simp, by simp, by simp⟩
  · rw [onTrack_self]
    rfl
  · rw [onTrack_self]
    exact trim_nil e

/-- The head settles its lateral axis, or holds it (R119). -/
theorem trackWork_standing (read : HeadUnit) (first : Bool) (hw : read.seq.state.welding = false) :
    Standing h read.seq.state s (trackWork h read first s) := by
  unfold trackWork
  dsimp only
  rw [if_neg (by simp [hw])]
  split
  · next settles =>
    simp only [Bool.and_eq_true] at settles
    unfold steer
    refine standing_trim.trans ⟨by simp, fun e => ?_, fun e => by simpa using e, by simp, by simp, by simp, by simp⟩
    rw [settles.1] at e
    cases e
  · exact standing_trim

/-- One piece of work: it leaves the head standing, interrupts it in the material, or fails its start. -/
inductive Minor (h : Head) (found : HeadState) (s : State) : State → Prop
  | stands {t : State} (w : Standing h found s t) : Minor h found s t
  | interrupts {x : State} (c : Cause) (w : Standing h found s x) (hf : found.inMaterial = true) :
      Minor h found s (interruptHead h c x)
  | fails (r : StartFailure) (hf : found.starting = true) (hs : (s.headState h).starting = true) :
      Minor h found s (failStart h r s)

theorem placedAct_minor (h : Head) (read : HeadUnit) (o : SampleOrder) {a : SampleAct} (rest : List SampleAct) (s : State)
    (hw : read.seq.state.welding = false) (ha : a ≠ .sequence) :
    Minor h read.seq.state s (placedAct h read o a rest s) := by
  have still : Minor h read.seq.state s s := .stands (.refl ..)
  cases a with
  | sequence => exact absurd rfl ha
  | log =>
    have idle : placedAct h read o .log rest s = s := by simp [placedAct, logWork, hw]
    rwa [idle]
  | regulator =>
    have idle : placedAct h read o .regulator rest s = s := by simp [placedAct, blockAct, regulatorWork, hw]
    rwa [idle]
  | station =>
    have idle : placedAct h read o .station rest s = s := planWork_outside h s hw
    rwa [idle]
  | track => exact .stands (trackWork_standing read o.gapFirst hw)
  | forceRun =>
    show Minor h read.seq.state s (forceRunWork h read.seq.state o.split s)
    unfold forceRunWork
    dsimp only
    split
    · next three =>
      refine .interrupts .forceLimit (standing_onReg _) ?_
      by_contra hn
      simp [forceRunAfter, hn] at three
    · exact .stands (standing_onReg _)
  | grace =>
    show Minor h read.seq.state s (graceWork h read.seq.state o.split s)
    unfold graceWork
    split
    · next spent =>
      simp only [Bool.and_eq_true] at spent
      exact .interrupts .sensor (.refl ..) spent.1.1
    · exact still
  | check c =>
    show Minor h read.seq.state s (checkWork h read.seq.state c s)
    unfold checkWork
    split
    · exact still
    · split
      · next hm => exact .interrupts _ (.refl ..) hm
      · split
        · split
          · next hs =>
            unfold startFault
            split
            · next now => exact .fails _ hs now
            · exact still
          · exact still
        · exact still

/-! ### Several such pieces, one after the other -/

/-- A head in the material that has been interrupted. -/
structure InterruptedFrom (h : Head) (s t : State) : Prop where
  found : (s.headState h).inMaterial = true
  seq : (t.head h).seq = { (s.head h).seq with
    state := .interrupting, raising := false, cause := (t.head h).seq.cause
    interruptStation := (t.head h).seq.interruptStation, rampAcc := 499 }

/-- A start that has ended without plunging. -/
structure EndedFrom (h : Head) (s t : State) : Prop where
  found : (s.headState h).starting = true
  seq : (t.head h).seq = { (s.head h).seq with
    state := if (s.head h).seq.kind = .fresh then .ready else .interrupted, spindle := 0 }
  queue : (t.head h).track.queue = []

theorem InterruptedFrom.headState (i : InterruptedFrom h s t) : t.headState h = .interrupting := by
  rw [State.headState, i.seq]

theorem EndedFrom.headState (e : EndedFrom h s t) :
    t.headState h = if (s.head h).seq.kind = .fresh then .ready else .interrupted := by rw [State.headState, e.seq]

theorem EndedFrom.idle (e : EndedFrom h s t) : (t.headState h).engaged = false := by
  rw [e.headState]
  split <;> rfl

/-- What the pieces of work before or behind the sequencer's come to. -/
inductive Beside (h : Head) (found : HeadState) (s t : State) : Prop
  | stands (w : Standing h found s t)
  | interrupted (hf : found.inMaterial = true) (i : InterruptedFrom h s t)
  | ended (hf : found.starting = true) (e : EndedFrom h s t)

theorem HeadState.inMaterial_of_idle {st : HeadState} (hi : st.engaged = false) : st.inMaterial = false := by
  revert hi
  cases st <;> decide

theorem HeadState.starting_of_idle {st : HeadState} (hi : st.engaged = false) : st.starting = false := by
  revert hi
  cases st <;> decide

theorem interruptHead_from {x : State} (c : Cause) (w : Standing h found s x)
    (ha : c.actsIn (x.headState h) = true) : InterruptedFrom h s (interruptHead h c x) := by
  have i := (interruptHead_interrupted h c x ha).seq
  exact ⟨by rw [← w.headState]; exact Cause.actsIn_inMaterial ha, by rw [i, w.seq]⟩

theorem failStart_from (r : StartFailure) (hs : (s.headState h).starting = true) : EndedFrom h s (failStart h r s) := by
  obtain ⟨-, -, -, -, own⟩ := failStart_ended h r s
  exact ⟨hs, by rw [own], by rw [own]; rfl⟩

theorem Minor.beside (m : Minor h found s t) : Beside h found s t := by
  cases m with
  | stands w => exact .stands w
  | @interrupts x c w hf =>
    cases ha : c.actsIn (x.headState h) with
    | true => exact .interrupted hf (interruptHead_from c w ha)
    | false =>
      rw [interruptHead_of_not_acts ha]
      exact .stands w
  | fails r hf hs => exact .ended hf (failStart_from r hs)

/-- A head in no state of the material and in no start is left standing. -/
theorem Beside.standing (b : Beside h found s t) (hm : (s.headState h).inMaterial = false)
    (hs : (s.headState h).starting = false) : Standing h found s t := by
  cases b with
  | stands w => exact w
  | interrupted hf i => exact absurd (i.found.symm.trans hm) (by decide)
  | ended hf e => exact absurd (e.found.symm.trans hs) (by decide)

theorem Standing.interrupted (w : Standing h found s t) (i : InterruptedFrom h t u) : InterruptedFrom h s u :=
  ⟨w.headState ▸ i.found, by rw [i.seq, w.seq]⟩

theorem Standing.ended (w : Standing h found s t) (e : EndedFrom h t u) : EndedFrom h s u :=
  ⟨w.headState ▸ e.found, by rw [e.seq, w.seq], e.queue⟩

theorem InterruptedFrom.stands (i : InterruptedFrom h s t) (w : Standing h found t u) : InterruptedFrom h s u :=
  ⟨i.found, by rw [w.seq]; exact i.seq⟩

theorem EndedFrom.stands (e : EndedFrom h s t) (w : Standing h found t u) : EndedFrom h s u :=
  ⟨e.found, by rw [w.seq]; exact e.seq, w.emptied e.queue⟩

theorem Beside.trans (a : Beside h found s t) (b : Beside h found t u) : Beside h found s u := by
  cases a with
  | stands v =>
    cases b with
    | stands w => exact .stands (v.trans w)
    | interrupted hf i => exact .interrupted hf (v.interrupted i)
    | ended hf e => exact .ended hf (v.ended e)
  | interrupted hf i => exact .interrupted hf (i.stands (b.standing (by rw [i.headState]; rfl) (by rw [i.headState]; rfl)))
  | ended hf e =>
    exact .ended hf (e.stands (b.standing (HeadState.inMaterial_of_idle e.idle) (HeadState.starting_of_idle e.idle)))

/-- A sample that did not find a head welding is cut at the sequencer's work. -/
theorem sampleActs_sequence (h : Head) (read : HeadUnit) (o : SampleOrder) (s : State) (hw : read.seq.state.welding = false) :
    ∃ m, Beside h read.seq.state s m ∧
      Beside h read.seq.state (sequencerWork h read.seq.state o.split m) (sampleActs h read o (actOrder o) s) ∧
      (o.acts.head? = some .sequence → m = s) := by
  obtain ⟨front, rest, e, hf, hr, first⟩ := actOrder_at o (a := .sequence) (by decide)
  have step {x y : State} (l : List SampleAct) {a : SampleAct} (ha : a ≠ .sequence) (b : Beside h read.seq.state x y) :
      Beside h read.seq.state x (placedAct h read o a l y) := b.trans (placedAct_minor h read o l y hw ha).beside
  obtain ⟨m, b, onward, start⟩ := sampleActs_through (R := Beside h read.seq.state) h read o front (.sequence :: rest)
    (s := s) (.stands (.refl ..)) fun a ha l x b => step l (fun e => hf (e ▸ ha)) b
  refine ⟨m, b, ?_, fun hh => start (first hh)⟩
  rw [e, onward]
  exact sampleActs_all (R := Beside h read.seq.state) h read o rest
    (s := placedAct h read o .sequence rest m) (.stands (.refl ..)) fun a ha l x b => step l (fun e => hr (e ▸ ha)) b

end

/-! ## The force-limit run over a sample (R79) -/

/-- The run of a head is as it was. -/
def SameRun (h : Head) (s t : State) : Prop := (t.head h).reg.forceRun = (s.head h).reg.forceRun

section
variable {h : Head} {s t : State}

theorem SameRun.of_reg (e : (t.head h).reg = (s.head h).reg) : SameRun h s t := congrArg Regulator.forceRun e

theorem SameRun.of_ite {c : Prop} [Decidable c] {x y : State} (hx : c → SameRun h s x) (hy : ¬c → SameRun h s y) :
    SameRun h s (if c then x else y) := by
  split
  · next hc => exact hx hc
  · next hc => exact hy hc

theorem SameRun.trans {u : State} (a : SameRun h s t) (b : SameRun h t u) : SameRun h s u := Eq.trans b a

theorem completeSegments_sameRun (n : Nat) (h : Head) (s : State) : SameRun h s (completeSegments n h s) := by
  induction n generalizing s with
  | zero => rfl
  | succ n ih =>
    rw [completeSegments]
    split
    · rfl
    · next g rest _ =>
      have completed : SameRun h s (completeSegment h g rest s) := by simp [SameRun, completeSegment]
      refine .of_ite (fun _ => rfl) fun _ => ?_
      dsimp only
      split
      · exact completed.trans (.of_reg (by simp))
      · refine .of_ite (fun _ => .of_ite (fun _ => completed) fun _ => ?_) fun _ => completed.trans (ih _)
        have starved : SameRun h s (starve h g (completeSegment h g rest s)) :=
          completed.trans (.of_reg (by simp [starve]))
        unfold checkAllowance
        split
        · exact .of_ite (fun _ => starved.trans (.of_reg (by simp))) fun _ => starved
        · exact starved

theorem planWork_sameRun (h : Head) (found : HeadState) (s : State) : SameRun h s (planWork h found s) := by
  have checked : SameRun h s (if found = .weld ∧ s.headState h = .weld then stationCheck h s else s) :=
    .of_ite (fun _ => completeSegments_sameRun ..) fun _ => rfl
  unfold planWork measureStarvation checkAllowance
  dsimp only
  refine .of_ite (fun _ => ?_) fun _ => checked
  split
  · exact .of_ite (fun _ => checked.trans (.of_reg (by simp))) fun _ => checked.trans (.of_reg (by simp))
  · exact checked.trans (.of_reg (by simp))

theorem enterWeld_sameRun (h : Head) (s : State) : SameRun h s (enterWeld h s) := by
  have entered : SameRun h s (weldEntered h s) := by
    unfold SameRun
    rw [weldEntered_self]
    rfl
  rw [enterWeld_eq]
  refine .of_ite (fun _ => ?_) fun _ => entered
  unfold reentryCheck
  refine .of_ite (fun _ => ?_) fun _ => entered.trans (completeSegments_sameRun ..)
  split
  · exact entered.trans (.of_reg (by simp [starve]))
  · exact entered

theorem judgeCalibration_reg (h : Head) (s : State) : ((judgeCalibration h s).head h).reg = (s.head h).reg := by
  unfold judgeCalibration failCalibration succeedCalibration endCalibration
  dsimp only
  split
  · simp
  · split <;> simp

theorem sequenceWork_sameRun (h : Head) (split : Bool) (s : State) : SameRun h s (sequenceWork h split s) := by
  have take {x y : State} (vx : SameRun h s x) (vy : SameRun h s y) : SameRun h s (if split then x else y) :=
    .of_ite (fun _ => vx) fun _ => vy
  have retracted : SameRun h s (retractStep h s) := .of_reg (by simp [retractStep])
  unfold sequenceWork
  dsimp only
  cases s.headState h <;> dsimp only
  case uncommissioned | commissioning | calDue | ready | interrupted =>
    unfold raiseTool
    split
    · rfl
    · exact .of_reg (by simp)
  case calibrating =>
    refine .of_ite (fun _ => .of_reg (by simp [abortCalibration, endCalibration])) fun _ => .of_ite (fun _ => ?_) fun _ => rfl
    exact .of_ite (fun _ => .of_reg (by rw [judgeCalibration_reg]; simp)) fun _ => .of_reg (by simp)
  case approach => rfl
  case spinup =>
    have timed : SameRun h s (s.onSeq h fun q => { q with spinupTimer := q.spinupTimer - 2 }) := .of_reg (by simp)
    exact .of_ite (fun _ => take timed (.of_ite (fun _ => timed.trans (.of_reg (by simp [enterPlunge]))) fun _ => timed))
      fun _ => take timed (.of_ite (fun _ => timed.trans (.of_reg (by simp [failStart]))) fun _ => timed)
  case plunge =>
    have moved : SameRun h s (plungeStep h (followSpindle h s)) := .of_reg (by simp [plungeStep])
    exact .of_ite (fun _ => take moved (.of_ite (fun _ => moved.trans (.of_reg (by simp [enterDwell]))) fun _ => moved))
      fun _ => take moved (.of_ite (fun _ => moved.trans (.of_reg (by simp))) fun _ => moved)
  case dwell =>
    have timed : SameRun h s ((followSpindle h s).onSeq h fun q => { q with dwellTimer := q.dwellTimer - 2 }) :=
      .of_reg (by simp)
    exact take timed (.of_ite (fun _ => timed.trans (enterWeld_sameRun ..)) fun _ => timed)
  case weld | pause => exact .of_reg (by simp)
  case exit =>
    exact take retracted (.of_ite (fun _ => retracted.trans (.of_reg (by simp [finishExit]))) fun _ => retracted)
  case interrupting =>
    exact take retracted (.of_ite (fun _ => retracted.trans (.of_reg (by simp [finishInterrupting, enterInterrupted])))
      fun _ => retracted)

/-- Only its own work changes the run. -/
theorem placedAct_sameRun (h : Head) (read : HeadUnit) (o : SampleOrder) {a : SampleAct} (rest : List SampleAct) (s : State)
    (ha : a ≠ .forceRun) : SameRun h s (placedAct h read o a rest s) := by
  have plain (hr : a ≠ .regulator) (hs : a ≠ .sequence) (hp : a ≠ .station) (hk : ∀ c, a ≠ .check c) :
      SameRun h s (placedAct h read o a rest s) :=
    .of_reg (placedAct_work h read o rest s ⟨fun e => by rcases e with rfl | rfl; exacts [absurd rfl hr, absurd rfl ha],
      fun e => absurd e hp, fun e => absurd e hs, fun c e => absurd e (hk c)⟩).reg
  cases a with
  | forceRun => exact absurd rfl ha
  | regulator =>
    show SameRun h s (regulatorWork h read.seq.state o.split s)
    exact .of_ite (fun _ => regulatorSample_forceRun ..) fun _ => rfl
  | sequence =>
    show SameRun h s (sequencerWork h read.seq.state o.split s)
    exact .of_ite (fun _ => sequenceWork_sameRun ..) fun _ => rfl
  | station => exact planWork_sameRun ..
  | check c =>
    show SameRun h s (checkWork h read.seq.state c s)
    unfold checkWork
    refine .of_ite (fun _ => rfl) fun _ => .of_ite (fun _ => .of_reg (by simp)) fun _ => ?_
    split
    · exact .of_ite (fun _ => .of_reg (by simp)) fun _ => rfl
    · rfl
  | track | log | grace => exact plain (by simp) (by simp) (by simp) (by simp)

/-- The sample is cut at the force-limit run: what stands before it and what comes behind leave the run. -/
theorem sampleActs_forceRun (h : Head) (read : HeadUnit) (o : SampleOrder) (s : State) :
    ∃ m, SameRun h s m ∧ SameRun h (forceRunWork h read.seq.state o.split m) (sampleActs h read o (actOrder o) s) := by
  obtain ⟨front, rest, e, hf, hr, -⟩ := actOrder_at o (a := .forceRun) (by decide)
  obtain ⟨m, b, onward, -⟩ := sampleActs_through (R := SameRun h) h read o front (.forceRun :: rest) (s := s) rfl
    fun a ha l x b => b.trans (placedAct_sameRun h read o l x fun e => hf (e ▸ ha))
  refine ⟨m, b, ?_⟩
  rw [e, onward]
  exact sampleActs_all (R := SameRun h) h read o rest (s := placedAct h read o .forceRun rest m) rfl
    fun a ha l x b => b.trans (placedAct_sameRun h read o l x fun e => hr (e ▸ ha))

/-- What the run's work leaves in it (R79). -/
theorem forceRunWork_run (h : Head) (found : HeadState) (split : Bool) (s : State) :
    ((forceRunWork h found split s).head h).reg.forceRun =
      forceRunAfter (s.head h) (found.inMaterial && (s.headState h).inMaterial) := by
  unfold forceRunWork
  dsimp only
  split <;> simp

/-- Outside the material the run is 0 (R79). -/
theorem sampleWorked_forceRun (h : Head) (i : SampleInput) (o : SampleOrder) (s : State)
    (hm : (s.headState h).inMaterial = false) : ((sampleWorked h i o s).head h).reg.forceRun = 0 := by
  obtain ⟨m, -, run⟩ := sampleActs_forceRun h ((readSample h i o s).head h) o (readSample h i o s)
  have found : ((readSample h i o s).head h).seq.state = s.headState h := (readSample_read h i o s).headState
  refine Eq.trans run ?_
  rw [forceRunWork_run, found, hm]
  rfl

end

/-! ## The sequencer's work, state by state (R29 to R31, R38, R40 to R44, R47, R154) -/

section
variable {h : Head} {split : Bool} {s : State}

/-- A timer runs down by one sample (R38, R42). -/
def spinupTimed (h : Head) (s : State) : State := s.onSeq h fun q => { q with spinupTimer := q.spinupTimer - 2 }
def dwellTimed (h : Head) (s : State) : State :=
  (followSpindle h s).onSeq h fun q => { q with dwellTimer := q.dwellTimer - 2 }

theorem spinupTimed_seq (h : Head) (s : State) :
    ((spinupTimed h s).head h).seq = { (s.head h).seq with spinupTimer := (s.head h).seq.spinupTimer - 2 } := by
  simp [spinupTimed]

theorem followSpindle_seq (h : Head) (s : State) : ∃ n, ((followSpindle h s).head h).seq = { (s.head h).seq with spindle := n } ∧
    ∀ g, (s.head h).plan.inForce = some g → n = g.spindle := by
  unfold followSpindle
  split
  · next g hg => exact ⟨g.spindle, by simp, fun k hk => by rw [hg] at hk; cases hk; rfl⟩
  · next hg => exact ⟨Config.freeSpindle s.free % 4001, by simp, fun k hk => by rw [hg] at hk; cases hk⟩

theorem dwellTimed_seq (h : Head) (s : State) : ∃ n, ((dwellTimed h s).head h).seq = { (s.head h).seq with
    spindle := n, dwellTimer := (s.head h).seq.dwellTimer - 2 } ∧ ∀ g, (s.head h).plan.inForce = some g → n = g.spindle := by
  obtain ⟨n, e, hn⟩ := followSpindle_seq h s
  exact ⟨n, by simp [dwellTimed, e], hn⟩

/-- The ramp of a plunge at a sample (R40, R41). -/
def HeadUnit.plunging (u : HeadUnit) : Nat × Int :=
  if (u.tool.plungeForceLimit : Int) < u.front.force.effective then (u.seq.rampAcc, u.seq.depth)
  else rampedTo u.seq.rampAcc u.seq.depth u.tool.plungeDepth u.tool.plungeRate

/-- A head in PLUNGE after its ramp and its timer have run (R40). -/
def plungeMoved (h : Head) (s : State) : State := plungeStep h (followSpindle h s)

theorem plungeMoved_seq (h : Head) (s : State) : ∃ n, ((plungeMoved h s).head h).seq = { (s.head h).seq with
    spindle := n, plungeTimer := (s.head h).seq.plungeTimer - 2
    rampAcc := (s.head h).plunging.1, depth := (s.head h).plunging.2 } ∧
    ∀ g, (s.head h).plan.inForce = some g → n = g.spindle := by
  obtain ⟨n, e, hn⟩ := followSpindle_seq h s
  refine ⟨n, ?_, hn⟩
  have tool : ((followSpindle h s).head h).tool = (s.head h).tool := by simp [HeadUnit.tool]
  unfold plungeMoved plungeStep HeadUnit.plunging
  dsimp only
  rw [onSeq_self, e, tool, followSpindle_head_front]
  split <;> rfl

theorem plungeMoved_tool (h : Head) (s : State) : ((plungeMoved h s).head h).tool = (s.head h).tool := by
  simp [plungeMoved, plungeStep, HeadUnit.tool]

/-- The ramp of a retract at a sample (R44, R47). -/
def HeadUnit.retracting (u : HeadUnit) : Nat × Int :=
  rampedTo u.seq.rampAcc u.seq.depth (-(u.tool.clearance : Int)) u.tool.retractRate

theorem retractStep_seq (h : Head) (s : State) : ((retractStep h s).head h).seq = { (s.head h).seq with
    rampAcc := (s.head h).retracting.1, depth := (s.head h).retracting.2
    spindle := if (s.head h).drives.spindleReady then (s.head h).seq.spindle else 0 } := by
  simp [retractStep, HeadUnit.retracting, Sequencer.rampStep, rampedTo, HeadUnit.clearanceHeight]

theorem sequenceWork_spinup (hs : s.headState h = .spinup) (hp : s.present h = true) : sequenceWork h split s =
    if split then spinupTimed h s
    else if (s.head h).drives.atSpeed then enterPlunge h (spinupTimed h s)
    else if (s.head h).seq.spinupTimer ≤ 2 then failStart h .spinupTimeout (spinupTimed h s) else spinupTimed h s := by
  have state : (spinupTimed h s).headState h = .spinup := by simpa [spinupTimed, State.headState] using hs
  have drives : ((spinupTimed h s).head h).drives = (s.head h).drives := by simp [spinupTimed]
  have present : (spinupTimed h s).present h = true := by simpa [spinupTimed] using hp
  have work : sequenceWork h split s = if (s.head h).drives.atSpeed
      then (if split then spinupTimed h s else findAtSpeed h (spinupTimed h s))
      else if split then spinupTimed h s else findSpinupTimeout h (spinupTimed h s) := by
    unfold sequenceWork
    rw [hs]
    rfl
  rw [work]
  cases split
  · simp only [findAtSpeed, findSpinupTimeout, state, drives, present, spinupTimed_seq]
    cases ha : (s.head h).drives.atSpeed
    · simp
    · simp
  · simp

theorem sequenceWork_plunge (hs : s.headState h = .plunge) (hp : s.present h = true) : sequenceWork h split s =
    if split then plungeMoved h s
    else if (s.head h).plunging.2 = ((s.head h).tool.plungeDepth : Int) then enterDwell h (plungeMoved h s)
    else if (s.head h).seq.plungeTimer ≤ 2 then interruptHead h .plungeTimeout (plungeMoved h s) else plungeMoved h s := by
  obtain ⟨n, e, -⟩ := plungeMoved_seq h s
  have state : (plungeMoved h s).headState h = .plunge := by rw [State.headState, e]; exact hs
  have present : (plungeMoved h s).present h = true := by simpa [plungeMoved, plungeStep] using hp
  have work : sequenceWork h split s = if ((plungeMoved h s).head h).plunged
      then (if split then plungeMoved h s else findPlungeDone h (plungeMoved h s))
      else if split then plungeMoved h s else findPlungeTimeout h (plungeMoved h s) := by
    unfold sequenceWork
    rw [hs]
    rfl
  rw [work]
  cases split
  · simp only [findPlungeDone, findPlungeTimeout, state, present, HeadUnit.plunged, e, plungeMoved_tool]
    by_cases hd : (s.head h).plunging.2 = ((s.head h).tool.plungeDepth : Int)
    · simp [hd]
    · simp [hd]
  · simp

theorem sequenceWork_dwell (hs : s.headState h = .dwell) (hp : s.present h = true) : sequenceWork h split s =
    if split = false ∧ (s.head h).seq.dwellTimer ≤ 2 then enterWeld h (dwellTimed h s) else dwellTimed h s := by
  obtain ⟨n, e, -⟩ := dwellTimed_seq h s
  have state : (dwellTimed h s).headState h = .dwell := by rw [State.headState, e]; exact hs
  have present : (dwellTimed h s).present h = true := by simpa [dwellTimed] using hp
  have work : sequenceWork h split s =
      if split then dwellTimed h s else findDwellElapsed h (dwellTimed h s) := by
    unfold sequenceWork
    rw [hs]
    rfl
  rw [work]
  cases split
  · simp [findDwellElapsed, state, present, e]
  · simp

/-- The tool stands raised behind a retract's sample, and the end is not left to its own row. -/
def HeadUnit.clears (u : HeadUnit) (split : Bool) : Prop := u.retracting.2 = -(u.tool.clearance : Int) ∧ split = false

theorem retractStep_raised (h : Head) (s : State) : ((retractStep h s).head h).raised =
    decide ((s.head h).retracting.2 = -((s.head h).tool.clearance : Int)) := by
  have tool : ((retractStep h s).head h).tool = (s.head h).tool := by simp [retractStep, HeadUnit.tool]
  rw [HeadUnit.raised, HeadUnit.clearanceHeight, tool, retractStep_seq]
  rfl

theorem sequenceWork_exit (hs : s.headState h = .exit) (hp : s.present h = true) :
    ((s.head h).clears split → sequenceWork h split s = finishExit h (retractStep h s)) ∧
    (¬(s.head h).clears split → sequenceWork h split s = retractStep h s) := by
  have state : (retractStep h s).headState h = .exit := by rw [State.headState, retractStep_seq]; exact hs
  have present : (retractStep h s).present h = true := by simpa [retractStep] using hp
  have work : sequenceWork h split s = if split then retractStep h s else findExitRetract h (retractStep h s) := by
    unfold sequenceWork
    rw [hs]
  rw [work]
  cases split
  · by_cases hd : (s.head h).retracting.2 = -((s.head h).tool.clearance : Int) <;>
      simp [HeadUnit.clears, findExitRetract, state, present, retractStep_raised, hd]
  · simp [HeadUnit.clears]

theorem sequenceWork_interrupting (hs : s.headState h = .interrupting) (hp : s.present h = true) :
    ((s.head h).clears split → sequenceWork h split s = finishInterrupting h (retractStep h s)) ∧
    (¬(s.head h).clears split → sequenceWork h split s = retractStep h s) := by
  have state : (retractStep h s).headState h = .interrupting := by rw [State.headState, retractStep_seq]; exact hs
  have present : (retractStep h s).present h = true := by simpa [retractStep] using hp
  have work : sequenceWork h split s = if split then retractStep h s else findInterruptingRetract h (retractStep h s) := by
    unfold sequenceWork
    rw [hs]
  rw [work]
  cases split
  · by_cases hd : (s.head h).retracting.2 = -((s.head h).tool.clearance : Int) <;>
      simp [HeadUnit.clears, findInterruptingRetract, state, present, retractStep_raised, hd]
  · simp [HeadUnit.clears]

/-- The station of a WELD entry is kept by the plan store's check behind it (R43). -/
theorem completeSegments_weldEntry (n : Nat) (h : Head) (s : State) :
    ((completeSegments n h s).head h).seq.weldEntry = (s.head h).seq.weldEntry := by
  induction n generalizing s with
  | zero => rfl
  | succ n ih =>
    have completed (g : Segment) (rest : List Segment) :
        ((completeSegment h g rest s).head h).seq.weldEntry = (s.head h).seq.weldEntry := by rw [completeSegment_self]
    rw [completeSegments]
    split
    · rfl
    · next g rest _ =>
      split
      · rfl
      · dsimp only
        split
        · rw [← completed g rest]
          simp [enterExit, setHeadState_self, startRamp]
        · split
          · split
            · exact completed g rest
            · have starved : ((starve h g (completeSegment h g rest s)).head h).seq.weldEntry =
                  (s.head h).seq.weldEntry := by rw [starve_self, ← completed g rest]
              unfold checkAllowance
              split
              · split
                · cases ha : Cause.planStarved.actsIn ((starve h g (completeSegment h g rest s)).headState h) with
                  | false => rw [interruptHead_of_not_acts ha, starved]
                  | true => rw [(interruptHead_interrupted h _ _ ha).seq, ← starved]
                · exact starved
              · exact starved
          · exact (ih _).trans (completed g rest)

theorem enterWeld_weldEntry (h : Head) (s : State) : ((enterWeld h s).head h).seq.weldEntry = s.toolStation h := by
  have entered : ((weldEntered h s).head h).seq.weldEntry = s.toolStation h := by rw [weldEntered_self]
  rw [enterWeld_eq]
  split
  · unfold reentryCheck
    split
    · split
      · rw [starve_self]
        exact entered
      · exact entered
    · exact (completeSegments_weldEntry ..).trans entered
  · exact entered

/-! ### CALIBRATING (R154 to R156) -/

/-- A calibration's sample, by what its FORCE reading is. -/
theorem sequenceWork_calibrating (hs : s.headState h = .calibrating) : sequenceWork h split s = calibrationSample h split s := by
  unfold sequenceWork
  rw [hs]

theorem endCalibration_seq (h : Head) (st : HeadState) (s : State) :
    ((endCalibration h st s).head h).seq.state = st ∧ ((endCalibration h st s).head h).seq.cal = ⟨none, 0, 0, 0, 0⟩ := by
  simp [endCalibration, setHeadState_self, CalAccumulator.clear]

theorem calibrationSample_invalid (hv : (s.head h).front.force.valid = false) :
    ((calibrationSample h split s).head h).seq.state = (s.head h).seq.origin ∧
      ((calibrationSample h split s).head h).seq.cal = ⟨none, 0, 0, 0, 0⟩ ∧
      ((calibrationSample h split s).head h).front = (s.head h).front := by
  have aborts : calibrationSample h split s = abortCalibration h .sensor s := by simp [calibrationSample, hv]
  rw [aborts]
  refine ⟨(endCalibration_seq ..).1, (endCalibration_seq ..).2, ?_⟩
  simp [abortCalibration, endCalibration]

/-- The reading added (R154). -/
def readingAdded (h : Head) (s : State) : State :=
  s.onSeq h fun q => { q with cal := q.cal.add (s.head h).front.force.raw }

theorem calibrationSample_added (hv : (s.head h).front.force.valid = true)
    (hc : (s.head h).seq.cal.count < 255 ∨ (s.head h).seq.cal.count = 255 ∧ split = true) :
    calibrationSample h split s = readingAdded h s := by
  have less : (s.head h).seq.cal.count < Config.calibrationSamples := by
    show _ < 256
    omega
  have unjudged : ¬(((readingAdded h s).head h).seq.cal.count = Config.calibrationSamples ∧ !split) := by
    rintro ⟨full, hn⟩
    have count : (s.head h).seq.cal.count = 255 := by simpa [readingAdded, CalAccumulator.add, Config.calibrationSamples] using full
    rcases hc with hc | ⟨-, hc⟩
    · omega
    · simp [hc] at hn
  unfold calibrationSample
  dsimp only
  rw [if_neg (by simp [hv]), if_pos less]
  exact if_neg unjudged

theorem calibrationSample_judged (hv : (s.head h).front.force.valid = true) (hc : (s.head h).seq.cal.count = 255)
    (hn : split = false) : calibrationSample h split s = judgeCalibration h (readingAdded h s) := by
  have full : ((readingAdded h s).head h).seq.cal.count = Config.calibrationSamples := by
    simp [readingAdded, CalAccumulator.add, hc, Config.calibrationSamples]
  unfold calibrationSample
  dsimp only
  rw [if_neg (by simp [hv]), if_pos (by simp [hc, Config.calibrationSamples])]
  exact if_pos ⟨full, by simp [hn]⟩

/-- A judgement leads back to the state of origin or to READY, and sets the FORCE offset alone (R155). -/
theorem judgeCalibration_state (h : Head) (s : State) :
    ((judgeCalibration h s).head h).seq.state = (s.head h).seq.origin ∨ ((judgeCalibration h s).head h).seq.state = .ready := by
  unfold judgeCalibration failCalibration succeedCalibration
  dsimp only
  split
  · exact .inl (endCalibration_seq ..).1
  · split
    · exact .inl (endCalibration_seq ..).1
    · rw [(endCalibration_seq ..).1]
      split
      · next ho => exact .inl ho.symm
      · exact .inr rfl

theorem judgeCalibration_force (h : Head) (s : State) : ((judgeCalibration h s).head h).front.force =
    { (s.head h).front.force with offset := ((judgeCalibration h s).head h).front.force.offset } := by
  unfold judgeCalibration failCalibration succeedCalibration endCalibration
  dsimp only
  split
  · simp
  · split <;> simp

theorem calibrationSample_force (h : Head) (split : Bool) (s : State) :
    ((calibrationSample h split s).head h).front.force = { (s.head h).front.force with
      offset := ((calibrationSample h split s).head h).front.force.offset } := by
  unfold calibrationSample
  dsimp only
  split
  · simp [abortCalibration, endCalibration]
  · split
    · split
      · rw [judgeCalibration_force]
        simp
      · simp
    · rfl

end

/-! ## A whole sample outside WELD and PAUSE -/

section
variable {h : Head} {i : SampleInput} {o : SampleOrder} {s : State}

/-- Where nothing interrupts and no start can fail, the work beside the sequencer's leaves the head standing. -/
theorem Beside.stands_of_quiet {found : HeadState} {t : State} (b : Beside h found s t)
    (hm : found.inMaterial = false) (hs : found.starting = false) : Standing h found s t := by
  cases b with
  | stands w => exact w
  | interrupted hf i => exact absurd (hf.symm.trans hm) (by decide)
  | ended hf e => exact absurd (hf.symm.trans hs) (by decide)

/-- A state other than those that the work beside the sequencer's leads to was there before it. -/
theorem Beside.standing_of_state {found : HeadState} {t : State} (b : Beside h found s t)
    (hi : t.headState h ≠ .interrupting) (he : (t.headState h).engaged = true) : Standing h found s t := by
  cases b with
  | stands w => exact w
  | interrupted hf j => exact absurd j.headState hi
  | ended hf e => exact absurd (he.symm.trans e.idle) (by decide)

/-- The sample of a head outside WELD and PAUSE, cut at the sequencer's work. -/
theorem sampleWorked_cut (hw : (s.headState h).welding = false) :
    ∃ m, Beside h (s.headState h) (readSample h i o s) m ∧
      Beside h (s.headState h) (sequencerWork h (s.headState h) o.split m) (sampleWorked h i o s) ∧
      (o.acts.head? = some .sequence → m = readSample h i o s) := by
  have found : ((readSample h i o s).head h).seq.state = s.headState h := (readSample_read h i o s).headState
  have cut := sampleActs_sequence h ((readSample h i o s).head h) o (readSample h i o s) (by rw [found, hw])
  rwa [found] at cut

/-- The sequencer's work is done in the state the sample found, by a head that stands where its sample found it. -/
theorem sequencerWork_found {m : State} {st : HeadState} (hm : m.headState h = st) (split : Bool) :
    sequencerWork h st split m = sequenceWork h split m := if_pos hm

/-- What stays of the sample's reading over the whole sample, outside CALIBRATING. -/
theorem sampleWorked_scene (hc : s.headState h ≠ .calibrating) :
    Scene h (readSample h i o s) (sampleWorked h i o s) := by
  have found : ((readSample h i o s).head h).seq.state = s.headState h := (readSample_read h i o s).headState
  exact sampleActs_all (R := Scene h) h _ o (actOrder o) (s := readSample h i o s) (.refl ..) fun a _ l x w =>
    w.trans (placedAct_scene h _ o a l x (by rw [found]; exact hc))

/-! ### What stands at the sequencer's work is what the sample found -/

/-- A head that stands at the sequencer's work as its sample found it. -/
structure AtWork (h : Head) (i : SampleInput) (s m : State) : Prop where
  state : m.headState h = s.headState h
  present : m.present h = s.present h
  seq : (m.head h).seq = { (s.head h).seq with originTaken := (s.head h).originRead }
  plan : (m.head h).plan = (s.head h).plan
  tool : (m.head h).tool = (s.head h).tool
  drives : (m.head h).drives = readDrives (s.headState h) i (s.head h).drives

theorem Standing.atWork {m : State} (w : Standing h (s.headState h) (readSample h i o s) m) : AtWork h i s m := by
  have read := readSample_read h i o s
  refine ⟨w.headState.trans read.headState, w.present.trans (read.present h), w.seq.trans read.seq, w.plan.trans read.plan,
    w.tool.trans ?_, w.drives.trans read.drives⟩
  simp [HeadUnit.tool, read.profiles]

theorem AtWork.plunging {m : State} (w : AtWork h i s m) (f : Int) (hf : (m.head h).front.force.effective = f) :
    (m.head h).plunging = if ((s.head h).tool.plungeForceLimit : Int) < f
      then ((s.head h).seq.rampAcc, (s.head h).seq.depth)
      else rampedTo (s.head h).seq.rampAcc (s.head h).seq.depth (s.head h).tool.plungeDepth (s.head h).tool.plungeRate := by
  rw [HeadUnit.plunging, hf, w.tool, w.seq]

theorem AtWork.retracting {m : State} (w : AtWork h i s m) : (m.head h).retracting =
    rampedTo (s.head h).seq.rampAcc (s.head h).seq.depth (-((s.head h).tool.clearance : Int)) (s.head h).tool.retractRate := by
  rw [HeadUnit.retracting, w.tool, w.seq]

/-- A head that the sample leaves in the state in which it found it. -/
theorem sample_stays (hw : (s.headState h).welding = false) (hi : s.headState h ≠ .interrupting)
    (he : (s.headState h).engaged = true) (hx : (sampleWorked h i o s).headState h = s.headState h) :
    ∃ m, Standing h (s.headState h) (readSample h i o s) m ∧
      Standing h (s.headState h) (sequenceWork h o.split m) (sampleWorked h i o s) := by
  obtain ⟨m, before, behind, -⟩ := sampleWorked_cut (i := i) (o := o) (s := s) (h := h) hw
  have later := behind.standing_of_state (by rwa [hx]) (by rwa [hx])
  have state : (sequencerWork h (s.headState h) o.split m).headState h = s.headState h := later.headState.symm.trans hx
  have stood : Standing h (s.headState h) (readSample h i o s) m := by
    by_cases hm : m.headState h = s.headState h
    · exact before.standing_of_state (by rwa [hm]) (by rwa [hm])
    · rw [sequencerWork, if_neg hm] at state
      exact absurd state hm
  rw [sequencerWork_found stood.atWork.state] at later
  exact ⟨m, stood, later⟩

/-- A sample whose order takes the sequencer's work first. -/
theorem sample_first (hw : (s.headState h).welding = false) (hf : o.acts.head? = some .sequence) :
    AtWork h i s (readSample h i o s) ∧
      Beside h (s.headState h) (sequenceWork h o.split (readSample h i o s)) (sampleWorked h i o s) := by
  obtain ⟨m, before, behind, first⟩ := sampleWorked_cut (i := i) (o := o) (s := s) (h := h) hw
  obtain rfl := first hf
  have w : AtWork h i s (readSample h i o s) := (Standing.refl ..).atWork
  rw [sequencerWork_found w.state] at behind
  exact ⟨w, behind⟩

/-- A sample that found a head in no start and not in the material. -/
theorem sample_quiet (hm : (s.headState h).inMaterial = false) (hs : (s.headState h).starting = false) :
    ∃ m, Standing h (s.headState h) (readSample h i o s) m ∧
      Standing h (s.headState h) (sequenceWork h o.split m) (sampleWorked h i o s) := by
  obtain ⟨m, before, behind, -⟩ := sampleWorked_cut (i := i) (o := o) (s := s) (h := h) (HeadState.welding_inMaterial hm)
  have stood := before.stands_of_quiet hm hs
  have later := behind.stands_of_quiet hm hs
  rw [sequencerWork_found stood.atWork.state] at later
  exact ⟨m, stood, later⟩

/-! ### SPINUP (R38) -/

/-- A head that is in SPINUP behind its sample has only had its timer run. -/
theorem spinup_stays (hp : s.present h = true) (hs : s.headState h = .spinup)
    (hx : (sampleWorked h i o s).headState h = .spinup) :
    ((sampleWorked h i o s).head h).seq = { (s.head h).seq with
      originTaken := (s.head h).originRead, spinupTimer := (s.head h).seq.spinupTimer - 2 } ∧
    (o.split = false → i.atSpeed = false ∧ 2 < (s.head h).seq.spinupTimer) := by
  obtain ⟨m, stood, later⟩ := sample_stays (by rw [hs]; rfl) (by rw [hs]; decide) (by rw [hs]; rfl) (hx.trans hs.symm)
  have w := stood.atWork
  have state : (sequenceWork h o.split m).headState h = .spinup := later.headState.symm.trans hx
  rw [sequenceWork_spinup (w.state.trans hs) (w.present.trans hp), w.drives, hs] at state later
  have atSpeed : (readDrives .spinup i (s.head h).drives).atSpeed = i.atSpeed := rfl
  have timed : ((spinupTimed h m).head h).seq = { (s.head h).seq with
      originTaken := (s.head h).originRead, spinupTimer := (s.head h).seq.spinupTimer - 2 } := by
    rw [spinupTimed_seq, w.seq]
  rw [atSpeed] at state later
  split at state
  · next split =>
    rw [if_pos split] at later
    exact ⟨later.seq.trans timed, fun hn => by rw [split] at hn; cases hn⟩
  next split =>
  rw [if_neg split] at later
  split at state
  · simp [enterPlunge] at state
  next slow =>
  rw [if_neg slow] at later
  split at state
  · rw [(failStart_ended ..).headState] at state
    split at state <;> cases state
  · next runs =>
    rw [if_neg runs] at later
    rw [w.seq] at runs
    exact ⟨later.seq.trans timed, fun _ => ⟨by simpa using slow, by simpa using runs⟩⟩

/-- SPINUP ends at a sample that takes the sequencer's work first: in PLUNGE at speed, with the start failed when the timer
has run out. -/
theorem spinup_ends (hp : s.present h = true) (hs : s.headState h = .spinup) (hf : o.acts.head? = some .sequence)
    (hn : o.split = false) :
    (i.atSpeed = true → (sampleWorked h i o s).headState h = .plunge) ∧
    (i.atSpeed = false → (s.head h).seq.spinupTimer ≤ 2 →
      (sampleWorked h i o s).headState h = (if (s.head h).seq.kind = .fresh then .ready else .interrupted) ∧
      ((sampleWorked h i o s).head h).seq.spindle = 0) := by
  obtain ⟨w, behind⟩ := sample_first (i := i) (o := o) (s := s) (h := h) (by rw [hs]; rfl) hf
  rw [sequenceWork_spinup (w.state.trans hs) (w.present.trans hp), w.drives, hs, hn, w.seq] at behind
  have atSpeed : (readDrives .spinup i (s.head h).drives).atSpeed = i.atSpeed := rfl
  rw [atSpeed] at behind
  refine ⟨fun fast => ?_, fun slow out => ?_⟩
  · rw [fast] at behind
    cases behind with
    | stands v => exact v.headState.trans (by simp [enterPlunge])
    | interrupted hm _ => cases hm
    | ended _ e =>
      have plunging := e.found
      simp [enterPlunge, HeadState.starting] at plunging
  · simp only [slow, out, Bool.false_eq_true, if_false, if_true] at behind
    obtain ⟨-, -, -, -, own⟩ := failStart_ended h .spinupTimeout (spinupTimed h (readSample h i o s))
    have kind : ((spinupTimed h (readSample h i o s)).head h).seq.kind = (s.head h).seq.kind := by
      rw [spinupTimed_seq, w.seq]
    rw [kind] at own
    have left : (failStart h .spinupTimeout (spinupTimed h (readSample h i o s))).headState h =
        if (s.head h).seq.kind = .fresh then .ready else .interrupted := by rw [State.headState, own]
    have stood := behind.standing (by rw [left]; split <;> rfl) (by rw [left]; split <;> rfl)
    exact ⟨stood.headState.trans left, by rw [stood.seq, own]⟩

/-! ### PLUNGE (R40, R41) -/

/-- The force that the plunge ramp reads is that of the sample. -/
theorem sample_force {m : State} (hc : s.headState h ≠ .calibrating)
    (w : Standing h (s.headState h) (readSample h i o s) m) :
    (m.head h).front = ((sampleWorked h i o s).head h).front :=
  w.front.trans (sampleWorked_scene hc).front.symm

/-- A head that is in PLUNGE behind its sample has had its timer, its ramp and its spindle's speed taken on. -/
theorem plunge_stays (hp : s.present h = true) (hs : s.headState h = .plunge)
    (hx : (sampleWorked h i o s).headState h = .plunge) : ∃ m n, AtWork h i s m ∧
    (m.head h).front = ((sampleWorked h i o s).head h).front ∧
    ((sampleWorked h i o s).head h).seq = { (s.head h).seq with
      originTaken := (s.head h).originRead, spindle := n, plungeTimer := (s.head h).seq.plungeTimer - 2
      rampAcc := (m.head h).plunging.1, depth := (m.head h).plunging.2 } ∧
    (∀ g, (s.head h).plan.inForce = some g → n = g.spindle) ∧
    (o.split = false → (m.head h).plunging.2 ≠ ((s.head h).tool.plungeDepth : Int) ∧ 2 < (s.head h).seq.plungeTimer) := by
  obtain ⟨m, stood, later⟩ := sample_stays (by rw [hs]; rfl) (by rw [hs]; decide) (by rw [hs]; rfl) (hx.trans hs.symm)
  have w := stood.atWork
  obtain ⟨n, moved, hn⟩ := plungeMoved_seq h m
  rw [w.seq] at moved
  rw [w.plan] at hn
  have state : (sequenceWork h o.split m).headState h = .plunge := later.headState.symm.trans hx
  rw [sequenceWork_plunge (w.state.trans hs) (w.present.trans hp), w.tool, w.seq] at state later
  refine ⟨m, n, w, sample_force (by rw [hs]; decide) stood, ?_⟩
  split at state
  · next split =>
    rw [if_pos split] at later
    exact ⟨later.seq.trans moved, hn, fun c => by rw [split] at c; cases c⟩
  next split =>
  rw [if_neg split] at later
  split at state
  · simp [enterDwell] at state
  next deep =>
  rw [if_neg deep] at later
  split at state
  · have plunges : (plungeMoved h m).headState h = .plunge := by rw [State.headState, moved]; exact hs
    rw [(interruptHead_interrupted h .plungeTimeout _ (by rw [plunges]; rfl)).headState] at state
    cases state
  · next runs =>
    rw [if_neg runs] at later
    exact ⟨later.seq.trans moved, hn, fun _ => ⟨deep, by simpa using runs⟩⟩

/-- A plunge ends at a sample that takes the sequencer's work first: complete in DWELL, or with its timer run out. -/
theorem plunge_ends (hp : s.present h = true) (hs : s.headState h = .plunge) (hf : o.acts.head? = some .sequence)
    (hn : o.split = false) : ∃ m, AtWork h i s m ∧ (m.head h).front = ((sampleWorked h i o s).head h).front ∧
    ((m.head h).plunging.2 = ((s.head h).tool.plungeDepth : Int) →
      ((sampleWorked h i o s).head h).seq.dwellTimer = ((s.head h).tool.dwell : Int) ∧
      ((sampleWorked h i o s).headState h = .dwell ∨ (sampleWorked h i o s).headState h = .interrupting)) ∧
    ((m.head h).plunging.2 ≠ ((s.head h).tool.plungeDepth : Int) → (s.head h).seq.plungeTimer ≤ 2 →
      (sampleWorked h i o s).headState h = .interrupting ∧
      ((sampleWorked h i o s).head h).seq.cause = some .plungeTimeout) := by
  obtain ⟨w, behind⟩ := sample_first (i := i) (o := o) (s := s) (h := h) (by rw [hs]; rfl) hf
  refine ⟨readSample h i o s, w, sample_force (by rw [hs]; decide) (.refl ..), fun deep => ?_, fun deep out => ?_⟩
  · rw [sequenceWork_plunge (w.state.trans hs) (w.present.trans hp), hn, if_neg (by decide), w.tool, if_pos deep] at behind
    have entered : ((enterDwell h (plungeMoved h (readSample h i o s))).head h).seq.dwellTimer =
        ((s.head h).tool.dwell : Int) := by
      simp [enterDwell, setHeadState_self, plungeMoved_tool, w.tool]
    have dwells : (enterDwell h (plungeMoved h (readSample h i o s))).headState h = .dwell := by simp [enterDwell]
    cases behind with
    | stands v => exact ⟨by rw [v.seq, entered], .inl (v.headState.trans dwells)⟩
    | interrupted _ j => exact ⟨by rw [j.seq, entered], .inr j.headState⟩
    | ended hm _ =>
      rw [hs] at hm
      cases hm
  · rw [sequenceWork_plunge (w.state.trans hs) (w.present.trans hp), hn, if_neg (by decide), w.tool, if_neg deep,
      if_pos (by rw [w.seq]; exact out)] at behind
    obtain ⟨n, moved, -⟩ := plungeMoved_seq h (readSample h i o s)
    have plunges : (plungeMoved h (readSample h i o s)).headState h = .plunge := by
      rw [State.headState, moved]
      exact w.state.trans hs
    have interrupted := interruptHead_interrupted h .plungeTimeout _ (show _ = true by rw [plunges]; rfl)
    have stood := behind.standing (by rw [interrupted.headState]; rfl) (by rw [interrupted.headState]; rfl)
    exact ⟨stood.headState.trans interrupted.headState, by rw [stood.seq, interrupted.seq]⟩

/-! ### DWELL (R42) -/

theorem dwell_stays (hp : s.present h = true) (hs : s.headState h = .dwell)
    (hx : (sampleWorked h i o s).headState h = .dwell) : ∃ n,
    ((sampleWorked h i o s).head h).seq = { (s.head h).seq with
      originTaken := (s.head h).originRead, spindle := n, dwellTimer := (s.head h).seq.dwellTimer - 2 } ∧
    (∀ g, (s.head h).plan.inForce = some g → n = g.spindle) ∧ (o.split = false → 2 < (s.head h).seq.dwellTimer) := by
  obtain ⟨m, stood, later⟩ := sample_stays (by rw [hs]; rfl) (by rw [hs]; decide) (by rw [hs]; rfl) (hx.trans hs.symm)
  have w := stood.atWork
  obtain ⟨n, timed, hn⟩ := dwellTimed_seq h m
  rw [w.seq] at timed
  rw [w.plan] at hn
  have state : (sequenceWork h o.split m).headState h = .dwell := later.headState.symm.trans hx
  rw [sequenceWork_dwell (w.state.trans hs) (w.present.trans hp), w.seq] at state later
  refine ⟨n, ?_⟩
  split at state
  · exact absurd state (enterWeld_not_dwell h _)
  · next runs =>
    rw [if_neg runs] at later
    exact ⟨later.seq.trans timed, hn, fun split => by simpa [split] using runs⟩

theorem dwell_ends (hp : s.present h = true) (hs : s.headState h = .dwell) (hf : o.acts.head? = some .sequence)
    (hn : o.split = false) (ht : (s.head h).seq.dwellTimer ≤ 2) : (sampleWorked h i o s).headState h ≠ .dwell ∧
      ((sampleWorked h i o s).head h).seq.weldEntry = (sampleWorked h i o s).toolStation h := by
  obtain ⟨w, behind⟩ := sample_first (i := i) (o := o) (s := s) (h := h) (by rw [hs]; rfl) hf
  rw [sequenceWork_dwell (w.state.trans hs) (w.present.trans hp), if_pos ⟨hn, by rw [w.seq]; exact ht⟩] at behind
  have tool : (sampleWorked h i o s).toolStation h = (readSample h i o s).toolStation h :=
    (sampleWorked_scene (by rw [hs]; decide)).toolStation
  have entry : ((enterWeld h (dwellTimed h (readSample h i o s))).head h).seq.weldEntry =
      (readSample h i o s).toolStation h := by
    rw [enterWeld_weldEntry]
    obtain ⟨n, timed, -⟩ := dwellTimed_seq h (readSample h i o s)
    rw [State.toolStation, timed]
    simp [dwellTimed, State.toolStation]
  cases behind with
  | stands v => exact ⟨by rw [v.headState]; exact enterWeld_not_dwell h _, by rw [v.seq, entry, tool]⟩
  | interrupted _ j => exact ⟨by rw [j.headState]; decide, by rw [j.seq, tool]; exact entry⟩
  | ended hm _ =>
    rw [hs] at hm
    cases hm

/-! ### EXIT and INTERRUPTING (R44, R47) -/

theorem exit_sample (hp : s.present h = true) (hs : s.headState h = .exit) : ∃ m, AtWork h i s m ∧
    ((m.head h).clears o.split → (sampleWorked h i o s).headState h = readyOrCalDue (s.head h).seq ∧
      ((sampleWorked h i o s).head h).seq.rampAcc = (m.head h).retracting.1 ∧
      ((sampleWorked h i o s).head h).seq.depth = (m.head h).retracting.2 ∧
      ((sampleWorked h i o s).head h).seq.spindle = 0) ∧
    (¬(m.head h).clears o.split → ((sampleWorked h i o s).head h).seq = { (s.head h).seq with
      originTaken := (s.head h).originRead, rampAcc := (m.head h).retracting.1, depth := (m.head h).retracting.2
      spindle := if i.spindleReady then (s.head h).seq.spindle else 0 }) := by
  obtain ⟨m, stood, later⟩ := sample_quiet (i := i) (o := o) (s := s) (h := h) (by rw [hs]; rfl) (by rw [hs]; rfl)
  have w := stood.atWork
  obtain ⟨clear, unclear⟩ := sequenceWork_exit (split := o.split) (w.state.trans hs) (w.present.trans hp)
  have retracted := retractStep_seq h m
  refine ⟨m, w, fun c => ?_, fun c => ?_⟩
  · rw [clear c] at later
    have finished : ((finishExit h (retractStep h m)).head h).seq = { (m.head h).seq with
        state := readyOrCalDue (s.head h).seq, rampAcc := (m.head h).retracting.1, depth := (m.head h).retracting.2
        spindle := 0 } := by
      have target : readyOrCalDue ((retractStep h m).head h).seq = readyOrCalDue (s.head h).seq := by
        rw [readyOrCalDue, retracted, w.seq]
        rfl
      have raises : (readyOrCalDue (s.head h).seq).raises = true := (readyOrCalDue_idle _).2.1
      unfold finishExit
      rw [target, setHeadState_self, onSeq_self, raises, retracted]
      simp
    exact ⟨later.headState.trans (by rw [State.headState, finished]), by rw [later.seq, finished],
      by rw [later.seq, finished], by rw [later.seq, finished]⟩
  · rw [unclear c] at later
    rw [later.seq, retracted, w.seq, w.drives]
    rfl

theorem interrupting_sample (hp : s.present h = true) (hs : s.headState h = .interrupting) : ∃ m, AtWork h i s m ∧
    ((m.head h).clears o.split → (sampleWorked h i o s).headState h = .interrupted ∧
      ((sampleWorked h i o s).head h).seq.rampAcc = (m.head h).retracting.1 ∧
      ((sampleWorked h i o s).head h).seq.depth = (m.head h).retracting.2 ∧
      ((sampleWorked h i o s).head h).seq.spindle = 0 ∧ ((sampleWorked h i o s).head h).track.queue = []) ∧
    (¬(m.head h).clears o.split → ((sampleWorked h i o s).head h).seq = { (s.head h).seq with
      originTaken := (s.head h).originRead, rampAcc := (m.head h).retracting.1, depth := (m.head h).retracting.2
      spindle := if i.spindleReady then (s.head h).seq.spindle else 0 }) := by
  obtain ⟨m, stood, later⟩ := sample_quiet (i := i) (o := o) (s := s) (h := h) (by rw [hs]; rfl) (by rw [hs]; rfl)
  have w := stood.atWork
  obtain ⟨clear, unclear⟩ := sequenceWork_interrupting (split := o.split) (w.state.trans hs) (w.present.trans hp)
  have retracted := retractStep_seq h m
  refine ⟨m, w, fun c => ?_, fun c => ?_⟩
  · rw [clear c] at later
    have finished : ((finishInterrupting h (retractStep h m)).head h).seq = { (m.head h).seq with
        state := .interrupted, rampAcc := (m.head h).retracting.1, depth := (m.head h).retracting.2
        spindle := 0 } := by
      unfold finishInterrupting enterInterrupted
      rw [emptyTrack, onTrack_head_seq, setHeadState_self, onSeq_self, retracted]
      simp [HeadState.raises]
    have emptied : ((finishInterrupting h (retractStep h m)).head h).track.queue = [] := by
      simp [finishInterrupting, enterInterrupted, emptyTrack]
    exact ⟨later.headState.trans (by rw [State.headState, finished]), by rw [later.seq, finished],
      by rw [later.seq, finished], by rw [later.seq, finished], later.emptied emptied⟩
  · rw [unclear c] at later
    rw [later.seq, retracted, w.seq, w.drives]
    rfl

/-! ### CALIBRATING (R154, R156) -/

theorem calibrating_sample (hs : s.headState h = .calibrating) :
    (((sampleWorked h i o s).head h).front.force.valid = false →
      (sampleWorked h i o s).headState h = (s.head h).seq.origin ∧
      ((sampleWorked h i o s).head h).seq.cal = ⟨none, 0, 0, 0, 0⟩) ∧
    (((sampleWorked h i o s).head h).front.force.valid = true →
      (s.head h).seq.cal.count < 255 ∨ (s.head h).seq.cal.count = 255 ∧ o.split = true →
      (sampleWorked h i o s).headState h = .calibrating ∧
      ((sampleWorked h i o s).head h).seq.cal = (s.head h).seq.cal.add ((sampleWorked h i o s).head h).front.force.raw) ∧
    (((sampleWorked h i o s).head h).front.force.valid = true → (s.head h).seq.cal.count = 255 → o.split = false →
      (sampleWorked h i o s).headState h = (s.head h).seq.origin ∨ (sampleWorked h i o s).headState h = .ready) := by
  obtain ⟨m, stood, later⟩ := sample_quiet (i := i) (o := o) (s := s) (h := h) (by rw [hs]; rfl) (by rw [hs]; rfl)
  have w := stood.atWork
  rw [sequenceWork_calibrating (w.state.trans hs)] at later
  have force := calibrationSample_force h o.split m
  have valid : ((sampleWorked h i o s).head h).front.force.valid = (m.head h).front.force.valid := by
    rw [later.front, force]
  have raw : ((sampleWorked h i o s).head h).front.force.raw = (m.head h).front.force.raw := by
    rw [later.front, force]
  have cal : (m.head h).seq.cal = (s.head h).seq.cal := by rw [w.seq]
  have origin : (m.head h).seq.origin = (s.head h).seq.origin := by
    simp only [Sequencer.origin, cal]
  rw [valid, raw, later.headState, later.seq, ← cal, ← origin]
  refine ⟨fun hv => ?_, fun hv hc => ?_, fun hv hc hn => ?_⟩
  · obtain ⟨state, clear, -⟩ := calibrationSample_invalid (split := o.split) hv
    exact ⟨state, clear⟩
  · rw [calibrationSample_added hv hc]
    exact ⟨(onSeq_headState_self ..).trans (w.state.trans hs), by simp [readingAdded]⟩
  · rw [calibrationSample_judged hv hc hn]
    have judged := judgeCalibration_state h (readingAdded h m)
    have same : ((readingAdded h m).head h).seq.origin = (m.head h).seq.origin := by
      simp [readingAdded, Sequencer.origin, CalAccumulator.add]
    rwa [same] at judged

/-! ### The raise of R31 -/

theorem raiseTool_seq (h : Head) (s : State) {tool : ToolSet} (ht : (s.head h).profiles.tool = some tool) :
    ((raiseTool h s).head h).seq =
      (let q := (s.head h).seq
       let goal : Int := -(tool.clearance : Int)
       let sum := (if q.raising then q.rampAcc else 499) + tool.retractRate
       let depth := if goal < q.depth then max goal (q.depth - (sum / 500 : Nat)) else q.depth
       { q with
         depth := depth, rampAcc := if goal < q.depth then sum % 500 else q.rampAcc, raising := decide (goal < depth) }) := by
  unfold raiseTool
  rw [ht]
  dsimp only
  rw [onSeq_self]
  by_cases deep : -(tool.clearance : Int) < (s.head h).seq.depth
  · have above : ¬(s.head h).seq.depth ≤ -(tool.clearance : Int) := by omega
    simp only [deep, if_true]
    cases (s.head h).seq.raising <;> simp [Sequencer.rampStep, above]
  · simp [deep]

theorem sequenceWork_idle {m : State} (he : (m.headState h).engaged = false) (hc : m.headState h ≠ .calibrating)
    (split : Bool) : sequenceWork h split m = raiseTool h m := by
  unfold sequenceWork
  revert he hc
  cases m.headState h <;> simp [HeadState.engaged]

/-- A head that is not engaged stands through its sample, but for the raise and the force-limit run. -/
theorem idle_sample (he : (s.headState h).engaged = false) (hc : s.headState h ≠ .calibrating) :
    ∃ m, Standing h (s.headState h) (readSample h i o s) m ∧
      Standing h (s.headState h) (raiseTool h m) (sampleWorked h i o s) := by
  obtain ⟨m, stood, later⟩ := sample_quiet (i := i) (o := o) (s := s) (h := h) (HeadState.inMaterial_of_idle he)
    (HeadState.starting_of_idle he)
  rw [sequenceWork_idle (by rw [stood.atWork.state]; exact he) (by rw [stood.atWork.state]; exact hc)] at later
  exact ⟨m, stood, later⟩

end

/-! ## The sequencer at a sample outside WELD and PAUSE -/

/-- A raise moves the sequencer's items alone (R31). -/
theorem raiseTool_self (h : Head) (s : State) :
    (raiseTool h s).head h = { s.head h with seq := ((raiseTool h s).head h).seq } ∧
      (raiseTool h s).head h.other = s.head h.other ∧ (raiseTool h s).gov = s.gov := by
  unfold raiseTool
  split
  · exact ⟨rfl, rfl, rfl⟩
  · exact ⟨by simp, by simp, by simp⟩

/-- A head that is not engaged stays so, with its plan, its log and the output, and its tool is raised (R31). -/
theorem idle_sample_raises {h : Head} {i : SampleInput} {o : SampleOrder} {s : State}
    (he : (s.headState h).engaged = false) (hc : s.headState h ≠ .calibrating) (hf : ∀ c, faultOf i c = none) :
    let x := sampleWorked h i o s
    x.gov = s.gov ∧ x.head h.other = s.head h.other ∧ (x.head h).plan = (s.head h).plan ∧
      (x.head h).log = (s.head h).log ∧ (x.head h).travel = (s.head h).travel ∧
      (x.head h).reg = { (s.head h).reg with forceRun := 0 } ∧
      (x.head h).track.lateralCommand = (s.head h).track.lateralCommand := by
  intro x
  have read := readSample_read h i o s
  obtain ⟨m, stood, later⟩ := idle_sample (i := i) (o := o) he hc
  obtain ⟨raised, beside, output⟩ := raiseTool_self h m
  have settled : (s.headState h).settling = false := by
    revert he
    cases s.headState h <;> decide
  have lateral := later.lateral settled
  rw [raised, stood.lateral settled] at lateral
  refine ⟨later.gov.trans (output.trans (stood.gov.trans read.gov)),
    later.other.trans (beside.trans (stood.other.trans read.other)),
    later.plan.trans ((congrArg HeadUnit.plan raised).trans (stood.plan.trans read.plan)),
    later.log.trans ((congrArg HeadUnit.log raised).trans (stood.log.trans (read.quiet hf))),
    later.travel.trans ((congrArg HeadUnit.travel raised).trans (stood.travel.trans read.travel)), ?_, lateral.trans (by rw [read.self])⟩
  have run := sampleWorked_forceRun h i o s (HeadState.inMaterial_of_idle he)
  have kept : (x.head h).reg = { (s.head h).reg with forceRun := (x.head h).reg.forceRun } := by
    rw [later.self, raised, stood.self, read.reg]
  rw [kept, run]

/-- Settles O42: the sample is cut at the sequencer's work; what stands beside it leaves a head standing, interrupts it or
ends its start. -/
theorem sequencerWorksAtSample : Obligations.SequencerWorksAtSample := by
  unfold Obligations.SequencerWorksAtSample
  refine ⟨?_, ?_⟩
  · intro h i o tool s hr hp he hc ht hf q goal sum depth
    refine ⟨_, exec_headSample h i o s hr hp, ?_⟩
    obtain ⟨gov, other, plan, log, travel, reg, lateral⟩ := idle_sample_raises (i := i) (o := o) he hc hf
    obtain ⟨m, stood, later⟩ := idle_sample (i := i) (o := o) he hc
    have origin : (s.head h).originRead = (tool.seamOrigin : Nat) := by rw [HeadUnit.originRead, ht]
    rw [presentOutputs_gov, presentOutputs_self, presentOutputs, onHead_other]
    refine ⟨gov, other, ?_, plan, log, travel, reg, lateral⟩
    have seq := stood.atWork.seq
    rw [origin] at seq
    have profiles : (m.head h).profiles.tool = some tool := by
      rw [stood.profiles, (readSample_read h i o s).profiles, ht]
    show ((sampleWorked h i o s).head h).seq = _
    rw [later.seq, raiseTool_seq h m profiles, seq]
  · intro h i o s hr hp
    refine ⟨_, exec_headSample h i o s hr hp, ?_⟩
    intro q tool u spindle first ended plunged raised clear
    obtain ⟨x, hx⟩ : ∃ x, x = sampleWorked h i o s := ⟨_, rfl⟩
    have seq : u.seq = (x.head h).seq := hx ▸ presentOutputs_seq h _
    have front : u.front = (x.head h).front := hx ▸ presentOutputs_front h _
    have track : u.track = (x.head h).track := hx ▸ presentOutputs_track h _
    have applied : plunged = if ((s.head h).tool.plungeForceLimit : Int) < (x.head h).front.force.effective
        then ((s.head h).seq.rampAcc, (s.head h).seq.depth)
        else rampedTo (s.head h).seq.rampAcc (s.head h).seq.depth (s.head h).tool.plungeDepth (s.head h).tool.plungeRate := by
      rw [← front]
    have followed : spindle ↔ ∀ g, (s.head h).plan.inForce = some g → (x.head h).seq.spindle = g.spindle := by
      rw [← seq]
    clear_value plunged spindle
    rw [← hx, presentOutputs_headState, presentOutputs_toolStation, seq, front, track, followed]
    clear followed
    subst hx applied
    refine ⟨fun hs => ⟨fun hx => ?_, fun hf ha => ?_, fun hf ha ht => ?_⟩,
      fun hs => ⟨fun hx => ?_, fun hf hd => ?_, fun hf hd ht => ?_⟩,
      fun hs => ⟨fun hx => ?_, fun hf ht => ?_⟩, fun hs => ?_, fun hs => ?_, fun hs _ => ?_⟩
    · obtain ⟨stays, runs⟩ := spinup_stays (i := i) (o := o) hp hs hx
      rw [stays]
      exact ⟨rfl, rfl, rfl, runs⟩
    · exact (spinup_ends hp hs hf.1 hf.2).1 ha
    · exact (spinup_ends hp hs hf.1 hf.2).2 ha ht
    · obtain ⟨m, n, w, force, stays, hn, runs⟩ := plunge_stays (i := i) (o := o) hp hs hx
      have plunging := w.plunging _ (congrArg (·.force.effective) force)
      rw [← plunging, stays]
      exact ⟨rfl, rfl, hn, runs⟩
    · obtain ⟨m, w, force, complete, -⟩ := plunge_ends (i := i) (o := o) hp hs hf.1 hf.2
      exact complete (by rw [w.plunging _ (congrArg (·.force.effective) force)]; exact hd)
    · obtain ⟨m, w, force, -, out⟩ := plunge_ends (i := i) (o := o) hp hs hf.1 hf.2
      exact out (by rw [w.plunging _ (congrArg (·.force.effective) force)]; exact hd) ht
    · obtain ⟨n, stays, hn, runs⟩ := dwell_stays (i := i) (o := o) hp hs hx
      rw [stays]
      exact ⟨rfl, rfl, hn, runs⟩
    · exact dwell_ends hp hs hf.1 hf.2 ht
    · obtain ⟨m, w, cleared, stays⟩ := exit_sample (i := i) (o := o) hp hs
      rw [HeadUnit.clears, w.retracting, w.tool] at cleared stays
      by_cases c : clear
      · obtain ⟨state, ramp, depth, still⟩ := cleared c
        exact ⟨by rw [ramp, depth], fun _ => ⟨state, still⟩, fun hn => absurd c hn⟩
      · have e := stays c
        exact ⟨by rw [e], fun hn => absurd hn c, fun _ => ⟨by rw [State.headState, e]; exact hs, by rw [e]⟩⟩
    · obtain ⟨m, w, cleared, stays⟩ := interrupting_sample (i := i) (o := o) hp hs
      rw [HeadUnit.clears, w.retracting, w.tool] at cleared stays
      by_cases c : clear
      · obtain ⟨state, ramp, depth, still, queue⟩ := cleared c
        exact ⟨by rw [ramp, depth], fun _ => ⟨state, still, queue⟩, fun hn => absurd c hn⟩
      · have e := stays c
        exact ⟨by rw [e], fun hn => absurd hn c, fun _ => ⟨by rw [State.headState, e]; exact hs, by rw [e]⟩⟩
    · obtain ⟨aborts, adds, judges⟩ := calibrating_sample (i := i) (o := o) hs
      exact ⟨aborts, adds, judges⟩

/-! ## A sample that found a head in the material: what leaves the material, and with what cause -/

section
variable {h : Head} {C : Cause → Prop} {s t u : State}

theorem HeadState.starting_of_material {st : HeadState} (hm : st.inMaterial = true) : st.starting = false := by
  revert hm
  cases st <;> decide

/-- After a head has left the material, the pieces of work of its sample are steps that leave its sequencer alone. -/
theorem placedAct_left (h : Head) (read : HeadUnit) (o : SampleOrder) (a : SampleAct) (rest : List SampleAct) (s : State)
    (hm : read.seq.state.inMaterial = true) (hs : (s.headState h).inMaterial = false) :
    Work h true s (placedAct h read o a rest s) := by
  have elsewhere : s.headState h ≠ read.seq.state := fun e => by rw [e, hm] at hs; cases hs
  have welding : (s.headState h).welding = false := HeadState.welding_inMaterial hs
  have plain (hp : a ≠ .station) (hq : a ≠ .sequence) : Work h true s (placedAct h read o a rest s) :=
    placedAct_work h read o rest s ⟨fun _ => rfl, fun e => absurd e hp, fun e => absurd e hq,
      fun _ _ => HeadState.starting_of_material hm⟩
  cases a with
  | station =>
    have idle : placedAct h read o .station rest s = s := by
      have found : ¬(read.seq.state = .weld ∧ s.headState h = .weld) := fun e => elsewhere (e.2.trans e.1.symm)
      show planWork h read.seq.state s = s
      unfold planWork
      dsimp only
      rw [if_neg found, if_neg (by simp [welding])]
    rw [idle]
    exact .refl h s
  | sequence =>
    have idle : placedAct h read o .sequence rest s = s := if_neg elsewhere
    rw [idle]
    exact .refl h s
  | regulator | forceRun | track | log | grace | check _ => exact plain (by simp) (by simp)

theorem sampleActs_left (h : Head) (read : HeadUnit) (o : SampleOrder) (l : List SampleAct) (s : State)
    (hm : read.seq.state.inMaterial = true) (hs : (s.headState h).inMaterial = false) :
    Work h true s (sampleActs h read o l s) :=
  sampleActs_all (R := Work h true) h read o l (.refl h s) fun a _ rest _ w =>
    w.trans (placedAct_left h read o a rest _ hm (by rw [(w.aside hs).headState]; exact hs))

/-- What a piece of work can do to the state of a head found in the material: it stays there, ends its seam, or is
interrupted with one of the causes `C`; a head that has left the material keeps its state and its cause. -/
structure Pressed (h : Head) (C : Cause → Prop) (s t : State) : Prop where
  stays : (s.headState h).inMaterial = false →
    t.headState h = s.headState h ∧ (t.head h).seq.cause = (s.head h).seq.cause
  comes : (s.headState h).inMaterial = true → (t.headState h).inMaterial = true ∨ t.headState h = .exit ∨
    t.headState h = .interrupting ∧ ∃ c, C c ∧ (t.head h).seq.cause = some c

theorem Pressed.same (hs : t.headState h = s.headState h) (hc : (t.head h).seq.cause = (s.head h).seq.cause) :
    Pressed h C s t := ⟨fun _ => ⟨hs, hc⟩, fun hm => .inl (by rw [hs, hm])⟩

theorem Pressed.refl (h : Head) (C : Cause → Prop) (s : State) : Pressed h C s s := .same rfl rfl

theorem Pressed.of_material (hm : (s.headState h).inMaterial = true)
    (ht : (t.headState h).inMaterial = true ∨ t.headState h = .exit ∨
      t.headState h = .interrupting ∧ ∃ c, C c ∧ (t.head h).seq.cause = some c) : Pressed h C s t :=
  ⟨fun hn => absurd (hm.symm.trans hn) (by decide), fun _ => ht⟩

theorem Pressed.trans (a : Pressed h C s t) (b : Pressed h C t u) : Pressed h C s u := by
  refine ⟨fun hm => ?_, fun hm => ?_⟩
  · obtain ⟨state, cause⟩ := a.stays hm
    obtain ⟨state', cause'⟩ := b.stays (by rw [state, hm])
    exact ⟨state'.trans state, cause'.trans cause⟩
  · rcases a.comes hm with mat | exit | ⟨left, c, hc, cause⟩
    · exact b.comes mat
    · exact .inr (.inl ((b.stays (by rw [exit]; rfl)).1.trans exit))
    · obtain ⟨state, same⟩ := b.stays (by rw [left]; rfl)
      exact .inr (.inr ⟨state.trans left, c, hc, same.trans cause⟩)

theorem Pressed.of_ite {c : Prop} [Decidable c] {x y : State} (hx : c → Pressed h C s x) (hy : ¬c → Pressed h C s y) :
    Pressed h C s (if c then x else y) := by
  split
  · next hc => exact hx hc
  · next hc => exact hy hc

theorem Pressed.seq (w : Pressed h C s t) (e : (u.head h).seq = (t.head h).seq) : Pressed h C s u :=
  w.trans (.same (congrArg Sequencer.state e) (by rw [e]))

theorem Pressed.creates (w : Pressed h C s t) (b : RecordBody) (co : Bool) : Pressed h C s (createRecord h b co t) :=
  w.seq (by simp)
theorem Pressed.counts (w : Pressed h C s t) (f : HeadCounters → HeadCounters) : Pressed h C s (countHead h f t) :=
  w.seq (by simp)
theorem Pressed.onTrack (w : Pressed h C s t) (f : Tracking → Tracking) : Pressed h C s (t.onTrack h f) := w.seq (by simp)
theorem Pressed.onReg (w : Pressed h C s t) (f : Regulator → Regulator) : Pressed h C s (t.onReg h f) := w.seq (by simp)
theorem Pressed.onPlan (w : Pressed h C s t) (f : PlanStore → PlanStore) : Pressed h C s (t.onPlan h f) := w.seq (by simp)

theorem Pressed.onSeq (w : Pressed h C s t) (f : Sequencer → Sequencer)
    (hf : ∀ q, (f q).state = q.state ∧ (f q).cause = q.cause) : Pressed h C s (t.onSeq h f) :=
  w.trans (.same (by simp [State.headState, hf]) (by simp [hf]))

theorem Pressed.interrupts (w : Pressed h C s t) {c : Cause} (hc : C c) : Pressed h C s (interruptHead h c t) := by
  cases ha : c.actsIn (t.headState h) with
  | false =>
    rw [interruptHead_of_not_acts ha]
    exact w
  | true =>
    have i := interruptHead_interrupted h c t ha
    exact w.trans (.of_material (Cause.actsIn_inMaterial ha) (.inr (.inr ⟨i.headState, c, hc, by rw [i.seq]⟩)))

/-- A head in the material goes on to another state of the material. -/
theorem Pressed.enters (w : Pressed h C s t) (st : HeadState) (hm : (t.headState h).inMaterial = true)
    (hs : st.inMaterial = true) : Pressed h C s (setHeadState h st t) :=
  w.trans (.of_material hm (.inl (by simpa using hs)))

theorem Pressed.exits (w : Pressed h C s t) (g : Segment) (hm : (t.headState h).inMaterial = true) :
    Pressed h C s (enterExit h g t) :=
  w.trans (.of_material hm (.inr (.inl (by simp [enterExit]))))

/-! ### The tracking unit: GAP and TRACK_LOSS alone (R121, R123) -/

section
variable (gap : C .gap) (loss : C .trackLoss)

theorem Pressed.checksGap (w : Pressed h C s t) (g : Segment) (e : TrackEntry) : Pressed h C s (checkGap h g e t) := by
  refine .of_ite (fun _ => ?_) fun _ => w.onTrack _
  split
  · exact .of_ite (fun _ => w) fun _ => (w.onTrack _).creates _ _
  · exact w.creates _ _

theorem Pressed.checksMismatch (w : Pressed h C s t) (g : Segment) (e : TrackEntry) :
    Pressed h C s (checkMismatch h g e t) :=
  .of_ite (fun _ => .of_ite (fun _ => w) fun _ => (w.onTrack _).creates _ _) fun _ => w.onTrack _

include gap in
theorem Pressed.activates (w : Pressed h C s t) (g : Segment) (e : TrackEntry) (first : Bool) :
    Pressed h C s (activate h g e first t) :=
  have checked := (w.onTrack fun x => { x with activeFirst := true }).checksGap g e
  checksMismatch (.of_ite (fun _ => checked.interrupts gap) fun _ => checked) g e

theorem Pressed.steers (w : Pressed h C s t) (on : Bool) (e : Option TrackEntry) : Pressed h C s (steer h on e t) := by
  unfold steer
  exact w.onTrack _

include loss in
theorem Pressed.checksLoss (w : Pressed h C s t) (g : Segment) (reference : Int) :
    Pressed h C s (checkLoss h g reference t) :=
  .of_ite (fun _ => (((w.onTrack _).creates _ _).counts _).interrupts loss) fun _ => w.onTrack _

include gap loss in
theorem Pressed.tracksWelding (w : Pressed h C s t) (weld first : Bool) (g : Segment) :
    Pressed h C s (trackWelding h weld first g t) := by
  unfold trackWelding
  extract_lets due s1 s2 s3
  have activated : Pressed h C s s1 := by
    unfold s1
    cases due with
    | some e => exact w.activates gap g e first
    | none => exact w
  have steered : Pressed h C s s2 := activated.steers _ _
  have tested : Pressed h C s s3 := .of_ite (fun _ => steered.checksLoss loss _ _) fun _ => steered
  exact .of_ite (fun _ => tested.interrupts gap) fun _ => tested

include gap loss in
theorem trackWork_pressed (read : HeadUnit) (first : Bool) (s : State) : Pressed h C s (trackWork h read first s) := by
  have still := Pressed.refl h C s
  have trimmed : Pressed h C s (s.onTrack h Tracking.trim) := still.onTrack _
  have after : Pressed h C s (trackAfterLeaving h read first s) := by
    unfold trackAfterLeaving
    extract_lets s1 s2
    have worked : Pressed h C s s2 := by
      unfold s2
      split
      · exact (still.onTrack _).tracksWelding gap loss _ _ _
      · exact still.onTrack _
    exact .of_ite (fun _ => worked) fun _ => worked.onTrack _
  unfold trackWork
  dsimp only
  refine .of_ite (fun _ => .of_ite (fun _ => ?_) fun _ => after) fun _ =>
    .of_ite (fun _ => trimmed.steers _ _) fun _ => trimmed
  split
  · exact trimmed.tracksWelding gap loss _ _ _
  · exact trimmed

end

/-! ### The plan store: PLAN_STARVED alone (R17) -/

section
variable (starved : C .planStarved)

include starved in
theorem Pressed.allows (w : Pressed h C s t) : Pressed h C s (checkAllowance h t) := by
  unfold checkAllowance
  split
  · exact .of_ite (fun _ => w.interrupts starved) fun _ => w
  · exact w

include starved in
theorem Pressed.completes (n : Nat) (w : Pressed h C s t) (hm : (t.headState h).inMaterial = true) :
    Pressed h C s (completeSegments n h t) := by
  induction n generalizing t with
  | zero => exact w
  | succ n ih =>
    rw [completeSegments]
    split
    · exact w
    · next g rest _ =>
      have kept : ((completeSegment h g rest t).head h).seq = (t.head h).seq := by rw [completeSegment_self]
      have completed : Pressed h C s (completeSegment h g rest t) := w.seq kept
      have mat : ((completeSegment h g rest t).headState h).inMaterial = true := by
        rw [State.headState, kept]
        exact hm
      refine .of_ite (fun _ => w) fun _ => ?_
      dsimp only
      split
      · exact completed.exits g mat
      · refine .of_ite (fun _ => .of_ite (fun _ => completed) fun _ => ?_) fun _ => ih completed mat
        exact (completed.seq (u := starve h g (completeSegment h g rest t)) (by rw [starve_self])).allows starved

include starved in
theorem planWork_pressed (found : HeadState) (s : State) : Pressed h C s (planWork h found s) := by
  have still := Pressed.refl h C s
  have checked : Pressed h C s (if found = .weld ∧ s.headState h = .weld then stationCheck h s else s) :=
    .of_ite (fun c => still.completes starved _ (by rw [c.2]; rfl)) fun _ => still
  unfold planWork measureStarvation
  dsimp only
  exact .of_ite (fun _ => (checked.onPlan _).allows starved) fun _ => checked

include starved in
theorem enterWeld_pressed (w : Pressed h C s t) (hm : (t.headState h).inMaterial = true) :
    Pressed h C s (enterWeld h t) := by
  have state : (weldEntered h t).headState h = .weld := by simp
  have entered : Pressed h C s (weldEntered h t) :=
    w.trans (.of_material hm (.inl (by rw [state]; rfl)))
  rw [enterWeld_eq]
  refine .of_ite (fun _ => ?_) fun _ => entered
  unfold reentryCheck
  refine .of_ite (fun _ => ?_) fun _ => entered.completes starved _ (by rw [state]; rfl)
  split
  · exact entered.seq (by rw [starve_self])
  · exact entered

end

/-! ### The sequencer: PLUNGE_TIMEOUT, and the plan's check at a WELD entry (R22, R41) -/

theorem sequenceWork_pressed (split : Bool) (timeout : C .plungeTimeout) (starved : C .planStarved)
    (hp : s.present h = true) (hm : (s.headState h).inMaterial = true) : Pressed h C s (sequenceWork h split s) := by
  have still := Pressed.refl h C s
  have followed : Pressed h C s (followSpindle h s) := by
    obtain ⟨n, e, -⟩ := followSpindle_seq h s
    exact .same (by rw [State.headState, e]; rfl) (by rw [e])
  cases hs : s.headState h with
  | plunge =>
    obtain ⟨n, e, -⟩ := plungeMoved_seq h s
    have moved : Pressed h C s (plungeMoved h s) := .same (by rw [State.headState, e]; rfl) (by rw [e])
    have plunges : (plungeMoved h s).headState h = .plunge := by rw [State.headState, e]; exact hs
    rw [sequenceWork_plunge hs hp]
    refine .of_ite (fun _ => moved) fun _ => .of_ite (fun _ => ?_) fun _ =>
      .of_ite (fun _ => moved.interrupts timeout) fun _ => moved
    exact moved.trans (.of_material (by rw [plunges]; rfl) (.inl (by simp [enterDwell, HeadState.inMaterial])))
  | dwell =>
    obtain ⟨n, e, -⟩ := dwellTimed_seq h s
    have timed : Pressed h C s (dwellTimed h s) := .same (by rw [State.headState, e]; rfl) (by rw [e])
    have dwells : (dwellTimed h s).headState h = .dwell := by rw [State.headState, e]; exact hs
    rw [sequenceWork_dwell hs hp]
    exact .of_ite (fun _ => enterWeld_pressed starved timed (by rw [dwells]; rfl)) fun _ => timed
  | weld | pause =>
    have follows : sequenceWork h split s = followSpindle h s := by unfold sequenceWork; rw [hs]
    rw [follows]
    exact followed
  | uncommissioned | commissioning | calDue | calibrating | ready | approach | spinup | exit | interrupting |
    interrupted => rw [hs] at hm; cases hm

end

/-! ## The continuous checks (R46, R79, R80, R133) -/

/-- The causes that a sample raises outside its continuous checks, its force-limit run and its grace counts. -/
structure OwnCauses (C : Cause → Prop) : Prop where
  timeout : C .plungeTimeout
  starved : C .planStarved
  gap : C .gap
  loss : C .trackLoss

/-- The force-limit run reaches 3 and its condition is not left to its own row (R80). -/
def limitTaken (h : Head) (split : Bool) (s : State) : Prop := forceRunAfter (s.head h) true = 3 ∧ split = false

/-- A grace count stands at 250 and its condition is not left to its own row (R133). -/
def graceTaken (h : Head) (split : Bool) (s : State) : Prop :=
  (s.head h).front.graceSpent = true ∧ split = false

section
variable {h : Head} {C : Cause → Prop} {o : SampleOrder} {s t : State}

theorem regulatorWork_same (h : Head) (found : HeadState) (split : Bool) (s : State) :
    (regulatorWork h found split s).headState h = s.headState h ∧
      ((regulatorWork h found split s).head h).seq.cause = (s.head h).seq.cause := by
  unfold regulatorWork
  split
  · cases hg : (s.head h).plan.inForce with
    | none => simp only [regulatorSample, hg, and_self]
    | some g =>
      have stages : (regulated h g s).headState h = s.headState h ∧
          ((regulated h g s).head h).seq.cause = (s.head h).seq.cause := by
        unfold regulated
        dsimp only
        split <;> simp [State.headState]
      rw [regulatorSample_eq h split s hg]
      split
      · unfold reportExcursion recordExcursion
        dsimp only
        split <;> simpa using stages
      · exact stages
  · exact ⟨rfl, rfl⟩

/-- The log takes its sample and writes its records, and nothing else. -/
theorem logWork_noted (h : Head) (found : HeadState) (a b : Bool) (s : State) : Noted h s (logWork h found a b s) := by
  have add : Noted h s (s.onLog h fun l => { l with acc := l.acc.add ((s.head h).sampleValues a b) }) :=
    onLog_noted h _ s (fun _ => rfl) fun _ => rfl
  unfold logWork emitAtMark
  dsimp only
  split
  · split
    · split
      · split
        · exact (add.trans (createRecord_noted ..)).trans (onLog_noted h _ _ (fun _ => rfl) fun _ => rfl)
        · exact add
      · exact add
    · exact add
  · exact .refl h s

theorem checkWork_material {found : HeadState} (c : FaultCheck) (hm : found.inMaterial = true) :
    checkWork h found c s = if checkFails h s c then interruptHead h (checkCause c) s else s := by
  unfold checkWork
  rw [if_pos hm]
  cases checkFails h s c <;> rfl

theorem forceRunWork_material {found : HeadState} {split : Bool} (hm : found.inMaterial = true)
    (hs : (s.headState h).inMaterial = true) (hl : limitTaken h split s) : forceRunWork h found split s =
      interruptHead h .forceLimit (s.onReg h fun r => { r with forceRun := 3 }) := by
  unfold forceRunWork
  simp [hm, hs, hl.1, hl.2]

theorem graceWork_material {found : HeadState} {split : Bool} (hm : found.inMaterial = true)
    (hg : graceTaken h split s) : graceWork h found split s = interruptHead h .sensor s := by
  unfold graceWork
  simp [hm, hg.1, hg.2]

/-- One piece of work of a sample that found a head in the material. -/
theorem placedAct_pressed (own : OwnCauses C) (read : HeadUnit) (a : SampleAct) (rest : List SampleAct)
    (hp : s.present h = true) (hm : read.seq.state.inMaterial = true)
    (hc : ∀ c, a = .check c → checkFails h s c = true → C (checkCause c))
    (hl : a = .forceRun → limitTaken h o.split s → C .forceLimit)
    (hg : a = .grace → graceTaken h o.split s → C .sensor) : Pressed h C s (placedAct h read o a rest s) := by
  have still := Pressed.refl h C s
  cases a with
  | log =>
    show Pressed h C s (logWork h read.seq.state _ _ s)
    exact still.seq (by rw [(logWork_noted ..).self])
  | regulator => exact .same (regulatorWork_same ..).1 (regulatorWork_same ..).2
  | forceRun =>
    show Pressed h C s (forceRunWork h read.seq.state o.split s)
    unfold forceRunWork
    dsimp only
    refine .of_ite (fun taken => (still.onReg _).interrupts (hl rfl ?_)) fun _ => still.onReg _
    rw [hm, Bool.true_and] at taken
    obtain ⟨three, split⟩ := taken
    refine ⟨?_, by simpa using split⟩
    cases hs : (s.headState h).inMaterial with
    | true => rwa [hs] at three
    | false =>
      rw [hs] at three
      cases three
  | station => exact planWork_pressed own.starved read.seq.state s
  | track => exact trackWork_pressed own.gap own.loss read o.gapFirst s
  | grace =>
    show Pressed h C s (graceWork h read.seq.state o.split s)
    unfold graceWork
    refine .of_ite (fun taken => still.interrupts (hg rfl ?_)) fun _ => still
    simp only [Bool.and_eq_true, Bool.not_eq_true'] at taken
    exact ⟨taken.2, taken.1.2⟩
  | check c =>
    show Pressed h C s (checkWork h read.seq.state c s)
    rw [checkWork_material c hm]
    exact .of_ite (fun fails => still.interrupts (hc c rfl fails)) fun _ => still
  | sequence =>
    show Pressed h C s (sequencerWork h read.seq.state o.split s)
    exact .of_ite (fun e => sequenceWork_pressed o.split own.timeout own.starved hp (by rw [e, hm])) fun _ => still

/-! ### What the checks look at stays over the sample -/

theorem Scene.checkFails (w : Scene h s t) (c : FaultCheck) : checkFails h t c = checkFails h s c := by
  cases c <;> simp [Machine.checkFails, w.limits, w.front, w.drives, State.sensorFaulted, w.gantry]

theorem Scene.forceRunAfter (w : Scene h s t) (run : SameRun h s t) (b : Bool) :
    forceRunAfter (t.head h) b = forceRunAfter (s.head h) b := by
  unfold Machine.forceRunAfter
  rw [w.limits, w.front, show (t.head h).reg.forceRun = (s.head h).reg.forceRun from run]

theorem Scene.limitTaken (w : Scene h s t) (run : SameRun h s t) (split : Bool) :
    limitTaken h split t ↔ limitTaken h split s := by
  rw [Machine.limitTaken, w.forceRunAfter run, Machine.limitTaken]

theorem Scene.graceTaken (w : Scene h s t) (split : Bool) : graceTaken h split t ↔ graceTaken h split s := by
  rw [Machine.graceTaken, w.front, Machine.graceTaken]

end

/-! ### The sample of a head found in the material, cut at one piece of its work -/

/-- How far a sample that read `r` has come in the state `x`, with the causes `C` raised at most. -/
structure Onward (h : Head) (C : Cause → Prop) (r x : State) : Prop where
  scene : Scene h r x
  pressed : Pressed h C r x

section
variable {h : Head} {C : Cause → Prop} {i : SampleInput} {o : SampleOrder} {s : State}

theorem Onward.refl (h : Head) (C : Cause → Prop) (r : State) : Onward h C r r := ⟨.refl .., .refl ..⟩

theorem Onward.trans {r x y : State} (a : Onward h C r x) (b : Onward h C x y) : Onward h C r y :=
  ⟨a.scene.trans b.scene, a.pressed.trans b.pressed⟩

/-- A cause of any kind. -/
def anyCause (_ : Cause) : Prop := True

theorem anyCause_own : OwnCauses anyCause := ⟨trivial, trivial, trivial, trivial⟩

theorem material_not_calibrating {st : HeadState} (hm : st.inMaterial = true) : st ≠ .calibrating := by
  rintro rfl
  cases hm

/-- Pieces of work that raise causes of `C` alone, from a state the sample has come to. -/
theorem placedAct_onward (own : OwnCauses C) {read : HeadUnit} {r x : State} (a : SampleAct) (rest : List SampleAct)
    (hp : r.present h = true) (hm : read.seq.state.inMaterial = true) (w : Onward h C r x)
    (hc : ∀ c, a = .check c → checkFails h x c = true → C (checkCause c))
    (hl : a = .forceRun → limitTaken h o.split x → C .forceLimit)
    (hg : a = .grace → graceTaken h o.split x → C .sensor) : Onward h C r (placedAct h read o a rest x) :=
  ⟨w.scene.trans (placedAct_scene h read o a rest x (material_not_calibrating hm)),
    w.pressed.trans (placedAct_pressed own read a rest (w.scene.present.trans hp) hm hc hl hg)⟩

/-- A sample that found a head in the material, about one piece of its work: `m` before it, `rest` behind it. The causes `C`
are those of the checks and grace counts that stand, and of the force-limit run where that is not the piece itself. -/
theorem material_cut (own : OwnCauses C) {a : SampleAct} (ha : a ≠ .log) (hp : s.present h = true)
    (hm : (s.headState h).inMaterial = true)
    (hc : ∀ c, checkFails h (readSample h i o s) c = true → C (checkCause c))
    (hg : graceTaken h o.split (readSample h i o s) → C .sensor)
    (hl : C .forceLimit ∨ a = .forceRun ∧ (limitTaken h o.split (readSample h i o s) → C .forceLimit)) :
    ∃ m rest, Onward h C (readSample h i o s) m ∧
      (a = .forceRun → SameRun h (readSample h i o s) m ∧
        SameRun h (placedAct h ((readSample h i o s).head h) o a rest m) (sampleWorked h i o s)) ∧
      (o.acts.head? = some a → m = readSample h i o s) ∧
      sampleWorked h i o s = sampleActs h ((readSample h i o s).head h) o rest
        (placedAct h ((readSample h i o s).head h) o a rest m) ∧
      Pressed h C m (placedAct h ((readSample h i o s).head h) o a rest m) ∧
      Onward h C (readSample h i o s) (sampleWorked h i o s) ∧
      Pressed h C (placedAct h ((readSample h i o s).head h) o a rest m) (sampleWorked h i o s) := by
  obtain ⟨r, hr⟩ : ∃ r, r = readSample h i o s := ⟨_, rfl⟩
  have read : SampleRead h i s r := hr ▸ readSample_read h i o s
  have found : (r.head h).seq.state.inMaterial = true := (congrArg HeadState.inMaterial read.headState).trans hm
  have present : r.present h = true := (read.present h).trans hp
  rw [sampleWorked, ← hr]
  rw [← hr] at hc hg hl
  obtain ⟨front, rest, e, hf, hr', first⟩ := actOrder_at o ha
  have step {x : State} {b : SampleAct} (l : List SampleAct) (hb : b ≠ a) (w : Scene h r x) :
      Onward h C x (placedAct h (r.head h) o b l x) := by
    refine placedAct_onward own b l (w.present.trans present) found (.refl ..) (fun c _ fails => hc c ?_)
      (fun eb _ => hl.resolve_right fun p => hb (eb.trans p.1.symm)) fun _ spent => hg ((w.graceTaken _).mp spent)
    rwa [w.checkFails] at fails
  obtain ⟨m, ⟨w, run⟩, onward, start⟩ := sampleActs_through
    (R := fun x y => Onward h C r y ∧ (a = .forceRun → SameRun h r y)) h (r.head h) o front (a :: rest) (s := r)
    ⟨.refl .., fun _ => rfl⟩ fun b hb l x p => ⟨p.1.trans (step l (fun eb => hf (eb ▸ hb)) p.1.scene), fun ea =>
      (p.2 ea).trans (placedAct_sameRun h _ o l x fun eb => hf (by rwa [ea, ← eb]))⟩
  have taken : Onward h C m (placedAct h (r.head h) o a rest m) := by
    refine placedAct_onward own a rest (w.scene.present.trans present) found (.refl ..) (fun c _ fails => hc c ?_)
      (fun ea full => ?_) fun _ spent => hg ((w.scene.graceTaken _).mp spent)
    · rwa [w.scene.checkFails] at fails
    · exact hl.elim id fun p => p.2 ((w.scene.limitTaken (run ea) _).mp full)
  obtain ⟨later, run'⟩ := sampleActs_all
    (R := fun x y => Onward h C x y ∧ (a = .forceRun → SameRun h x y)) h (r.head h) o rest
    (s := placedAct h (r.head h) o a rest m) ⟨.refl .., fun _ => rfl⟩ fun b hb l x p =>
      ⟨p.1.trans (step l (fun eb => hr' (eb ▸ hb)) ((w.trans taken).trans p.1).scene), fun ea =>
      (p.2 ea).trans (placedAct_sameRun h _ o l x fun eb => hr' (by rwa [ea, ← eb]))⟩
  have cut : sampleActs h (r.head h) o (actOrder o) r = sampleActs h (r.head h) o rest (placedAct h (r.head h) o a rest m) := by
    rw [e, onward]
    rfl
  rw [← cut] at later run'
  exact ⟨m, rest, w, fun ea => ⟨run ea, run' ea⟩, fun hh => start (first hh), cut, taken.pressed,
    (w.trans taken).trans later, later.pressed⟩

end

/-! ## The continuous checks over a whole sample -/

section
variable {h : Head} {i : SampleInput} {o : SampleOrder} {s : State}

/-- A sample about a piece of work, whatever causes it raises. -/
theorem material_cut_any {a : SampleAct} (ha : a ≠ .log) (hp : s.present h = true)
    (hm : (s.headState h).inMaterial = true) : ∃ m rest, Scene h (readSample h i o s) m ∧
      (a = .forceRun → SameRun h (readSample h i o s) m ∧
        SameRun h (placedAct h ((readSample h i o s).head h) o a rest m) (sampleWorked h i o s)) ∧
      (o.acts.head? = some a → m = readSample h i o s) ∧
      sampleWorked h i o s = sampleActs h ((readSample h i o s).head h) o rest
        (placedAct h ((readSample h i o s).head h) o a rest m) ∧
      Pressed h anyCause (readSample h i o s) m ∧
      Pressed h anyCause m (placedAct h ((readSample h i o s).head h) o a rest m) ∧
      Pressed h anyCause (placedAct h ((readSample h i o s).head h) o a rest m) (sampleWorked h i o s) := by
  obtain ⟨m, rest, w, run, first, cut, act, -, later⟩ := material_cut (C := anyCause) (i := i) (o := o) anyCause_own ha hp hm
    (fun _ _ => trivial) (fun _ => trivial) (.inl trivial)
  exact ⟨m, rest, w.scene, run, first, cut, w.pressed, act, later⟩

/-- The run of a head that is in the material behind its sample (R79). -/
theorem material_forceRun (hp : s.present h = true) (hm : (s.headState h).inMaterial = true)
    (hx : ((sampleWorked h i o s).headState h).inMaterial = true) :
    ((sampleWorked h i o s).head h).reg.forceRun = forceRunAfter ((readSample h i o s).head h) true := by
  obtain ⟨m, rest, scene, run, -, -, -, act, later⟩ := material_cut_any (i := i) (o := o) (a := .forceRun) (by decide) hp hm
  obtain ⟨before, behind⟩ := run rfl
  have found : ((readSample h i o s).head h).seq.state.inMaterial = true :=
    (congrArg HeadState.inMaterial (readSample_read h i o s).headState).trans hm
  have here : (m.headState h).inMaterial = true := by
    by_contra hn
    have left := (act.stays (by simpa using hn)).1
    rw [(later.stays (by rw [left]; simpa using hn)).1, left] at hx
    exact hn hx
  refine Eq.trans behind ((forceRunWork_run ..).trans ?_)
  rw [found, here]
  exact scene.forceRunAfter before true

/-- A piece of work that interrupts a head in the material leaves it out of the material to the end of its sample. -/
theorem material_leaves {a : SampleAct} (ha : a ≠ .log) (hp : s.present h = true) (hm : (s.headState h).inMaterial = true)
    (act : ∀ m rest, Scene h (readSample h i o s) m → (a = .forceRun → SameRun h (readSample h i o s) m) →
      (m.headState h).inMaterial = true →
      ((placedAct h ((readSample h i o s).head h) o a rest m).headState h).inMaterial = false) :
    (sampleWorked h i o s).headState h = .interrupting ∨ (sampleWorked h i o s).headState h = .exit := by
  obtain ⟨m, rest, scene, run, -, -, before, taken, later⟩ := material_cut_any (i := i) (o := o) ha hp hm
  have outside : ((placedAct h ((readSample h i o s).head h) o a rest m).headState h).inMaterial = false := by
    cases here : (m.headState h).inMaterial with
    | true => exact act m rest scene (fun e => (run e).1) here
    | false => rw [(taken.stays here).1, here]
  have found : ((readSample h i o s).headState h).inMaterial = true :=
    (congrArg HeadState.inMaterial (readSample_read h i o s).headState).trans hm
  rw [(later.stays outside).1]
  rcases (before.trans taken).comes found with mat | exit | ⟨left, -⟩
  · rw [outside] at mat
    cases mat
  · exact .inr exit
  · exact .inl left

theorem interruptHead_leaves {c : Cause} {x : State} (hc : ∀ st : HeadState, c.actsIn st = st.inMaterial)
    (hx : (x.headState h).inMaterial = true) : ((interruptHead h c x).headState h).inMaterial = false := by
  rw [(interruptHead_interrupted h c x (by rw [hc, hx])).headState]
  rfl

theorem checkCause_actsIn (c : FaultCheck) (st : HeadState) : (checkCause c).actsIn st = st.inMaterial := by
  cases c <;> rfl

/-- Any of the conditions ends the sample in INTERRUPTING or EXIT (R46, R80, R133). -/
theorem material_conditions (hp : s.present h = true) (hm : (s.headState h).inMaterial = true)
    (hx : (∃ c, checkFails h (readSample h i o s) c = true) ∨ limitTaken h o.split (readSample h i o s) ∨
      graceTaken h o.split (readSample h i o s)) :
    (sampleWorked h i o s).headState h = .interrupting ∨ (sampleWorked h i o s).headState h = .exit := by
  have found : ((readSample h i o s).head h).seq.state.inMaterial = true :=
    (congrArg HeadState.inMaterial (readSample_read h i o s).headState).trans hm
  rcases hx with ⟨c, fails⟩ | full | spent
  · refine material_leaves (a := .check c) (by simp) hp hm fun m rest scene _ here => ?_
    show ((checkWork h _ c m).headState h).inMaterial = false
    rw [checkWork_material c found, scene.checkFails, if_pos fails]
    exact interruptHead_leaves (checkCause_actsIn c) here
  · refine material_leaves (a := .forceRun) (by decide) hp hm fun m rest scene run here => ?_
    show ((forceRunWork h _ o.split m).headState h).inMaterial = false
    rw [forceRunWork_material found here ((scene.limitTaken (run rfl) _).mpr full)]
    exact interruptHead_leaves (fun _ => rfl) (by simpa using here)
  · refine material_leaves (a := .grace) (by decide) hp hm fun m rest scene _ here => ?_
    show ((graceWork h _ o.split m).headState h).inMaterial = false
    rw [graceWork_material found ((scene.graceTaken _).mpr spent)]
    exact interruptHead_leaves (fun _ => rfl) here

/-- A head interrupted by the first piece of work of its sample, with its record (R45). -/
theorem first_interrupts {a : SampleAct} {c : Cause} {z : State} (hf : o.acts.head? = some a) (ha : a ≠ .log)
    (hp : s.present h = true) (hm : (s.headState h).inMaterial = true)
    (hc : ∀ st : HeadState, c.actsIn st = st.inMaterial)
    (hz : (z.head h).seq = ((readSample h i o s).head h).seq ∧ (z.head h).plan = ((readSample h i o s).head h).plan ∧
      z.present h = (readSample h i o s).present h ∧ z.commonUsed = (readSample h i o s).commonUsed ∧
      z.gantry = (readSample h i o s).gantry)
    (act : ∀ rest, placedAct h ((readSample h i o s).head h) o a rest (readSample h i o s) = interruptHead h c z) :
    (sampleWorked h i o s).headState h = .interrupting ∧ ((sampleWorked h i o s).head h).seq.cause = some c ∧
      ((sampleWorked h i o s).head h).seq.interruptStation = (sampleWorked h i o s).toolStation h ∧
      (CommonRoom s → ∃ named, NamesInForce s h named ∧ Recorded h
        (.interrupt c ((sampleWorked h i o s).toolStation h) named (s.head h).seq.kind (s.headState h) (s.head h).seq.depth)
        (sampleWorked h i o s)) := by
  have read := readSample_read h i o s
  obtain ⟨m, rest, -, -, first, cut, -, -, -⟩ := material_cut_any (i := i) (o := o) ha hp hm
  obtain rfl := first hf
  obtain ⟨seq, plan, present, common, gantry⟩ := hz
  have state : z.headState h = s.headState h := (congrArg Sequencer.state seq).trans read.headState
  have acts : c.actsIn (z.headState h) = true := by rw [hc, state, hm]
  have found : ((readSample h i o s).head h).seq.state.inMaterial = true :=
    (congrArg HeadState.inMaterial read.headState).trans hm
  have there : z.present h = true := present.trans ((read.present h).trans hp)
  have i' := interruptHead_interrupted h c z acts
  have scene : Scene h z (interruptHead h c z) := (Scene.refl h z).interrupts c
  rw [cut, act]
  have w := sampleActs_left h ((readSample h i o s).head h) o rest (interruptHead h c z) found
    (by rw [i'.headState]; rfl)
  have aside := w.aside (by rw [i'.headState]; rfl)
  have worked := w.worked (scene.present.trans there)
  have tool := worked.tool.trans scene.toolStation
  refine ⟨aside.headState.trans i'.headState, by rw [aside.seq, i'.seq], by rw [aside.seq, i'.seq, tool], fun room => ?_⟩
  have slots := read.grown.common
  have free := room.common
  obtain ⟨named, names, r, hr, e⟩ := interruptHead_recorded there acts (by rw [common]; omega)
  rw [seq, state, read.seq] at e
  rw [tool]
  exact ⟨named, fun g hg => names g (by rw [plan, read.plan]; exact hg), r, worked.records.subset hr, e⟩

/-- The causes of plunge, plan and tracking. -/
def ownCause (c : Cause) : Prop := c = .plungeTimeout ∨ c = .planStarved ∨ c = .gap ∨ c = .trackLoss

theorem ownCause_own : OwnCauses ownCause :=
  ⟨.inl rfl, .inr (.inl rfl), .inr (.inr (.inl rfl)), .inr (.inr (.inr rfl))⟩

/-- Without a continuous condition a sample that interrupts has a cause of plunge, plan or tracking. -/
theorem material_own (hp : s.present h = true) (hm : (s.headState h).inMaterial = true)
    (hc : ∀ c, checkFails h (readSample h i o s) c = false) (hl : ¬limitTaken h o.split (readSample h i o s))
    (hg : ¬graceTaken h o.split (readSample h i o s)) (hx : (sampleWorked h i o s).headState h = .interrupting) :
    ∃ c, ownCause c ∧ ((sampleWorked h i o s).head h).seq.cause = some c := by
  obtain ⟨-, -, -, -, -, -, -, onward, -⟩ := material_cut (a := .forceRun) ownCause_own (by decide) hp hm
    (fun c fails => by rw [hc] at fails; cases fails) (fun spent => absurd spent hg) (.inr ⟨rfl, fun full => absurd full hl⟩)
  rcases onward.pressed.comes ((congrArg HeadState.inMaterial (readSample_read h i o s).headState).trans hm) with
    mat | exit | ⟨-, own⟩
  · rw [hx] at mat
    cases mat
  · rw [hx] at exit
    cases exit
  · exact own

end

/-! ## A sample that found a start (R38, R39) -/

/-- The state in which a start ends that does not plunge. -/
def SeamKind.ended (k : SeamKind) : HeadState := if k = .fresh then .ready else .interrupted

theorem SeamKind.ended_idle (k : SeamKind) : k.ended.engaged = false := by cases k <;> rfl

/-- What a piece of work can do to the state of a start: it goes on in the state `found` in which the sample found it,
plunges from SPINUP, or ends; whatever has left the start stays. -/
structure StartRun (h : Head) (found : HeadState) (s t : State) : Prop where
  kind : (t.head h).seq.kind = (s.head h).seq.kind
  stays : (s.headState h).starting = false → t.headState h = s.headState h
  comes : s.headState h = found → t.headState h = found ∨ t.headState h = (s.head h).seq.kind.ended ∨
    found = .spinup ∧ t.headState h = .plunge

section
variable {h : Head} {found : HeadState} {s t u : State}

theorem StartRun.same (e : (t.head h).seq = (s.head h).seq) : StartRun h found s t :=
  ⟨by rw [e], fun _ => congrArg Sequencer.state e, fun hs => .inl ((congrArg Sequencer.state e).trans hs)⟩

theorem StartRun.trans (a : StartRun h found s t) (b : StartRun h found t u) : StartRun h found s u := by
  refine ⟨b.kind.trans a.kind, fun hn => ?_, fun hs => ?_⟩
  · have left := a.stays hn
    exact (b.stays (by rwa [left])).trans left
  · rcases a.comes hs with on | ended | ⟨spins, plunges⟩
    · have came := b.comes on
      rwa [a.kind] at came
    · exact .inr (.inl ((b.stays (by rw [ended]; exact HeadState.starting_of_idle (SeamKind.ended_idle _))).trans ended))
    · exact .inr (.inr ⟨spins, (b.stays (by rw [plunges]; rfl)).trans plunges⟩)

theorem failStart_startRun (r : StartFailure) (hs : (s.headState h).starting = true) : StartRun h found s (failStart h r s) := by
  obtain ⟨-, -, -, -, own⟩ := failStart_ended h r s
  exact ⟨by rw [own], fun hn => absurd (hs.symm.trans hn) (by decide),
    fun _ => .inr (.inl (by rw [State.headState, own]; rfl))⟩

/-- A start's own work (R38). -/
theorem sequencerWork_startRun (split : Bool) (hf : found.starting = true) (hp : s.present h = true) :
    StartRun h found s (sequencerWork h found split s) := by
  by_cases hs : s.headState h = found
  · rw [sequencerWork_found hs]
    cases found with
    | approach =>
      have waits : sequenceWork h split s = s := by unfold sequenceWork; rw [hs]
      rw [waits]
      exact .same rfl
    | spinup =>
      have timed : StartRun h .spinup s (spinupTimed h s) := by
        have seq := spinupTimed_seq h s
        exact ⟨by rw [seq], fun _ => by rw [State.headState, seq]; rfl, fun _ => .inl (by rw [State.headState, seq]; exact hs)⟩
      have spins : (spinupTimed h s).headState h = .spinup := by rw [State.headState, spinupTimed_seq]; exact hs
      rw [sequenceWork_spinup hs hp]
      split
      · exact timed
      · split
        · refine timed.trans ⟨?_, fun hn => by simp [spins, HeadState.starting] at hn, fun _ => .inr (.inr ⟨rfl, ?_⟩)⟩
          · simp [enterPlunge, setHeadState_self]
          · simp [enterPlunge]
        · split
          · exact timed.trans (failStart_startRun _ (by rw [spins]; rfl))
          · exact timed
    | _ => cases hf
  · rw [sequencerWork, if_neg hs]
    exact .same rfl

theorem placedAct_startRun (read : HeadUnit) (o : SampleOrder) (a : SampleAct) (rest : List SampleAct)
    (hf : read.seq.state.starting = true) (hp : s.present h = true) :
    StartRun h read.seq.state s (placedAct h read o a rest s) := by
  have welding : read.seq.state.welding = false := by
    revert hf
    cases read.seq.state <;> decide
  by_cases ha : a = .sequence
  · subst ha
    exact sequencerWork_startRun o.split hf hp
  · have minor := placedAct_minor h read o rest s welding ha
    generalize placedAct h read o a rest s = t at minor
    cases minor with
    | stands w => exact .same w.seq
    | interrupts c w hm =>
      have outside : read.seq.state.inMaterial = false := by
        revert hf
        cases read.seq.state <;> decide
      exact absurd (hm.symm.trans outside) (by decide)
    | fails r _ hs => exact failStart_startRun r hs

/-- The reason a check gives a failed start (R39). -/
theorem checkWork_starting (c : FaultCheck) {reason : StartFailure} (hr : checkFailure c = some reason)
    (hf : found.starting = true) (hs : (s.headState h).starting = true) (fails : checkFails h s c = true) :
    checkWork h found c s = failStart h reason s := by
  have outside : found.inMaterial = false := by
    revert hf
    cases found <;> decide
  unfold checkWork
  rw [if_neg (by simp [fails]), if_neg (by simp [outside]), hr]
  simp [hf, startFault, hs]

end

section
variable {h : Head} {i : SampleInput} {o : SampleOrder} {s : State}

/-- A failing check ends a start at its sample, unless the sample takes it to PLUNGE (R39). -/
theorem start_check (hp : s.present h = true) (hf : (s.headState h).starting = true) (c : FaultCheck)
    {reason : StartFailure} (hr : checkFailure c = some reason) (fails : checkFails h (readSample h i o s) c = true) :
    (sampleWorked h i o s).headState h = (s.head h).seq.kind.ended ∨
      s.headState h = .spinup ∧ (sampleWorked h i o s).headState h = .plunge := by
  obtain ⟨r, hr'⟩ : ∃ r, r = readSample h i o s := ⟨_, rfl⟩
  have read : SampleRead h i s r := hr' ▸ readSample_read h i o s
  have found : (r.head h).seq.state = s.headState h := read.headState
  have present : r.present h = true := (read.present h).trans hp
  have kind : (r.head h).seq.kind = (s.head h).seq.kind := by rw [read.seq]
  rw [sampleWorked, ← hr']
  rw [← hr'] at fails
  have calm : (r.head h).seq.state ≠ .calibrating := by
    rw [found]
    rintro e
    rw [e] at hf
    cases hf
  have starts : (r.head h).seq.state.starting = true := by rw [found, hf]
  have step {x : State} (b : SampleAct) (l : List SampleAct) (w : Scene h r x) :
      StartRun h (s.headState h) x (placedAct h (r.head h) o b l x) := by
    have run := placedAct_startRun (r.head h) o b l starts (w.present.trans present)
    rwa [found] at run
  obtain ⟨front, rest, e, -, -, -⟩ := actOrder_at o (a := .check c) (by simp)
  obtain ⟨m, ⟨w, before⟩, onward, -⟩ := sampleActs_through
    (R := fun x y => Scene h r y ∧ StartRun h (s.headState h) r y) h (r.head h) o front (.check c :: rest)
    (s := r) ⟨.refl .., .same rfl⟩ fun b hb l x p =>
      ⟨p.1.trans (placedAct_scene h _ o b l x calm), p.2.trans (step b l p.1)⟩
  have checked : placedAct h (r.head h) o (.check c) rest m = checkWork h (s.headState h) c m := by
    rw [← found]
    rfl
  have act := step (.check c) rest w
  rw [checked] at act
  have scene : Scene h r (checkWork h (s.headState h) c m) :=
    w.trans (checked ▸ placedAct_scene h (r.head h) o (.check c) rest m calm)
  have later := sampleActs_all (R := fun x y => Scene h r y ∧ StartRun h (s.headState h) x y) h (r.head h) o rest
    (s := checkWork h (s.headState h) c m) ⟨scene, .same rfl⟩ fun b hb l x p =>
      ⟨p.1.trans (placedAct_scene h _ o b l x calm), p.2.trans (step b l p.1)⟩
  rw [e, onward, sampleActs_cons, checked]
  have stays := later.2.stays
  rcases before.comes found with on | ended | ⟨spins, plunges⟩
  · have failing : checkFails h m c = true := by rw [w.checkFails, fails]
    rw [checkWork_starting c hr hf (by rw [on, hf]) failing] at stays ⊢
    obtain ⟨-, -, -, -, own⟩ := failStart_ended h reason m
    have left : (failStart h reason m).headState h = (s.head h).seq.kind.ended := by
      rw [State.headState, own, ← kind, ← before.kind]
      rfl
    exact .inl ((stays (by rw [left]; exact HeadState.starting_of_idle (SeamKind.ended_idle _))).trans left)
  · rw [kind] at ended
    have still : (m.headState h).starting = false := by
      rw [ended]
      exact HeadState.starting_of_idle (SeamKind.ended_idle _)
    exact .inl ((stays (by rw [act.stays still]; exact still)).trans ((act.stays still).trans ended))
  · have still : (m.headState h).starting = false := by rw [plunges]; rfl
    exact .inr ⟨spins, (stays (by rw [act.stays still]; exact still)).trans ((act.stays still).trans plunges)⟩

/-- A failing check that the order takes first ends the start with its reason and its record (R39). -/
theorem start_check_first (hp : s.present h = true) (hf : (s.headState h).starting = true) (c : FaultCheck)
    {reason : StartFailure} (hr : checkFailure c = some reason) (hh : o.acts.head? = some (.check c))
    (fails : checkFails h (readSample h i o s) c = true) :
    (sampleWorked h i o s).headState h = (s.head h).seq.kind.ended ∧ ((sampleWorked h i o s).head h).seq.spindle = 0 ∧
      ((sampleWorked h i o s).head h).track.queue = [] ∧ (CommonRoom s → Recorded h
        (.startFailed reason (s.head h).seq.kind (s.headState h) ((sampleWorked h i o s).toolStation h))
        (sampleWorked h i o s)) := by
  obtain ⟨r, hr'⟩ : ∃ r, r = readSample h i o s := ⟨_, rfl⟩
  have read : SampleRead h i s r := hr' ▸ readSample_read h i o s
  have found : (r.head h).seq.state = s.headState h := read.headState
  have here : (r.headState h).starting = true := (congrArg HeadState.starting read.headState).trans hf
  rw [sampleWorked, ← hr']
  rw [← hr'] at fails
  have welding : (r.head h).seq.state.welding = false := by
    rw [found]
    revert hf
    cases s.headState h <;> decide
  obtain ⟨front, rest, e, -, -, first⟩ := actOrder_at o (a := .check c) (by simp)
  have checked : placedAct h (r.head h) o (.check c) rest r = failStart h reason r :=
    checkWork_starting c hr here here fails
  obtain ⟨rest', -, gov, other, own⟩ := failStart_ended h reason r
  have ended : (failStart h reason r).headState h = (s.head h).seq.kind.ended := by
    rw [State.headState, own, read.seq]
    rfl
  have idle : ((failStart h reason r).headState h).engaged = false := by rw [ended]; exact SeamKind.ended_idle _
  have later := sampleActs_all (R := fun x y => Standing h (r.head h).seq.state x y) h (r.head h) o rest
    (s := failStart h reason r) (.refl ..) fun b hb l x w => by
      refine w.trans ?_
      have state : (x.headState h).engaged = false := by rw [w.headState, idle]
      by_cases hs : b = .sequence
      · subst hs
        have elsewhere : x.headState h ≠ (r.head h).seq.state := fun e => by
          rw [e] at state
          have := HeadState.starting_of_idle state
          exact absurd (here.symm.trans this) (by decide)
        have skipped : placedAct h (r.head h) o .sequence l x = x := if_neg elsewhere
        rw [skipped]
        exact .refl ..
      · exact (placedAct_minor h (r.head h) o l x welding hs).beside.standing (HeadState.inMaterial_of_idle state)
          (HeadState.starting_of_idle state)
  rw [e, first hh, List.nil_append, sampleActs_cons, checked]
  refine ⟨later.headState.trans ended, by rw [later.seq, own], later.emptied (by rw [own]; rfl), fun room => ?_⟩
  have slots := read.grown.common
  have free := room.common
  have recorded := createRecord_recorded (h := h) (.startFailed reason (r.head h).seq.kind (r.headState h) (r.toolStation h))
    false ((read.present h).trans hp) (by omega)
  have tool : (failStart h reason r).toolStation h = r.toolStation h := by
    rw [State.toolStation, own, rest'.1, State.toolStation]
  rw [later.toolStation, tool]
  obtain ⟨x, hx, ex⟩ := recorded
  have kind : (r.head h).seq.kind = (s.head h).seq.kind := by rw [read.seq]
  rw [kind, read.headState] at ex
  exact ⟨x, by rw [later.log, own]; exact hx, ex⟩

end

/-! ## What the checks look at, in the items that the sample leaves -/

section
variable {h : Head} {i : SampleInput} {o : SampleOrder} {s : State}

theorem sampleWorked_front (hc : s.headState h ≠ .calibrating) :
    ((sampleWorked h i o s).head h).front = ((readSample h i o s).head h).front := (sampleWorked_scene hc).front

theorem readSample_limits : ((readSample h i o s).head h).limits = (s.head h).limits := by
  rw [HeadUnit.limits, (readSample_read h i o s).profiles, HeadUnit.limits]

theorem checkFails_read (hc : s.headState h ≠ .calibrating) (c : FaultCheck) :
    checkFails h (readSample h i o s) c = match c with
      | .torque => decide (((s.head h).limits.torqueMax : Int) ≤ ((sampleWorked h i o s).head h).front.torque.effective)
      | .temp => decide (((s.head h).limits.tempMax : Int) < ((sampleWorked h i o s).head h).front.temp.effective)
      | .drive => !(i.spindleReady && i.plungeReady && i.lateralReady)
      | .travelDrive => !i.travelReady
      | .sensor => ((sampleWorked h i o s).head h).front.force.fault ||
          ((sampleWorked h i o s).head h).front.depth.fault || s.gantry.fault := by
  have read := readSample_read h i o s
  rw [sampleWorked_front hc, ← read.gantry, ← readSample_limits (i := i) (o := o)]
  cases c <;> simp only [checkFails, read.drives] <;> rfl

theorem limitTaken_read (hc : s.headState h ≠ .calibrating) : limitTaken h o.split (readSample h i o s) ↔
    ((s.head h).limits.forceMax : Int) < ((sampleWorked h i o s).head h).front.force.effective ∧
      2 ≤ (s.head h).reg.forceRun ∧ o.split = false := by
  rw [sampleWorked_front hc, limitTaken, forceRunAfter, readSample_limits, (readSample_read h i o s).reg, Bool.true_and]
  by_cases above : ((s.head h).limits.forceMax : Int) < ((readSample h i o s).head h).front.force.effective
  · rw [if_pos (by simpa using above)]
    simp only [above, true_and]
    exact and_congr_left fun _ => by omega
  · rw [if_neg (by simpa using above)]
    simp [above]

theorem graceTaken_read (hc : s.headState h ≠ .calibrating) : graceTaken h o.split (readSample h i o s) ↔
    (((sampleWorked h i o s).head h).front.torque.grace = 250 ∨ ((sampleWorked h i o s).head h).front.temp.grace = 250) ∧
      o.split = false := by
  rw [sampleWorked_front hc]
  simp [graceTaken, FrontEnd.graceSpent, Config.graceLimit]

theorem forceRunAfter_read (hc : s.headState h ≠ .calibrating) : forceRunAfter ((readSample h i o s).head h) true =
    if ((s.head h).limits.forceMax : Int) < ((sampleWorked h i o s).head h).front.force.effective then
      min ((s.head h).reg.forceRun + 1) 3 else 0 := by
  rw [sampleWorked_front hc, forceRunAfter, readSample_limits, (readSample_read h i o s).reg]
  simp

end

/-! ## The settlement -/

/-- Settles O47: the sample is cut at the piece of work that a condition belongs to; what comes before leaves what the
condition looks at, and what comes behind takes nothing back. -/
theorem continuousChecksInterrupt : Obligations.ContinuousChecksInterrupt := by
  intro h i o s hr hp
  refine ⟨_, exec_headSample h i o s hr hp, ?_⟩
  intro st q limits u tool ended failing cause above limit spent interrupted
  obtain ⟨x, hx⟩ : ∃ x, x = sampleWorked h i o s := ⟨_, rfl⟩
  have front : u.front = (x.head h).front := hx ▸ presentOutputs_front h _
  have seq : u.seq = (x.head h).seq := hx ▸ presentOutputs_seq h _
  have reg : u.reg = (x.head h).reg := hx ▸ presentOutputs_reg h _
  have track : u.track = (x.head h).track := hx ▸ presentOutputs_track h _
  have station : tool = x.toolStation h := hx ▸ presentOutputs_toolStation ..
  have records (b : RecordBody) : Recorded h b (presentOutputs h x) ↔ Recorded h b x := by
    rw [Recorded, presentOutputs_log, Recorded]
  have fails (hc : st ≠ .calibrating) (c : FaultCheck) : failing c = checkFails h (readSample h i o s) c := by
    have read := checkFails_read (i := i) (o := o) (c := c) hc
    rw [← hx, ← front] at read
    refine Eq.trans ?_ read.symm
    cases c <;> rfl
  have limitIff (hc : st ≠ .calibrating) : limit = true ↔ limitTaken h o.split (readSample h i o s) := by
    rw [limitTaken_read hc, ← hx, ← front]
    simp [limit, above, limits, and_assoc]
  have spentIff (hc : st ≠ .calibrating) : spent = true ↔ graceTaken h o.split (readSample h i o s) := by
    rw [graceTaken_read hc, ← hx, ← front]
    simp [spent]
  have taken {c : Cause} (e : x.headState h = .interrupting ∧ (x.head h).seq.cause = some c ∧
      (x.head h).seq.interruptStation = x.toolStation h ∧
      (CommonRoom s → ∃ named, NamesInForce s h named ∧
        Recorded h (.interrupt c (x.toolStation h) named q.kind st q.depth) x)) : interrupted c := by
    obtain ⟨left, causes, at_, record⟩ := e
    simp only [interrupted, seq, station, ← hx, presentOutputs_headState, records]
    exact ⟨left, causes, at_, record⟩
  refine ⟨fun hm => ?_, fun hm => ?_, fun hs c reason hcr fail => ?_⟩
  · have hc : st ≠ .calibrating := material_not_calibrating hm
    rw [← hx, presentOutputs_headState, reg, seq]
    subst hx
    refine ⟨fun mat => ?_, fun any => ?_, fun c hh fail => taken ?_, fun hh full => taken ?_, fun hh full => taken ?_,
      fun none unlimited unspent left => ?_⟩
    · rw [material_forceRun hp hm mat, forceRunAfter_read hc, ← front]
      simp [above, limits]
    · refine material_conditions hp hm (any.imp ?_ (Or.imp (limitIff hc).mp (spentIff hc).mp))
      rintro ⟨c, fail⟩
      exact ⟨c, (fails hc c).symm.trans fail⟩
    · have checkFail := (fails hc c).symm.trans fail
      have e := first_interrupts (c := checkCause c) hh (by simp) hp hm (checkCause_actsIn c)
        ⟨rfl, rfl, rfl, rfl, rfl⟩ fun rest => (checkWork_material c
          ((congrArg HeadState.inMaterial (readSample_read h i o s).headState).trans hm)).trans (if_pos checkFail)
      cases c <;> exact e
    · have mat := (congrArg HeadState.inMaterial (readSample_read h i o s).headState).trans hm
      exact first_interrupts (z := (readSample h i o s).onReg h fun r => { r with forceRun := 3 }) hh (by decide) hp hm
        (fun _ => rfl) ⟨by simp, by simp, by simp, by simp, by simp⟩ fun rest =>
          forceRunWork_material mat mat ((limitIff hc).mp full)
    · have mat := (congrArg HeadState.inMaterial (readSample_read h i o s).headState).trans hm
      exact first_interrupts hh (by decide) hp hm (fun _ => rfl) ⟨rfl, rfl, rfl, rfl, rfl⟩ fun rest =>
        graceWork_material mat ((spentIff hc).mp full)
    · obtain ⟨c, own, e⟩ := material_own hp hm (fun c => (fails hc c).symm.trans (none c))
        (fun full => by rw [(limitIff hc).mpr full] at unlimited; cases unlimited)
        (fun full => by rw [(spentIff hc).mpr full] at unspent; cases unspent) left
      simpa [e, ownCause] using own
  · rw [reg, hx]
    exact sampleWorked_forceRun h i o s hm
  · have hc : st ≠ .calibrating := by
      rintro e
      rw [e] at hs
      cases hs
    have failure : checkFailure c = some reason := by
      simp only [List.mem_cons, Prod.mk.injEq, List.not_mem_nil, or_false] at hcr
      rcases hcr with ⟨rfl, rfl⟩ | ⟨rfl, rfl⟩ | ⟨rfl, rfl⟩ <;> rfl
    have checkFail := (fails hc c).symm.trans fail
    rw [← hx, presentOutputs_headState, seq, track, station]
    simp only [records]
    subst hx
    exact ⟨start_check hp hs c failure checkFail, fun hh => start_check_first hp hs c failure hh checkFail⟩

/-! ## What a sample leaves of its regulator's work (R64 to R77) -/

/-- What the pieces of work behind the regulator's leave of it: the depth command, what the regulator holds but for the
force-limit run, the saturation count until a segment is completed, and the two counts of the regulator. With `spindle`
the spindle command stays too: the sequencer's own work alone sets it in WELD and PAUSE (R29). -/
structure Held (h : Head) (spindle : Bool) (s t : State) : Prop where
  depth : (t.head h).seq.depth = (s.head h).seq.depth
  speed : spindle = true → (t.head h).seq.spindle = (s.head h).seq.spindle
  reg : (t.head h).reg = { (s.head h).reg with
    forceRun := (t.head h).reg.forceRun, saturationCount := (t.head h).reg.saturationCount }
  saturated : (t.head h).log.counters.saturatedSamples = (s.head h).log.counters.saturatedSamples
  excursions : (t.head h).log.counters.excursions = (s.head h).log.counters.excursions
  queue : (t.head h).plan.queue <:+ (s.head h).plan.queue
  count : (t.head h).plan.queue = (s.head h).plan.queue →
    (t.head h).reg.saturationCount = (s.head h).reg.saturationCount

section
variable {h : Head} {p : Bool} {s t u : State}

theorem Held.refl (h : Head) (p : Bool) (s : State) : Held h p s s :=
  ⟨rfl, fun _ => rfl, rfl, rfl, rfl, List.suffix_rfl, fun _ => rfl⟩

/-- A queue that is as it was in the end was so all along: segments leave it and do not come back. -/
theorem Held.trans (a : Held h p s t) (b : Held h p t u) : Held h p s u := by
  refine ⟨b.depth.trans a.depth, fun hp => (b.speed hp).trans (a.speed hp), b.reg.trans (by rw [a.reg]),
    b.saturated.trans a.saturated, b.excursions.trans a.excursions, b.queue.trans a.queue, fun same => ?_⟩
  have between : (t.head h).plan.queue = (s.head h).plan.queue :=
    a.queue.eq_of_length (le_antisymm a.queue.length_le (same ▸ b.queue.length_le))
  exact (b.count (same.trans between.symm)).trans (a.count between)

theorem Held.of_ite {c : Prop} [Decidable c] {x y : State} (hx : c → Held h p s x) (hy : ¬c → Held h p s y) :
    Held h p s (if c then x else y) := by
  split
  · next hc => exact hx hc
  · next hc => exact hy hc

/-- What touches neither sequencer nor plan nor regulator, and none of the two counts. -/
theorem Held.logs (w : Held h p s t) (hs : (u.head h).seq = (t.head h).seq) (hq : (u.head h).plan = (t.head h).plan)
    (hr : (u.head h).reg = (t.head h).reg)
    (hc : (u.head h).log.counters.saturatedSamples = (t.head h).log.counters.saturatedSamples ∧
      (u.head h).log.counters.excursions = (t.head h).log.counters.excursions) : Held h p s u :=
  w.trans ⟨by rw [hs], fun _ => by rw [hs], by rw [hr], hc.1, hc.2, by rw [hq], fun _ => by rw [hr]⟩

theorem createRecord_weldCounts (h k : Head) (b : RecordBody) (co : Bool) (s : State) :
    ((createRecord h b co s).head k).log.counters.saturatedSamples = (s.head k).log.counters.saturatedSamples ∧
      ((createRecord h b co s).head k).log.counters.excursions = (s.head k).log.counters.excursions := by
  obtain ⟨n, e⟩ := createRecord_counters h k b co s
  exact ⟨by rw [e], by rw [e]⟩

theorem Held.creates (w : Held h p s t) (b : RecordBody) (co : Bool) : Held h p s (createRecord h b co t) :=
  w.logs (by simp) (by simp) (by simp) (createRecord_weldCounts ..)

theorem Held.counts (w : Held h p s t) (f : HeadCounters → HeadCounters)
    (hs : ∀ c, (f c).saturatedSamples = c.saturatedSamples) (he : ∀ c, (f c).excursions = c.excursions) :
    Held h p s (countHead h f t) :=
  w.logs (by simp) (by simp) (by simp)
    ⟨countHead_keeps HeadCounters.saturatedSamples h h f t hs, countHead_keeps HeadCounters.excursions h h f t he⟩

theorem Held.onTrack (w : Held h p s t) (f : Tracking → Tracking) : Held h p s (t.onTrack h f) :=
  w.logs (by simp) (by simp) (by simp) (by simp)

theorem Held.onLog (w : Held h p s t) (f : HeadLog → HeadLog) (hf : ∀ l, (f l).counters = l.counters) :
    Held h p s (t.onLog h f) := w.logs (by simp) (by simp) (by simp) (by simp [hf])

theorem Held.runs (w : Held h p s t) (n : Nat) : Held h p s (t.onReg h fun r => { r with forceRun := n }) :=
  w.trans (by constructor <;> simp)

theorem Held.starves (w : Held h p s t) (f : PlanStore → PlanStore) (hf : ∀ q, (f q).queue = q.queue) :
    Held h p s (t.onPlan h f) := w.trans (by constructor <;> simp [hf])

theorem Held.sequences (w : Held h p s t) (f : Sequencer → Sequencer)
    (hf : ∀ q, (f q).depth = q.depth ∧ (f q).spindle = q.spindle) : Held h p s (t.onSeq h f) :=
  w.trans (by constructor <;> simp [hf])

theorem Held.enters (w : Held h p s t) (st : HeadState) : Held h p s (setHeadState h st t) := by
  have self := setHeadState_self h st t
  exact w.trans (by constructor <;> simp [self])

theorem Held.unstarves (w : Held h p s t) : Held h p s (endStarvation h t) := w.starves _ fun _ => rfl

theorem Held.untracks (w : Held h p s t) : Held h p s (emptyTrack h t) := w.onTrack _

theorem Held.interrupts (w : Held h p s t) (c : Cause) : Held h p s (interruptHead h c t) := by
  cases ha : c.actsIn (t.headState h) with
  | false =>
    rw [interruptHead_of_not_acts ha]
    exact w
  | true =>
    obtain ⟨named, n, -, e⟩ := reportInterrupt_eq h c t (interruptEntry h c t)
    have entered : Held h p s (interruptEntry h c t) :=
      ((w.sequences _ fun _ => by exact ⟨rfl, rfl⟩).enters .interrupting).unstarves
    have freed : Held h p s { interruptEntry h c t with free := n } :=
      entered.logs (by rw [withFree_head]) (by rw [withFree_head]) (by rw [withFree_head])
        ⟨by rw [withFree_head], by rw [withFree_head]⟩
    rw [interruptHead_of_acts ha, e]
    exact (freed.creates _ _).counts _ (fun _ => rfl) fun _ => rfl

theorem Held.exits (w : Held h p s t) (g : Segment) : Held h p s (enterExit h g t) := by
  have counted : Held h p s (countHead h (fun c => { c with seamsCompleted := bump c.seamsCompleted })
      (createRecord h (.seamEnd g.ref (t.head h).seq.kind (t.toolStation h)) false t)) :=
    (w.creates _ _).counts _ (fun _ => rfl) fun _ => rfl
  exact ((((counted.sequences (fun q => { q with rampAcc := 499 }) fun _ => ⟨rfl, rfl⟩).enters .exit).unstarves).untracks)

/-! ### The tracking unit (R116 to R125) -/

theorem Held.checksGap (w : Held h p s t) (g : Segment) (e : TrackEntry) : Held h p s (checkGap h g e t) := by
  refine .of_ite (fun _ => ?_) fun _ => w.onTrack _
  split
  · exact .of_ite (fun _ => w) fun _ => (w.onTrack _).creates _ _
  · exact w.creates _ _

theorem Held.checksMismatch (w : Held h p s t) (g : Segment) (e : TrackEntry) : Held h p s (checkMismatch h g e t) :=
  .of_ite (fun _ => .of_ite (fun _ => w) fun _ => (w.onTrack _).creates _ _) fun _ => w.onTrack _

theorem Held.activates (w : Held h p s t) (g : Segment) (e : TrackEntry) (first : Bool) :
    Held h p s (activate h g e first t) :=
  have checked := (w.onTrack fun x => { x with activeFirst := true }).checksGap g e
  checksMismatch (.of_ite (fun _ => checked.interrupts _) fun _ => checked) g e

theorem Held.steers (w : Held h p s t) (on : Bool) (e : Option TrackEntry) : Held h p s (steer h on e t) := by
  unfold steer
  exact w.onTrack _

theorem Held.checksLoss (w : Held h p s t) (g : Segment) (reference : Int) : Held h p s (checkLoss h g reference t) :=
  .of_ite (fun _ => (((w.onTrack _).creates _ _).counts _ (fun _ => by rfl) fun _ => by rfl).interrupts _) fun _ => w.onTrack _

theorem Held.tracksWelding (w : Held h p s t) (weld first : Bool) (g : Segment) :
    Held h p s (trackWelding h weld first g t) := by
  unfold trackWelding
  extract_lets due s1 s2 s3
  have activated : Held h p s s1 := by
    unfold s1
    cases due with
    | some e => exact w.activates g e first
    | none => exact w
  have steered : Held h p s s2 := activated.steers _ _
  have tested : Held h p s s3 := .of_ite (fun _ => steered.checksLoss _ _) fun _ => steered
  exact .of_ite (fun _ => tested.interrupts _) fun _ => tested

theorem trackWork_held (read : HeadUnit) (first : Bool) (s : State) : Held h p s (trackWork h read first s) := by
  have still := Held.refl h p s
  have trimmed : Held h p s (s.onTrack h Tracking.trim) := still.onTrack _
  have after : Held h p s (trackAfterLeaving h read first s) := by
    unfold trackAfterLeaving
    extract_lets s1 s2
    have worked : Held h p s s2 := by
      unfold s2
      split
      · exact (still.onTrack _).tracksWelding _ _ _
      · exact still.onTrack _
    exact .of_ite (fun _ => worked) fun _ => worked.onTrack _
  unfold trackWork
  dsimp only
  refine .of_ite (fun _ => .of_ite (fun _ => ?_) fun _ => after) fun _ =>
    .of_ite (fun _ => trimmed.steers _ _) fun _ => trimmed
  split
  · exact trimmed.tracksWelding _ _ _
  · exact trimmed

/-! ### The plan store (R10 to R17) -/

/-- A completed segment leaves the queue, and with it the saturation count (R72). -/
theorem Held.completes (w : Held h p s t) {g : Segment} {rest : List Segment} (hq : (t.head h).plan.queue = g :: rest) :
    Held h p s (completeSegment h g rest t) := by
  have self := completeSegment_self h g rest t
  have counts : ((completeSegment h g rest t).head h).log.counters.saturatedSamples =
      (t.head h).log.counters.saturatedSamples ∧
      ((completeSegment h g rest t).head h).log.counters.excursions = (t.head h).log.counters.excursions := by
    unfold completeSegment
    extract_lets body s1 s2
    obtain ⟨saturated, excursions⟩ := createRecord_weldCounts h h body false s1
    rw [onReg_self]
    refine ⟨(countHead_keeps HeadCounters.saturatedSamples h h _ _ fun _ => by rfl).trans (saturated.trans ?_),
      (countHead_keeps HeadCounters.excursions h h _ _ fun _ => by rfl).trans (excursions.trans ?_)⟩ <;> simp [s1]
  refine w.trans ⟨by rw [self], fun _ => by rw [self], by rw [self], counts.1, counts.2, ?_, fun same => ?_⟩
  · rw [self, hq]
    exact List.suffix_cons g rest
  · rw [self, hq] at same
    exact absurd (congrArg List.length same) (by simp)

theorem Held.allows (w : Held h p s t) : Held h p s (checkAllowance h t) := by
  unfold checkAllowance
  split
  · exact .of_ite (fun _ => w.interrupts _) fun _ => w
  · exact w

theorem Held.completesAll (n : Nat) (w : Held h p s t) : Held h p s (completeSegments n h t) := by
  induction n generalizing t with
  | zero => exact w
  | succ n ih =>
    rw [completeSegments]
    split
    · exact w
    · next g rest hq =>
      have completed := w.completes hq
      refine .of_ite (fun _ => w) fun _ => ?_
      dsimp only
      split
      · exact completed.exits g
      · refine .of_ite (fun _ => .of_ite (fun _ => completed) fun _ => ?_) fun _ => ih completed
        exact ((completed.starves _ fun _ => by rfl).creates _ _).allows

theorem planWork_held (found : HeadState) (s : State) : Held h p s (planWork h found s) := by
  have checked : Held h p s (if found = .weld ∧ s.headState h = .weld then stationCheck h s else s) :=
    .of_ite (fun _ => (Held.refl h p s).completesAll _) fun _ => .refl h p s
  unfold planWork measureStarvation
  dsimp only
  exact .of_ite (fun _ => (checked.starves _ fun _ => by rfl).allows) fun _ => checked

/-! ### All of them -/

theorem logWork_held (found : HeadState) (a b : Bool) (s : State) : Held h p s (logWork h found a b s) := by
  have added : Held h p s (s.onLog h fun l => { l with acc := l.acc.add ((s.head h).sampleValues a b) }) :=
    (Held.refl h p s).onLog _ fun _ => rfl
  refine .of_ite (fun _ => .of_ite (fun _ => ?_) fun _ => added) fun _ => .refl h p s
  unfold emitAtMark
  dsimp only
  split
  · exact .of_ite (fun _ => (added.creates _ _).onLog _ fun _ => by rfl) fun _ => added
  · exact added

/-- In WELD and PAUSE the sequencer's own work is the spindle command (R29). -/
theorem sequenceWork_welding (split : Bool) (hw : (s.headState h).welding = true) :
    sequenceWork h split s = followSpindle h s := by
  revert hw
  unfold sequenceWork
  cases s.headState h <;> simp [HeadState.welding]

theorem followSpindle_held (s : State) : Held h false s (followSpindle h s) := by
  obtain ⟨n, e, -⟩ := followSpindle_seq h s
  have self : (followSpindle h s).head h = { s.head h with seq := { (s.head h).seq with spindle := n } } := by
    rw [← e]
    unfold followSpindle
    split <;> simp
  constructor <;> simp [self]

theorem HeadState.inMaterial_of_welding {st : HeadState} (hw : st.welding = true) : st.inMaterial = true := by
  revert hw
  cases st <;> decide

/-- A piece of work behind the regulator's, at a sample that found the head in WELD or PAUSE. -/
theorem placedAct_held (read : HeadUnit) (o : SampleOrder) {a : SampleAct} (rest : List SampleAct) (s : State)
    (hw : read.seq.state.welding = true) (hr : a ≠ .regulator) (hs : p = true → a ≠ .sequence) :
    Held h p s (placedAct h read o a rest s) := by
  have still := Held.refl h p s
  cases a with
  | regulator => exact absurd rfl hr
  | log => exact logWork_held ..
  | station => exact planWork_held read.seq.state s
  | track => exact trackWork_held read o.gapFirst s
  | grace =>
    show Held h p s (graceWork h read.seq.state o.split s)
    exact .of_ite (fun _ => still.interrupts _) fun _ => still
  | forceRun =>
    show Held h p s (forceRunWork h read.seq.state o.split s)
    unfold forceRunWork
    dsimp only
    exact .of_ite (fun _ => (still.runs _).interrupts _) fun _ => still.runs _
  | check c =>
    show Held h p s (checkWork h read.seq.state c s)
    rw [checkWork_material c (HeadState.inMaterial_of_welding hw)]
    exact .of_ite (fun _ => still.interrupts _) fun _ => still
  | sequence =>
    obtain rfl : p = false := by simpa using hs
    show Held h false s (sequencerWork h read.seq.state o.split s)
    refine .of_ite (fun e => ?_) fun _ => still
    rw [sequenceWork_welding _ (by rw [e, hw])]
    exact followSpindle_held s

end

/-! ## The regulator's work of a sample, in full (R64 to R77) -/

section
variable {h : Head} {g : Segment} {split : Bool} {s t : State}

/-- The condition of R77 on what the stages leave. -/
def excursionTaken (h : Head) (g : Segment) (s : State) : Bool :=
  (s.head h).regulator.excursionLength < (regulation h g s).1.excursionRun && !(regulation h g s).1.excursionLatch

/-- The excursion that the regulator reports of a sample. -/
def excursionFound (h : Head) (g : Segment) (s : State) : Excursion where
  segment := g.ref
  state := s.headState h
  peak := (regulation h g s).1.excursionPeak
  run := (regulation h g s).1.excursionRun
  negative := (regulation h g s).1.ePrev < 0
  tool := s.toolStation h

/-- A head after its regulator's work on the segment `g`. -/
structure Regulates (h : Head) (g : Segment) (split : Bool) (s t : State) : Prop where
  seq : (t.head h).seq = { (s.head h).seq with depth := (regulation h g s).2 }
  plan : (t.head h).plan = (s.head h).plan
  reg : (t.head h).reg = { (regulation h g s).1 with
    excursionLatch := (regulation h g s).1.excursionLatch || excursionTaken h g s
    excursionsHeld := (regulation h g s).1.excursionsHeld ++
      if excursionTaken h g s && split then [excursionFound h g s] else [] }
  saturated : (t.head h).log.counters.saturatedSamples = if (regulation h g s).1.saturated = true
    then bump (s.head h).log.counters.saturatedSamples else (s.head h).log.counters.saturatedSamples
  excursions : (t.head h).log.counters.excursions = if excursionTaken h g s && !split
    then bump (s.head h).log.counters.excursions else (s.head h).log.counters.excursions
  record : excursionTaken h g s = true → split = false → s.commonUsed < 960 → Recorded h
    (.excursion g.ref (s.headState h) (regulation h g s).1.excursionPeak (regulation h g s).1.excursionRun
      (decide ((regulation h g s).1.ePrev < 0)) (s.toolStation h)) t

theorem regulated_self (hp : s.present h = true) : (regulated h g s).head h = { s.head h with
    reg := (regulation h g s).1
    seq := { (s.head h).seq with depth := (regulation h g s).2 }
    log := { (s.head h).log with counters := { (s.head h).log.counters with
      saturatedSamples := if (regulation h g s).1.saturated = true then bump (s.head h).log.counters.saturatedSamples
        else (s.head h).log.counters.saturatedSamples } } } := by
  unfold regulated
  dsimp only
  split
  · rw [countHead_self, countHead_log h _ _ (by simpa using hp)]
    simp
  · simp

theorem regulated_commonUsed : (regulated h g s).commonUsed = s.commonUsed := by
  unfold regulated
  dsimp only
  split
  · rw [countHead_commonUsed]
    exact commonUsed_congr (by simp)
  · exact commonUsed_congr (by simp)

/-- The record of an excursion, and its count (R77). -/
theorem recordExcursion_log (x : Excursion) (hp : s.present h = true) :
    ((recordExcursion h x s).head h).log.counters.saturatedSamples = (s.head h).log.counters.saturatedSamples ∧
    ((recordExcursion h x s).head h).log.counters.excursions = bump (s.head h).log.counters.excursions ∧
    (s.commonUsed < 960 →
      Recorded h (.excursion x.segment x.state x.peak x.run x.negative x.tool) (recordExcursion h x s)) := by
  obtain ⟨saturated, excursions⟩ := createRecord_weldCounts h h
    (.excursion x.segment x.state x.peak x.run x.negative x.tool) false s
  refine ⟨(countHead_keeps HeadCounters.saturatedSamples h h _ _ fun _ => by rfl).trans saturated, ?_, fun room =>
    (createRecord_recorded _ false hp room).grown (countHead_grown ..)⟩
  rw [recordExcursion, countHead_log h _ _ (by simpa using hp), excursions]

/-- The head with the latch of its excursion set (R77). -/
def latched (h : Head) (g : Segment) (s : State) : State :=
  (regulated h g s).onReg h fun r => { r with excursionLatch := true }

theorem reportExcursion_regulated (hp : s.present h = true) (hw : (s.headState h).welding = true) :
    reportExcursion h g split (regulated h g s) = if split
      then (latched h g s).onReg h fun r => { r with excursionsHeld := r.excursionsHeld ++ [excursionFound h g s] }
      else recordExcursion h (excursionFound h g s) (latched h g s) := by
  have self := regulated_self (g := g) hp
  have tool : (regulated h g s).toolStation h = s.toolStation h := (regulated_work h g s hw).scene.toolStation
  unfold reportExcursion
  dsimp only
  rw [tool, self]
  rfl

theorem regulatorSample_regulates (hp : s.present h = true) (hw : (s.headState h).welding = true)
    (hg : (s.head h).plan.inForce = some g) : Regulates h g split s (regulatorSample h split s) := by
  have self := regulated_self (g := g) hp
  have due : ((regulated h g s).head h).excursionDue = excursionTaken h g s := by
    rw [HeadUnit.excursionDue, HeadUnit.regulator, self]
    rfl
  rw [regulatorSample_eq h split s hg, due, reportExcursion_regulated hp hw]
  cases ht : excursionTaken h g s with
  | false =>
    constructor
    case saturated => simp only [self, Bool.false_eq_true, if_false]
    all_goals simp [self, ht]
  | true =>
    cases split with
    | true =>
      constructor
      case saturated => simp only [latched, self, onReg_self, if_true]
      all_goals simp [latched, self, ht]
    | false =>
      have present : (latched h g s).present h = true := by
        simpa [latched] using (regulated_reached h g s).present.trans hp
      have room : (latched h g s).commonUsed = s.commonUsed :=
        (commonUsed_congr (by simp [latched])).trans (regulated_commonUsed (h := h) (g := g))
      obtain ⟨saturated, excursions, record⟩ := recordExcursion_log (excursionFound h g s) present
      constructor
      case saturated => exact saturated.trans (by simp only [latched, self, onReg_self])
      case excursions => exact excursions.trans (by simp [latched, self, ht])
      case record => exact fun _ _ hr => record (room ▸ hr)
      all_goals simp [recordExcursion, latched, self, ht]

end

/-! ## The numbers of a regulator's sample (R64 to R68) -/

/-- A quotient by 256 rounded half away from zero (R67). -/
theorem roundHalfAway_nearest (n : Int) : 2 * (256 * roundHalfAway n 256 - n).natAbs ≤ 256 ∧
    (2 * (256 * roundHalfAway n 256 - n).natAbs = 256 → n.natAbs < 256 * (roundHalfAway n 256).natAbs) := by
  unfold roundHalfAway
  split <;> omega

/-- The target force, as the statement reads it (R64, R65). -/
theorem targetForce_eq (r : RegulatorSet) (paused : Bool) (temp : Int) (force : Nat) :
    (targetForce r paused temp force : Int) = if paused = true then
      (force : Int) * thermalFactor r temp / 1000 * r.pauseFactor / 1000 else (force : Int) * thermalFactor r temp / 1000 := by
  have positive : 0 ≤ thermalFactor r temp := by
    unfold thermalFactor
    split <;> omega
  unfold targetForce
  dsimp only
  split <;> push_cast <;> rw [Int.toNat_of_nonneg positive]

/-! ## The spindle command of a head that stays in WELD or PAUSE (R29) -/

section
variable {h : Head} {i : SampleInput} {o : SampleOrder} {s t : State}

/-- A head that is in the state `found` was in it before, under the same segment in force. -/
def Paced (h : Head) (found : HeadState) (s t : State) : Prop :=
  t.headState h = found → s.headState h = found ∧ (t.head h).plan.inForce = (s.head h).plan.inForce

theorem Worked.paced {found : HeadState} (w : Worked h s t) (hf : found ≠ .interrupting) : Paced h found s t := by
  intro stands
  rcases w.stays with ⟨state, starved⟩ | ⟨left, -⟩
  · exact ⟨state.symm.trans stands, by rw [PlanStore.inForce, starved, w.retained, PlanStore.current, w.queue]; rfl⟩
  · exact absurd (stands.symm.trans left) hf

/-- No piece of work but the plan store's changes the segment in force of a head that stays. -/
theorem sampleActs_paced (read : HeadUnit) (l : List SampleAct) (hw : read.seq.state.welding = true)
    (hp : s.present h = true) (hl : .station ∉ l) : Paced h read.seq.state s (sampleActs h read o l s) := by
  have work : Work h true s (sampleActs h read o l s) := sampleActs_work h read o l s fun a ha =>
    ⟨fun _ => rfl, fun e => absurd (e ▸ ha) hl, fun _ => hw, fun _ _ => HeadState.starting_of_welding hw⟩
  refine (work.worked hp).paced fun e => ?_
  rw [e] at hw
  cases hw

/-- The sequencer's own work in the state that its sample found, and what comes behind it: the spindle command is that of
the segment then in force. -/
theorem sampleActs_speed {g : Segment} (read : HeadUnit) (rest : List SampleAct) (hw : read.seq.state.welding = true)
    (hs : s.headState h = read.seq.state) (hg : (s.head h).plan.inForce = some g) (hr : .regulator ∉ rest)
    (hq : .sequence ∉ rest) : ((sampleActs h read o (.sequence :: rest) s).head h).seq.spindle = g.spindle := by
  have worked : placedAct h read o .sequence rest s = followSpindle h s :=
    (sequencerWork_found hs o.split).trans (sequenceWork_welding _ (by rw [hs, hw]))
  have behind : Held h true (followSpindle h s) (sampleActs h read o rest (followSpindle h s)) :=
    sampleActs_all (R := Held h true) h read o rest (.refl ..) fun a ha l x w =>
      w.trans (placedAct_held read o l x hw (fun e => hr (e ▸ ha)) fun _ e => hq (e ▸ ha))
  obtain ⟨n, seq, speed⟩ := followSpindle_seq h s
  rw [sampleActs_cons, worked, behind.speed rfl, seq, ← speed g hg]

/-- The station check stands before the sequencer's work: the segment in force in the end gives the spindle speed. -/
theorem sampleActs_speed_checked {n : Segment} (read : HeadUnit) (front rest : List SampleAct)
    (hw : read.seq.state.welding = true) (hp : s.present h = true) (hl : .station ∉ rest) (hr : .regulator ∉ rest)
    (hq : .sequence ∉ rest)
    (stands : (sampleActs h read o (front ++ .sequence :: rest) s).headState h = read.seq.state)
    (hn : ((sampleActs h read o (front ++ .sequence :: rest) s).head h).plan.inForce = some n) :
    ((sampleActs h read o (front ++ .sequence :: rest) s).head h).seq.spindle = n.spindle := by
  obtain ⟨m, present, e, -⟩ := sampleActs_through (R := fun _ x => x.present h = true) h read o front (.sequence :: rest)
    hp fun a _ l x hx => (placedAct_scene h read o a l x (material_not_calibrating
      (HeadState.inMaterial_of_welding hw))).present.trans hx
  rw [e] at stands hn ⊢
  obtain ⟨state, same⟩ := sampleActs_paced read (.sequence :: rest) hw present (by simp [hl]) stands
  exact sampleActs_speed read rest hw state (same.symm.trans hn) hr hq

/-- The station check comes behind the sequencer's work: the segment in force before gives the spindle speed. -/
theorem sampleActs_speed_unchecked {g : Segment} (read : HeadUnit) (front rest : List SampleAct)
    (hw : read.seq.state.welding = true) (hp : s.present h = true) (hs : s.headState h = read.seq.state)
    (hl : .station ∉ front) (hr : .regulator ∉ rest) (hq : .sequence ∉ rest)
    (stands : (sampleActs h read o (front ++ .sequence :: rest) s).headState h = read.seq.state)
    (hg : (s.head h).plan.inForce = some g) :
    ((sampleActs h read o (front ++ .sequence :: rest) s).head h).seq.spindle = g.spindle := by
  obtain ⟨m, work, e⟩ := sampleActs_front (r := true) h read o front (.sequence :: rest) s fun a ha =>
    ⟨fun _ => rfl, fun e => absurd (e ▸ ha) hl, fun _ => hw, fun _ _ => HeadState.starting_of_welding hw⟩
  have worked := work.worked hp
  rw [e] at stands ⊢
  rcases worked.stays with ⟨state, starved⟩ | ⟨left, -⟩
  · refine sampleActs_speed read rest hw (state.trans hs) ?_ hr hq
    rw [← hg, PlanStore.inForce, starved, worked.retained, PlanStore.current, worked.queue]
    rfl
  · have gone := (sampleActs_left h read o (.sequence :: rest) m (HeadState.inMaterial_of_welding hw)
      (by rw [left]; rfl)).aside (by rw [left]; rfl)
    rw [← stands, gone.headState, left] at hw
    cases hw

/-- The order takes the regulator's work first, as the default order does. -/
theorem actOrder_regulator (ho : o.acts = [] ∨ o.acts.head? = some .regulator) :
    ∃ later, actOrder o = .regulator :: later ∧ .regulator ∉ later := by
  rcases ho with none | first
  · exact ⟨defaultActs.tail, (actOrder_default o none).trans rfl, by decide⟩
  · obtain ⟨front, later, e, -, hr, start⟩ := actOrder_at o (a := .regulator) (by decide)
    rw [start first] at e
    exact ⟨later, e, hr⟩

/-- The spindle command behind a sample that found the head in WELD or PAUSE and left it there (R29). -/
theorem weld_spindle {g n : Segment} (hp : s.present h = true) (hw : (s.headState h).welding = true)
    (hg : (s.head h).plan.inForce = some g) (ho : o.acts = [] ∨ o.acts.head? = some .regulator)
    (stands : (sampleWorked h i o s).headState h = s.headState h)
    (hn : ((sampleWorked h i o s).head h).plan.inForce = some n) (hc : n = g ∨ o.acts = []) :
    ((sampleWorked h i o s).head h).seq.spindle = n.spindle := by
  have read := readSample_read h i o s
  have found : ((readSample h i o s).head h).seq.state = s.headState h := read.headState
  have welding : ((readSample h i o s).head h).seq.state.welding = true := found ▸ hw
  have present : (readSample h i o s).present h = true := (read.present h).trans hp
  obtain ⟨later, first, once⟩ := actOrder_regulator ho
  obtain ⟨front, rest, e, -, hq, -⟩ := actOrder_at o (a := .sequence) (by decide)
  have hr : .regulator ∉ rest := by
    rw [first] at e
    cases front with
    | nil => cases e
    | cons b l =>
      obtain ⟨-, rfl⟩ := List.cons.inj e
      exact fun mem => once (List.mem_append_right _ (List.mem_cons_of_mem _ mem))
  rw [sampleWorked, e] at stands hn ⊢
  by_cases hl : .station ∈ rest
  · have before : .station ∉ front := fun hf => by
      have nodup : (front ++ .sequence :: rest).Nodup := e ▸ firstOccurrences_nodup ..
      exact (List.nodup_append.mp nodup).2.2 _ hf _ (List.mem_cons_of_mem _ hl) rfl
    have same : n = g := by
      refine hc.resolve_right fun none => ?_
      obtain ⟨b, l, rfl⟩ := List.exists_cons_of_ne_nil (List.ne_nil_of_mem hl)
      have last : (b :: l).getLast? = some .sequence := by
        have whole : (front ++ .sequence :: b :: l).getLast? = some .sequence := by
          rw [← e, actOrder_default o none]
          rfl
        simpa [List.getLast?_append, List.getLast?_cons] using whole
      exact hq (List.mem_of_getLast? last)
    rw [same]
    exact sampleActs_speed_unchecked _ front rest welding present rfl before hr hq (stands.trans found.symm)
      (by rw [read.plan]; exact hg)
  · exact sampleActs_speed_checked _ front rest welding present hl hr hq (stands.trans found.symm) hn

end

/-! ## The settlement -/

section
variable {h : Head} {g : Segment} {i : SampleInput} {o : SampleOrder} {s : State}

/-- A sample that takes the regulator's work first, about that work. -/
theorem weld_sample (hp : s.present h = true) (hw : (s.headState h).welding = true)
    (hg : (s.head h).plan.inForce = some g) (ho : o.acts = [] ∨ o.acts.head? = some .regulator) :
    ∃ y, Regulates h g o.split (readSample h i o s) y ∧
      Held h false y (sampleWorked h i o s) ∧ Scene h y (sampleWorked h i o s) := by
  have read := readSample_read h i o s
  have welding : ((readSample h i o s).head h).seq.state.welding = true := (congrArg HeadState.welding read.headState).trans hw
  obtain ⟨later, e, hr⟩ := actOrder_regulator ho
  have first : placedAct h ((readSample h i o s).head h) o .regulator later (readSample h i o s) =
      regulatorSample h o.split (readSample h i o s) :=
    if_pos (c := (((readSample h i o s).head h).seq.state.welding && ((readSample h i o s).headState h).welding) = true)
      (by rw [State.headState, welding]; rfl)
  obtain ⟨held, scene⟩ := sampleActs_all (R := fun x z => Held h false x z ∧ Scene h x z) h
    ((readSample h i o s).head h) o later (s := regulatorSample h o.split (readSample h i o s))
    ⟨.refl .., .refl ..⟩ fun a ha l x w => ⟨w.1.trans (placedAct_held _ o l x welding (fun e => hr (e ▸ ha)) nofun),
      w.2.trans (placedAct_scene h _ o a l x (material_not_calibrating (HeadState.inMaterial_of_welding welding)))⟩
  refine ⟨_, regulatorSample_regulates ((read.present h).trans hp) welding (read.plan ▸ hg), ?_, ?_⟩ <;>
    rw [sampleWorked, e, sampleActs_cons, first]
  · exact held
  · exact scene

/-- The stages of such a sample, on what the head held and the sample has read. -/
theorem regulation_read (hw : (s.headState h).welding = true) : regulation h g (readSample h i o s) =
    regulate (s.head h).regulator g (s.headState h == .pause) ((sampleWorked h i o s).head h).front.temp.effective
      ((sampleWorked h i o s).head h).front.force.effective (s.head h).reg (s.head h).seq.depth := by
  have read := readSample_read h i o s
  have scene := sampleWorked_scene (h := h) (i := i) (o := o)
    (material_not_calibrating (HeadState.inMaterial_of_welding hw))
  rw [scene.front, regulation, HeadUnit.regulator, read.profiles, read.reg, read.seq]
  rfl

end

/-- Settles O43: the regulator's work is the first of the sample, its numbers are those of the stages, and the pieces of
work behind it leave them; the spindle command is the sequencer's. -/
theorem weldSampleRegulates : Obligations.WeldSampleRegulates := by
  intro h inp o g s hr hp hw hg ho
  refine ⟨_, exec_headSample h inp o s hr hp, ?_⟩
  intro r x u factor full target e prev n window entry
  obtain ⟨nearest, away⟩ := roundHalfAway_nearest n
  refine ⟨roundHalfAway n 256, nearest, away, ?_⟩
  intro limited saturated beyond run latch peak due found
  obtain ⟨y, w, held, scene⟩ := weld_sample (i := inp) hp hw hg ho
  obtain ⟨t, ht⟩ : ∃ t, t = sampleWorked h inp o s := ⟨_, rfl⟩
  have read := readSample_read h inp o s
  have front : u.front = (t.head h).front := ht ▸ presentOutputs_front h _
  have seq : u.seq = (t.head h).seq := ht ▸ presentOutputs_seq h _
  have reg : u.reg = (t.head h).reg := ht ▸ presentOutputs_reg h _
  have plan : u.plan = (t.head h).plan := ht ▸ presentOutputs_plan h _
  have log : u.log = (t.head h).log := ht ▸ presentOutputs_log h _
  have goal : (targetForce r (s.headState h == .pause) u.front.temp.effective g.force : Int) = target := by
    rw [targetForce_eq]
    simp only [beq_iff_eq]
    rfl
  have either : (decide (entry ≠ (s.head h).seq.depth) || decide (window (entry + limited) ≠ entry + limited)) =
      saturated := (Bool.decide_or ..).symm
  have stages : regulation h g (readSample h inp o s) = (
      { ePrev := e, firstSample := false
        target := targetForce r (s.headState h == .pause) u.front.temp.effective g.force
        saturated := saturated, slewLimited := decide (limited ≠ roundHalfAway n 256)
        saturationCount := if saturated then bump16 x.saturationCount else x.saturationCount
        excursionRun := run, excursionPeak := peak, excursionLatch := latch, forceRun := x.forceRun
        excursionsHeld := x.excursionsHeld }, window (entry + limited)) := by
    rw [regulation_read hw, ← ht, ← front, regulate]
    rw [goal, ← either]
    rfl
  have due_eq : excursionTaken h g (readSample h inp o s) = due := by
    rw [excursionTaken, stages, HeadUnit.regulator, read.profiles]
    rfl
  have station : (readSample h inp o s).toolStation h = (presentOutputs h (sampleWorked h inp o s)).toolStation h := by
    rw [presentOutputs_toolStation]
    exact (sampleWorked_scene (material_not_calibrating (HeadState.inMaterial_of_welding hw))).toolStation.symm
  have excursion : excursionFound h g (readSample h inp o s) = found := by
    rw [excursionFound, stages, read.headState, station]
    rfl
  have regs : u.reg = { (y.head h).reg with
      forceRun := u.reg.forceRun, saturationCount := u.reg.saturationCount } := by rw [reg, ht, held.reg]
  rw [w.reg, stages, due_eq, excursion] at regs
  refine ⟨?_, ?_, ?_, ?_, ?_, ?_, ?_, ?_, ?_, ?_, ?_, ?_, ?_, ?_, ?_⟩
  case refine_1 => rw [regs, ← goal]
  case refine_4 => rw [seq, ht, held.depth, w.seq, stages]
  case refine_7 => rw [log, ht, held.saturated, w.saturated, stages, read.counters]
  case refine_8 =>
    intro same
    have queue : (y.head h).plan.queue = (s.head h).plan.queue := by rw [w.plan, read.plan]
    rw [plan, ht, ← queue] at same
    rw [reg, ht, held.count same, w.reg, stages]
    rfl
  case refine_12 => rw [log, ht, held.excursions, w.excursions, due_eq, read.counters]
  case refine_14 =>
    intro room taken whole
    have common := room.common
    have grown := read.grown.common
    have record := w.record (due_eq.trans taken) whole (by omega)
    rw [stages, read.headState, station] at record
    obtain ⟨b, mem, body⟩ := record
    exact ⟨b, log ▸ ht ▸ scene.records.subset mem, body⟩
  case refine_15 =>
    intro m stands inForce which
    rw [presentOutputs_headState] at stands
    rw [seq, ht]
    exact weld_spindle hp hw hg ho stands (ht ▸ plan ▸ inForce) which
  all_goals rw [regs]

end Sys2Proof.Machine

namespace Sys2Proof.Machine

/-! ## CALIBRATE (R153) -/

/-- The part's checks and those of the statement fail together, in one order (R153). -/
theorem takeCalibrate_eq (h : Head) (s : State) : takeCalibrate h s =
    (firstFailure (calibrateChecks h s)).elim (answer 0x0D .ok [] (beginCalibration h s))
      fun st => answer 0x0D st [] s := by
  have idle : (s.headState h ≠ .calDue ∧ s.headState h ≠ .ready ∧ s.headState h ≠ .interrupted) ↔
      ¬(s.headState h == .calDue || s.headState h == .ready || s.headState h == .interrupted) = true := by
    simp [and_assoc]
  have lowered : (s.head h).clearanceHeight < (s.head h).seq.depth ↔
      ¬decide ((s.head h).seq.depth ≤ -((s.head h).tool.clearance : Int)) = true := by
    simp [HeadUnit.clearanceHeight]
  unfold takeCalibrate calibrateChecks
  simp only [firstFailure_elim_cons, firstFailure_elim_nil, idle, lowered, ite_not, Bool.not_eq_true',
    ite_eq_false_swap]

/-- The begin of a calibration, block by block (R83, R141, R154). -/
theorem beginCalibration_spec (h : Head) (s : State) :
    SameRest s (beginCalibration h s) ∧ (beginCalibration h s).port = s.port ∧
    (beginCalibration h s).gov = s.gov.left (s.headState h.other).engaged ∧
    (beginCalibration h s).head h.other = s.head h.other ∧
    (beginCalibration h s).head h = { s.head h with
      seq := { (s.head h).seq with
        state := .calibrating, raising := false, cal := ⟨some (s.headState h), 0, 0, 0, 0⟩ }
      reg := { (s.head h).reg with forceRun := 0 }
      front := { (s.head h).front with
        torque := { (s.head h).front.torque with grace := 0 }
        temp := { (s.head h).front.temp with grace := 0 } }
      travel := ⟨0, 0, 0⟩ } := by
  have idle : HeadState.calibrating.engaged = false := rfl
  have rest : HeadState.calibrating.welding = false := rfl
  unfold beginCalibration
  refine ⟨by simp [SameRest], by simp, ?_, ?_, ?_⟩
  · simp [setHeadState_gov_idle h _ idle, State.headState]
  · simp [setHeadState_other_of_not_hold h _ (HeadState.not_hold_of_idle idle)]
  · simp [setHeadState_self, HeadState.raises, HeadTravel.entering_rest _ rest]

/-- Settles O27: the checks, then the begin of the calibration. -/
theorem calibrateTaken : Obligations.CalibrateTaken := by
  intro h s hr hp
  have taken : exec (.calibrate (headCode h)) s = .next (takeCalibrate h s) := running_forHead 0x0D h takeCalibrate s hr hp
  rw [taken, takeCalibrate_eq]
  refine ⟨fun st hf => ?_, fun hf => ⟨beginCalibration h s, ?_, beginCalibration_spec h s⟩⟩
  · rw [hf]
    rfl
  · rw [hf]
    rfl

/-! ## The row EXCURSION (R77) -/

/-- An excursion recorded and counted, seen from everything but its head's log. -/
theorem recordExcursion_frame (h : Head) (x : Excursion) (s : State) :
    SameRest s (recordExcursion h x s) ∧ (recordExcursion h x s).port = s.port ∧
    (recordExcursion h x s).gov = s.gov ∧ (recordExcursion h x s).head h.other = s.head h.other := by
  simp [SameRest, recordExcursion]

/-- An excursion recorded and counted, at its head: the log as the statements have it, whatever else of the state has
changed. -/
theorem recordExcursion_self (h : Head) (x : Excursion) {s t : State} (hp : t.present h = s.present h)
    (hc : t.commonUsed = s.commonUsed) (hl : (t.head h).log = (s.head h).log) :
    (recordExcursion h x t).head h = { t.head h with
      log := logCounted h (.excursion x.segment x.state x.peak x.run x.negative x.tool)
        (fun c => { c with excursions := bump c.excursions }) s } := by
  rw [recordExcursion, countHead_self, countHead_logCounted h _ _ hp hc hl, createRecord_self]

/-- Settles O52: the oldest excursion leaves the held ones, and is recorded and counted. -/
theorem excursionReportedOnce : Obligations.ExcursionReportedOnce := by
  intro h s hr hp
  have taken : exec (.excursion h) s = .next (findExcursion h s) := running_negated (findExcursion h) s hr
  rw [taken]
  refine ⟨fun empty => by rw [findExcursion_none h s empty], fun x rest held => ⟨_, rfl, ?_⟩⟩
  rw [findExcursion_held h x rest s hp held]
  obtain ⟨same, port, gov, other⟩ := recordExcursion_frame h x (s.onReg h fun r => { r with excursionsHeld := rest })
  refine ⟨by simpa [SameRest] using same, by simpa using port, by simpa using gov, by simpa using other, ?_⟩
  rw [recordExcursion_self h x (s := s) (by simp) (by simp) (by simp)]
  simp

/-! ## The thermal factor and the target force (R64, R65) -/

/-- Up to the soft temperature the factor is 1000 (R64). -/
theorem thermalFactor_cool (r : RegulatorSet) {t : Int} (ht : t ≤ r.softTemp) : thermalFactor r t = 1000 := if_pos ht

/-- Above the soft temperature the factor falls by the slope, not below 700 (R64). -/
theorem thermalFactor_hot (r : RegulatorSet) {t : Int} (ht : (r.softTemp : Int) < t) :
    thermalFactor r t = max 700 (1000 - (r.thermalSlope : Int) * (t - r.softTemp)) := if_neg (not_le.mpr ht)

/-- The factor lies between its floor of 700 and 1000 (R64): the slope is no gain, so it lowers the factor only. -/
theorem thermalFactor_bounds (r : RegulatorSet) (t : Int) : 700 ≤ thermalFactor r t ∧ thermalFactor r t ≤ 1000 := by
  rcases le_or_gt t (r.softTemp : Int) with ht | ht
  · rw [thermalFactor_cool r ht]
    decide
  · have fall : 0 ≤ (r.thermalSlope : Int) * (t - r.softTemp) := mul_nonneg (Int.natCast_nonneg _) (by omega)
    rw [thermalFactor_hot r ht]
    omega

/-- A force scaled by a factor in per mille lies between its scaling by a lower bound of the factor and the force
itself. -/
theorem perMille_bounds (force : Nat) {low factor : Nat} (hl : low ≤ factor) (hu : factor ≤ 1000) :
    force * low / 1000 ≤ force * factor / 1000 ∧ force * factor / 1000 ≤ force :=
  ⟨Nat.div_le_div_right (Nat.mul_le_mul_left force hl),
    Nat.div_le_of_le_mul (Nat.mul_comm force factor ▸ Nat.mul_le_mul_right force hu)⟩

/-- The bounds of R65 in WELD. -/
theorem targetForce_weld_bounds (r : RegulatorSet) (t : Int) (force : Nat) :
    force * 700 / 1000 ≤ targetForce r false t force ∧ targetForce r false t force ≤ force := by
  obtain ⟨low, high⟩ := thermalFactor_bounds r t
  exact perMille_bounds force (by omega) (by omega)

/-- In PAUSE the target force is the one in WELD scaled by the pause factor (R65). -/
theorem targetForce_pause (r : RegulatorSet) (t : Int) (force : Nat) :
    targetForce r true t force = targetForce r false t force * r.pauseFactor / 1000 := rfl

/-- The bounds of R65 in PAUSE. -/
theorem targetForce_pause_bounds (r : RegulatorSet) (t : Int) (force : Nat) (hu : r.pauseFactor ≤ 1000)
    (hl : 500 ≤ r.pauseFactor) :
    force * 700 / 1000 * 500 / 1000 ≤ targetForce r true t force ∧ targetForce r true t force ≤ force := by
  obtain ⟨low, high⟩ := targetForce_weld_bounds r t force
  obtain ⟨scaled, below⟩ := perMille_bounds (targetForce r false t force) hl hu
  rw [targetForce_pause]
  exact ⟨(Nat.div_le_div_right (Nat.mul_le_mul_right 500 low)).trans scaled, below.trans high⟩

/-- Settles O59: the factor's bounds, then those of the target force in each state. -/
theorem targetForceWithinBounds : Obligations.TargetForceWithinBounds := by
  intro r t force hu hl
  obtain ⟨low, high⟩ := thermalFactor_bounds r t
  obtain ⟨weldLow, weldHigh⟩ := targetForce_weld_bounds r t force
  obtain ⟨pauseLow, pauseHigh⟩ := targetForce_pause_bounds r t force hu hl
  exact ⟨thermalFactor_cool r, thermalFactor_hot r, low, high, targetForce_eq r false t force,
    targetForce_eq r true t force, weldLow, weldHigh, pauseLow, pauseHigh⟩

end Sys2Proof.Machine

namespace Sys2Proof.Machine
open Relation

/-! ## What one command can do to the travel output and the permitted speeds

The laws of R85, R86 and R92 read the travel output, the heads' states and their permitted speeds. Between two updates of
the governor these change by the heads' changes of state and by resets alone, which `TravelMove` lists; `TravelRun` says
that a command is made of such moves. -/

/-- The state that a head in CALIBRATING is to return to (R155, R156). -/
def Sequencer.returning (q : Sequencer) : Option HeadState := if q.state = .calibrating then some q.origin else none

/-- What the laws of the travel output read of a head. -/
structure TravelView where
  state : HeadState
  returning : Option HeadState
  permitted : Nat

def State.travelView (s : State) (k : Head) : TravelView :=
  ⟨s.headState k, (s.head k).seq.returning, (s.head k).travel.permitted⟩

/-- Neither the heads' states and permitted speeds nor the governor change. -/
structure Steady (s t : State) : Prop where
  views : ∀ k, t.travelView k = s.travelView k
  gov : t.gov = s.gov

/-- A head leaves a state for another one within its sequence: into WELD or PAUSE from the material alone, and out of them
into a retract (R43 to R45, R104). -/
def HeadState.passes (st next : HeadState) : Bool :=
  (!next.welding || st.inMaterial) && (!st.welding || next.welding || next.demand == .hold)

/-- A head is about to change state. -/
structure Enters (h : Head) (st : HeadState) (s t : State) : Prop where
  /-- The state is one that the head's own leads to, with its permitted speed kept, or the one a calibration returns to. -/
  passes : (s.headState h).passes st = true ∧ (st.welding = true →
      (t.head h).travel.permitted = (s.head h).travel.permitted) ∨
    (s.head h).seq.returning = some st
  /-- A calibration comes from a state at rest (R153). -/
  origin : st = .calibrating → (t.head h).seq.origin.welding = false := by nofun
  state : t.headState h = s.headState h
  other : t.travelView h.other = s.travelView h.other
  gov : t.gov = s.gov

/-- One change of the heads and of the travel output. -/
inductive TravelMove : State → State → Prop
  | stands {s t : State} (u : Steady s t) : TravelMove s t
  | enters {s t : State} (h : Head) (st : HeadState) (e : Enters h st s t) : TravelMove s (setHeadState h st t)
  | pauses (s : State) (h : Head) : TravelMove s (pauseBegin h s)
  | powersOn (pins : Pins) (straps : Straps) (n : Nat) (pending : List Instr) (s : State) :
      TravelMove s (State.powerOn pins straps n pending)

/-- What a command does is made of such moves. -/
structure TravelRun (s t : State) : Prop where
  moves : ReflTransGen TravelMove s t

theorem TravelRun.refl (s : State) : TravelRun s s := ⟨.refl⟩

theorem TravelRun.of_move {s t : State} (m : TravelMove s t) : TravelRun s t := ⟨.single m⟩

theorem TravelRun.trans {s t u : State} (a : TravelRun s t) (b : TravelRun t u) : TravelRun s u :=
  ⟨a.moves.trans b.moves⟩

theorem Steady.refl (s : State) : Steady s s := ⟨fun _ => rfl, rfl⟩

theorem Steady.trans {s t u : State} (a : Steady s t) (b : Steady t u) : Steady s u :=
  ⟨fun k => (b.views k).trans (a.views k), b.gov.trans a.gov⟩

theorem Steady.headState {s t : State} (u : Steady s t) (k : Head) : t.headState k = s.headState k :=
  congrArg TravelView.state (u.views k)

/-- What leaves a head's state stands still, for the operations whose frame is known, by that frame. -/
theorem TravelRun.of_same {s t : State} (u : Steady s t := by constructor <;> simp [State.travelView, State.headState]) :
    TravelRun s t := .of_move (.stands u)

theorem TravelRun.then_same {s t u : State} (a : TravelRun s t)
    (b : Steady t u := by constructor <;> simp [State.travelView, State.headState]) : TravelRun s u := a.trans (.of_same b)

theorem TravelRun.after_same {s t u : State} (a : TravelRun t u)
    (b : Steady s t := by constructor <;> simp [State.travelView, State.headState]) : TravelRun s u :=
  (TravelRun.of_same b).trans a

theorem TravelRun.of_ite {c : Prop} [Decidable c] {s a b : State} (ha : c → TravelRun s a) (hb : ¬c → TravelRun s b) :
    TravelRun s (if c then a else b) := by
  split
  · next hc => exact ha hc
  · next hc => exact hb hc

theorem TravelRun.foldl {α : Type} (f : State → α → State) (hf : ∀ s a, TravelRun s (f s a)) (l : List α) (s : State) :
    TravelRun s (l.foldl f s) := by
  induction l generalizing s with
  | nil => exact .refl s
  | cons a rest ih => exact (hf s a).trans (ih (f s a))

/-- What changes no unit and not the governor is no move. -/
theorem TravelRun.of_rest {s t : State} (ha : t.unitA = s.unitA) (hb : t.unitB = s.unitB) (hg : t.gov = s.gov) :
    TravelRun s t :=
  .of_same ⟨fun k => by cases k <;> simp [State.travelView, State.headState, State.head, ha, hb], hg⟩

/-! ### What each move does to the output -/

/-- The output is owned exactly while a head is engaged, from any change of state on (R85). -/
theorem setHeadState_owned (h : Head) (st : HeadState) (s : State) :
    (setHeadState h st s).gov.owned = (setHeadState h st s).anyEngaged := by
  have other : ((setHeadState h st s).headState h.other).engaged = (s.headState h.other).engaged := by
    rcases setHeadState_view_other h st s with e | ⟨hw, e⟩
    · exact congrArg (fun v : HeadView => v.state.engaged) e
    · exact (congrArg (fun v : HeadView => v.state.engaged) e).trans (by rw [hw]; rfl)
  have taken : s.gov.taken.owned = true := by
    unfold Governor.taken
    split <;> trivial
  rw [anyEngaged_eq h, setHeadState_headState, other, setHeadState_gov_eq]
  split
  · next hy =>
    have engaged : st.engaged = true := by
      by_contra he
      exact HeadState.not_hold_of_idle (by simpa using he) hy.1
    simp [taken, engaged]
  · split
    · next he => simpa [taken] using he
    · next hn =>
      simp only [not_or, Bool.not_eq_true] at hn
      cases ho : s.gov.owned <;> simp [Governor.left, ho, hn]

/-- A change of state never raises the commanded speed. -/
theorem setHeadState_slows (h : Head) (st : HeadState) (s : State) :
    (setHeadState h st s).gov.speed ≤ s.gov.speed := by
  have taken : s.gov.taken.speed ≤ s.gov.speed := by
    unfold Governor.taken
    split <;> simp
  have left : (s.gov.left false).speed ≤ s.gov.speed := by
    cases ho : s.gov.owned <;> simp [Governor.left, ho]
  rw [setHeadState_gov_eq]
  split
  · exact Nat.zero_le _
  · split
    · exact taken
    · exact left

/-- A change to HOLD leaves the gantry at rest unless the head held it before (R86). -/
theorem setHeadState_rests (h : Head) {st : HeadState} {s : State} (hd : st.demand = .hold) (hs : s.demand h ≠ .hold) :
    (setHeadState h st s).gov.speed = 0 := by
  rw [setHeadState_gov_eq, if_pos ⟨hd, hs⟩]

theorem pauseBegin_headState (h k : Head) (s : State) : (pauseBegin h s).headState k =
    if k = h ∧ s.headState h = .weld then .pause else s.headState k := by
  have e := congrArg HeadView.state (pauseBegin_view h k s)
  rw [apply_ite HeadView.state] at e
  exact e

theorem pauseBegin_permitted (h k : Head) (s : State) :
    ((pauseBegin h s).head k).travel.permitted = (s.head k).travel.permitted := by
  unfold pauseBegin
  split
  · rcases head_cases h k with rfl | rfl <;> simp
  · rfl

/-- The other head at a change of state: as it was, or paused in its weld with its permitted speed kept (R86, R102). -/
theorem setHeadState_travelView_other (h : Head) (st : HeadState) (s : State) :
    (setHeadState h st s).travelView h.other = s.travelView h.other ∨ s.headState h.other = .weld ∧
      (setHeadState h st s).headState h.other = .pause ∧
      ((setHeadState h st s).head h.other).travel.permitted = (s.head h.other).travel.permitted := by
  by_cases hy : st.demand = .hold ∧ s.demand h ≠ .hold
  · by_cases hw : s.headState h.other = .weld
    · refine .inr ⟨hw, ?_, ?_⟩ <;> rw [setHeadState_hold h st s hy, takeHold]
      · rw [pauseBegin_headState, if_pos ⟨rfl, by simpa [State.headState] using hw⟩]
      · rw [pauseBegin_permitted]
        simp
    · refine .inl ?_
      rw [setHeadState_hold h st s hy, takeHold, pauseBegin, if_neg (by simpa [State.headState] using hw)]
      simp [State.travelView, State.headState]
  · refine .inl ?_
    simp [State.travelView, State.headState, setHeadState_other h st s hy]

/-- A head that leaves WELD and PAUSE retracts, and that stops the gantry (R86, R92). -/
theorem HeadState.passes_from_weld {st next : HeadState} (hp : st.passes next = true) (hs : st.welding = true)
    (hn : next.welding = false) : next.demand = .hold ∧ st.demand ≠ .hold := by
  revert hp hs hn
  cases st <;> cases next <;> decide

/-- A change of state leaves a head in WELD or PAUSE there, its permitted speed kept, or stops the gantry; one that
enters WELD or PAUSE comes out of a HOLD (R43, R86, R92). -/
structure SameWelds (s t : State) : Prop where
  welds : ∀ k, (t.headState k).welding = true →
    (s.headState k).welding = true ∧ (t.head k).travel.permitted = (s.head k).travel.permitted ∨
    s.anyHold = true ∨ (s.head k).seq.returning = some (t.headState k) ∨ t.gov.speed = 0
  leaves : ∀ k, (s.headState k).welding = true → (t.headState k).welding = true ∨ t.gov.speed = 0

theorem anyHold_iff (s : State) : s.anyHold = true ↔ ∃ k, s.demand k = .hold := by
  simp only [State.anyHold, Bool.or_eq_true, beq_iff_eq]
  constructor
  · rintro (e | e)
    exacts [⟨.a, e⟩, ⟨.b, e⟩]
  · rintro ⟨k, e⟩
    cases k
    exacts [.inl e, .inr e]

theorem HeadState.hold_of_inMaterial {st : HeadState} (hm : st.inMaterial = true) :
    st.welding = true ∨ st.demand = .hold := by
  revert hm
  cases st <;> decide

theorem HeadState.passes_to_weld {st next : HeadState} (hp : st.passes next = true) (hn : next.welding = true) :
    st.inMaterial = true := by
  simp only [HeadState.passes, hn, Bool.and_eq_true] at hp
  simpa using hp.1

theorem TravelMove.sameWelds {s t : State} (m : TravelMove s t) : SameWelds s t := by
  cases m with
  | stands u =>
    refine ⟨fun k hk => .inl ⟨u.headState k ▸ hk, congrArg TravelView.permitted (u.views k)⟩, fun k hk => .inl ?_⟩
    rwa [u.headState k]
  | enters h st e =>
    rename_i t
    have state (k : Head) : t.headState k = s.headState k := by
      rcases head_cases h k with rfl | rfl
      · exact e.state
      · exact congrArg TravelView.state e.other
    have permitted : (t.head h.other).travel.permitted = (s.head h.other).travel.permitted :=
      congrArg TravelView.permitted e.other
    have other := setHeadState_travelView_other h st t
    rw [state] at other
    refine ⟨fun k hk => ?_, fun k hk => ?_⟩ <;> rcases head_cases h k with rfl | rfl
    · rw [setHeadState_headState] at hk ⊢
      rcases e.passes with ⟨hp, hq⟩ | hr
      · rcases HeadState.hold_of_inMaterial (HeadState.passes_to_weld hp hk) with hw | hd
        · exact .inl ⟨hw, by simp [setHeadState_self, HeadTravel.entering, hk, hq hk]⟩
        · exact .inr (.inl ((anyHold_iff s).2 ⟨k, hd⟩))
      · exact .inr (.inr (.inl hr))
    · rcases other with o | ⟨hw, -, hq⟩
      · refine .inl ⟨?_, (congrArg TravelView.permitted o).trans permitted⟩
        rwa [show (setHeadState h st t).headState h.other = t.headState h.other from congrArg TravelView.state o,
          state] at hk
      · exact .inl ⟨by rw [hw]; rfl, hq.trans permitted⟩
    · rw [setHeadState_headState]
      by_cases hn : st.welding = true
      · exact .inl hn
      · rcases e.passes with ⟨hp, -⟩ | hr
        · obtain ⟨hold, before⟩ := HeadState.passes_from_weld hp hk (by simpa using hn)
          exact .inr (setHeadState_rests k hold (by rwa [State.demand, state]))
        · simp only [Sequencer.returning, State.headState] at hr hk
          split at hr
          · next hc => rw [hc] at hk; cases hk
          · cases hr
    · rcases other with o | ⟨-, hq, -⟩
      · rw [show (setHeadState h st t).headState h.other = t.headState h.other from congrArg TravelView.state o, state]
        exact .inl hk
      · rw [hq]; exact .inl rfl
  | pauses _ h =>
    have welding (k : Head) : ((pauseBegin h s).headState k).welding = (s.headState k).welding := by
      rw [pauseBegin_headState]
      split
      · next hp => rw [hp.1, hp.2]; rfl
      · rfl
    exact ⟨fun k hk => .inl ⟨(welding k).symm.trans hk, pauseBegin_permitted h k s⟩,
      fun k hk => .inl ((welding k).trans hk)⟩
  | powersOn => exact ⟨fun _ _ => .inr (.inr (.inr rfl)), fun _ _ => .inr rfl⟩

theorem TravelMove.slows {s t : State} (m : TravelMove s t) : t.gov.speed ≤ s.gov.speed := by
  cases m with
  | stands u => rw [u.gov]
  | enters h st e => exact (setHeadState_slows h st _).trans (by rw [e.gov])
  | pauses _ h => simp
  | powersOn => exact Nat.zero_le _

theorem TravelRun.slows {s t : State} (r : TravelRun s t) : t.gov.speed ≤ s.gov.speed := by
  obtain ⟨moves⟩ := r
  induction moves with
  | refl => exact le_refl _
  | tail _ m ih => exact m.slows.trans ih

theorem TravelRun.leaves {s t : State} (r : TravelRun s t) (k : Head) (hk : (s.headState k).welding = true) :
    (t.headState k).welding = true ∨ t.gov.speed = 0 := by
  obtain ⟨moves⟩ := r
  induction moves with
  | refl => exact .inl hk
  | tail _ m ih =>
    rcases ih with hw | hz
    · exact m.sameWelds.leaves k hw
    · exact .inr (Nat.le_zero.mp (hz ▸ m.slows))

/-- The output is owned exactly while a head is engaged (R85). -/
theorem TravelMove.owned {s t : State} (m : TravelMove s t) (hs : s.gov.owned = s.anyEngaged) :
    t.gov.owned = t.anyEngaged := by
  cases m with
  | stands u => rw [u.gov, hs, State.anyEngaged, State.anyEngaged, u.headState, u.headState]
  | enters h st => exact setHeadState_owned h st _
  | pauses _ h =>
    rw [pauseBegin_gov, hs, anyEngaged_eq h, anyEngaged_eq h, pauseBegin_headState, pauseBegin_headState]
    simp only [other_ne, false_and, if_false, true_and]
    split
    · next hw => rw [hw]; rfl
    · rfl
  | powersOn => rfl

theorem TravelRun.owned {s t : State} (r : TravelRun s t) (hs : s.gov.owned = s.anyEngaged) :
    t.gov.owned = t.anyEngaged := by
  obtain ⟨moves⟩ := r
  induction moves with
  | refl => exact hs
  | tail _ m ih => exact m.owned ih

/-- The gantry is at rest while it is released and under a HOLD (R85, R86). -/
structure Rested (s : State) : Prop where
  released : s.gov.owned = false → s.gov.speed = 0
  held : s.anyHold = true → s.gov.speed = 0

theorem TravelMove.rested {s t : State} (m : TravelMove s t) (hs : Rested s) : Rested t := by
  cases m with
  | stands u =>
    refine ⟨by rw [u.gov]; exact hs.released, ?_⟩
    rw [u.gov, State.anyHold, State.demand, State.demand, u.headState, u.headState]
    exact hs.held
  | enters h st e =>
    rename_i t
    have atRest (hz : s.gov.speed = 0) : (setHeadState h st t).gov.speed = 0 :=
      Nat.le_zero.mp (hz ▸ e.gov ▸ setHeadState_slows h st t)
    refine ⟨setHeadState_released h st t (by rw [e.gov]; exact hs.released), fun hh => ?_⟩
    obtain ⟨k, hk⟩ := (anyHold_iff _).1 hh
    rcases head_cases h k with rfl | rfl
    · rw [State.demand, setHeadState_headState] at hk
      by_cases hd : t.demand k = .hold
      · exact atRest (hs.held ((anyHold_iff s).2 ⟨k, by rwa [State.demand, e.state] at hd⟩))
      · exact setHeadState_rests k hk hd
    · rcases setHeadState_travelView_other h st t with o | ⟨-, hp, -⟩
      · refine atRest (hs.held ((anyHold_iff s).2 ⟨h.other, ?_⟩))
        rwa [State.demand, show (setHeadState h st t).headState h.other = s.headState h.other from
          congrArg TravelView.state (o.trans e.other)] at hk
      · rw [State.demand, hp] at hk
        cases hk
  | pauses _ h =>
    refine ⟨by simpa using hs.released, fun hh => ?_⟩
    rw [pauseBegin_gov]
    obtain ⟨k, hk⟩ := (anyHold_iff _).1 hh
    refine hs.held ((anyHold_iff s).2 ⟨k, ?_⟩)
    rw [State.demand, pauseBegin_headState] at hk
    split at hk
    · cases hk
    · exact hk
  | powersOn => exact ⟨fun _ => rfl, fun _ => rfl⟩

theorem TravelRun.rested {s t : State} (r : TravelRun s t) (hs : Rested s) : Rested t := by
  obtain ⟨moves⟩ := r
  induction moves with
  | refl => exact hs
  | tail _ m ih => exact m.rested ih

/-- No calibration returns to WELD or PAUSE (R153). -/
def ReturnsToRest (s : State) : Prop := ∀ k st, (s.head k).seq.returning = some st → st.welding = false

theorem returning_of_view (s : State) (k : Head) : (s.head k).seq.returning =
    if (s.view k).state = .calibrating then some ((s.view k).origin.getD .calDue) else none := rfl

theorem TravelMove.returnsToRest {s t : State} (m : TravelMove s t) (hs : ReturnsToRest s) : ReturnsToRest t := by
  have same {u v : State} {k : Head} (e : v.travelView k = u.travelView k) :
      (v.head k).seq.returning = (u.head k).seq.returning := congrArg TravelView.returning e
  have none_of {u : State} {k : Head} (hn : u.headState k ≠ .calibrating) : (u.head k).seq.returning = none := if_neg hn
  intro k x hx
  cases m with
  | stands u => exact hs k x (same (u.views k) ▸ hx)
  | enters h st e =>
    rename_i t
    rcases head_cases h k with rfl | rfl
    · by_cases hc : st = .calibrating
      · subst hc
        simp only [setHeadState_self, Sequencer.returning, if_true, Option.some.injEq] at hx
        exact hx ▸ e.origin rfl
      · rw [none_of (by rwa [setHeadState_headState])] at hx
        cases hx
    · rcases setHeadState_travelView_other h st t with o | ⟨-, hp, -⟩
      · exact hs _ x (same (o.trans e.other) ▸ hx)
      · rw [none_of (by simp [hp])] at hx
        cases hx
  | pauses _ h =>
    rw [returning_of_view, pauseBegin_view] at hx
    split at hx
    · cases hx
    · exact hs k x hx
  | powersOn => cases k <;> cases hx

/-! ### Changes of a head's state -/

theorem TravelRun.enters {s t : State} (h : Head) (st : HeadState) (u : Steady s t)
    (hp : (s.headState h).passes st = true) (hc : st ≠ .calibrating := by decide) :
    TravelRun s (setHeadState h st t) :=
  .of_move (.enters h st {
    passes := .inl ⟨hp, fun _ => congrArg TravelView.permitted (u.views h)⟩
    state := u.headState h
    other := u.views _
    gov := u.gov
    origin := fun e => absurd e hc })

theorem HeadState.passes_of_hold {st next : HeadState} (hn : next.demand = .hold) : st.passes next = true := by
  revert hn
  cases st <;> cases next <;> decide

/-- A change of sequencer items other than the state and the calibration's origin. -/
theorem onSeq_steady (h : Head) (f : Sequencer → Sequencer) {s t : State} (u : Steady s t)
    (hf : ∀ q, (f q).state = q.state ∧ (f q).cal.origin = q.cal.origin) : Steady s (t.onSeq h f) :=
  u.trans ⟨fun k => by
    rcases head_cases h k with rfl | rfl
    · simp [State.travelView, State.headState, Sequencer.returning, Sequencer.origin, hf]
    · simp [State.travelView, State.headState], by simp⟩

theorem interruptHead_travels (h : Head) (c : Cause) (s : State) : TravelRun s (interruptHead h c s) := by
  refine .of_ite (fun _ => ?_) fun _ => .refl s
  have entered : TravelRun s (setHeadState h .interrupting (s.onSeq h fun q =>
      { q with cause := some c, interruptStation := s.toolStation h, rampAcc := 499 })) :=
    .enters h _ (onSeq_steady h _ (.refl s) fun _ => ⟨rfl, rfl⟩) (HeadState.passes_of_hold rfl)
  exact entered.then_same

theorem endStart_travels (h : Head) {s t : State} (u : Steady s t) (hs : (s.headState h).starting = true) :
    TravelRun s (endStart h t) := by
  have stopped := onSeq_steady h (fun q => { q with spindle := 0 }) u fun _ => ⟨rfl, rfl⟩
  have ended (st : HeadState) (hn : st = .ready ∨ st = .interrupted) : (s.headState h).passes st = true := by
    revert hs
    rcases hn with rfl | rfl <;> cases s.headState h <;> decide
  unfold endStart
  dsimp only
  split
  · exact (TravelRun.enters h .ready stopped (ended _ (.inl rfl))).then_same
  · exact (TravelRun.enters h .interrupted stopped (ended _ (.inr rfl))).then_same (t := setHeadState h .interrupted _)
      (by constructor <;> simp [State.travelView, State.headState, enterInterrupted])

theorem failStart_travels (h : Head) (r : StartFailure) (s : State) (hs : (s.headState h).starting = true) :
    TravelRun s (failStart h r s) :=
  endStart_travels h (by constructor <;> simp [State.travelView, State.headState]) hs

theorem enterExit_travels (h : Head) (g : Segment) (s : State) : TravelRun s (enterExit h g s) := by
  unfold enterExit
  extract_lets s1 s2
  have counted : Steady s s2 := by constructor <;> simp [State.travelView, State.headState, s2, s1]
  have entered : TravelRun s (setHeadState h .exit (startRamp h s2)) :=
    .enters h _ (onSeq_steady h _ counted fun _ => ⟨rfl, rfl⟩) (HeadState.passes_of_hold rfl)
  exact entered.then_same

theorem followSpindle_steady (h : Head) (s : State) : Steady s (followSpindle h s) := by
  unfold followSpindle
  split
  · exact onSeq_steady h _ (.refl s) fun _ => ⟨rfl, rfl⟩
  · have followed := onSeq_steady h (fun q => { q with spindle := Config.freeSpindle s.free % 4001 }) (.refl s)
      fun _ => ⟨rfl, rfl⟩
    exact followed.trans (by constructor <;> simp [State.travelView, State.headState])

/-! ### Requests -/

theorem TravelRun.answers {s t : State} (r : TravelRun s t) (kind : Byte) (st : Status) (d : List Byte) :
    TravelRun s (answer kind st d t) := r.then_same

theorem answer_travels (kind : Byte) (st : Status) (d : List Byte) (s : State) : TravelRun s (answer kind st d s) :=
  .of_same

theorem forHead_travels (kind : Byte) (code : Nat) (take : Head → State → State)
    (ht : ∀ h s, TravelRun s (take h s)) (s : State) : TravelRun s (forHead kind code take s) := by
  unfold forHead
  split
  · exact .of_ite (fun _ => ht _ s) fun _ => .of_same
  · exact .of_same

/-- A check that answers a refusal leaves the run to what follows it. -/
theorem refuse_travels {c : Prop} [Decidable c] {kind : Byte} {st : Status} {d : List Byte} {s t : State}
    (ht : ¬c → TravelRun s t) : TravelRun s (if c then answer kind st d s else t) := .of_ite (fun _ => .of_same) ht

theorem HeadState.passes_at_rest {st next : HeadState} (hs : st.engaged = false) (hn : next.welding = false) :
    st.passes next = true := by
  revert hs hn
  cases st <;> cases next <;> decide

theorem HeadState.not_welding_of_idle {st : HeadState} (hs : st.engaged = false) : st.welding = false := by
  revert hs
  cases st <;> decide

theorem takeStartSeam_travels (h : Head) (s : State) : TravelRun s (takeStartSeam h s) := by
  unfold takeStartSeam
  refine refuse_travels fun hr => refuse_travels fun hd => refuse_travels fun _ => ?_
  split
  · exact answer_travels ..
  next g _ =>
  refine refuse_travels fun _ => refuse_travels fun _ => refuse_travels fun _ => refuse_travels fun _ => ?_
  have hs : s.headState h = .ready := by tauto
  have begins : TravelRun s (setHeadState h .approach (s.onSeq h fun q =>
      { q with kind := .fresh, target := (g.start : Nat), direction := .forward })) :=
    .enters h _ (onSeq_steady h _ (.refl s) fun _ => ⟨rfl, rfl⟩) (by rw [hs]; rfl)
  exact TravelRun.answers (begins.then_same
    (by constructor <;> simp [State.travelView, State.headState, beginSeam])) ..

theorem stopHead_travels (h : Head) (s : State) : TravelRun s (stopHead h s) :=
  .of_ite (fun hs => failStart_travels h _ s hs) fun _ => interruptHead_travels ..

theorem broadcastStop_travels (first : Head) (s : State) : TravelRun s (broadcastStop first s) :=
  .foldl _ (fun s h => stopHead_travels h s) _ s

theorem requestStopSeam_travels (target : StopTarget) (s : State) : TravelRun s (requestStopSeam target s) := by
  cases target with
  | head code =>
    exact forHead_travels _ _ _ (fun h s =>
      .of_ite (fun _ => (stopHead_travels h s).answers ..) fun _ => answer_travels ..) s
  | broadcast first => exact broadcastStop_travels first s

theorem beginReentry_travels (h : Head) (station : Int) (s : State) (hs : s.headState h = .interrupted) :
    TravelRun s (beginReentry h station s) := by
  unfold beginReentry
  extract_lets q direction s1 s2 s3 s4
  have turned : Steady s s1 := onSeq_steady h _ (.refl s) fun _ => ⟨rfl, rfl⟩
  have placed : Steady s s2 := turned.trans (by constructor <;> simp [State.travelView, State.headState, s2])
  have begins : TravelRun s s3 := .enters h .approach placed (by rw [hs]; rfl)
  exact begins.then_same (by constructor <;> simp [State.travelView, State.headState, s4])

theorem takeRestartSeam_travels (overlap : Nat) (h : Head) (s : State) : TravelRun s (takeRestartSeam overlap h s) := by
  unfold takeRestartSeam
  refine refuse_travels fun hs => refuse_travels fun _ => refuse_travels fun _ => refuse_travels fun _ =>
    refuse_travels fun _ => ?_
  exact (beginReentry_travels h _ s (by simpa using hs)).answers ..

/-- A seam is abandoned on a changed plan. -/
theorem abandon_travels (h : Head) (n : Nat) (f : PlanStore → PlanStore) (s : State) (hs : s.headState h = .interrupted) :
    TravelRun s (abandon h n (s.onPlan h f)) := by
  obtain ⟨idle, -, rests⟩ := readyOrCalDue_idle ((s.onPlan h f).head h).seq
  refine .enters h _ (by constructor <;> simp [State.travelView, State.headState])
    (HeadState.passes_at_rest (by rw [hs]; rfl) rests) ?_
  rcases readyOrCalDue_cases ((s.onPlan h f).head h).seq with e | e <;> rw [e] <;> decide

theorem takeClearPlan_travels (h : Head) (s : State) : TravelRun s (takeClearPlan h s) := by
  have cleared : TravelRun s (s.onPlan h PlanStore.cleared) := .of_same
  unfold takeClearPlan
  dsimp only
  cases hs : s.headState h
  case interrupted => exact (abandon_travels h _ _ s hs).answers ..
  case uncommissioned | commissioning | calDue | ready => exact cleared.answers ..
  all_goals exact answer_travels ..

theorem takeAbandonSeam_travels (h : Head) (s : State) : TravelRun s (takeAbandonSeam h s) :=
  .of_ite (fun hs => (abandon_travels h _ _ s hs).answers ..) fun _ => answer_travels ..

theorem takeResetHead_travels (h : Head) (s : State) : TravelRun s (takeResetHead h s) := by
  unfold takeResetHead
  refine refuse_travels fun he => TravelRun.answers (.of_move (.enters h _ ?_)) ..
  obtain ⟨idle, -, rests⟩ := stateAfterReset_idle (s.head h).seq
  exact {
    passes := .inl ⟨HeadState.passes_at_rest (by simpa using he) rests, fun hw => by rw [rests] at hw; cases hw⟩
    state := by rw [State.headState, onHead_self]; rfl
    other := by simp [State.travelView, State.headState]
    gov := onHead_gov ..
    origin := fun _ => by rw [onHead_self]; rfl }

theorem takeAppendSegment_travels (r : SegmentRecord) (h : Head) (s : State) :
    TravelRun s (takeAppendSegment r h s) := by
  have append (g : Segment) : TravelRun s (appendToPlan h g s) := .of_ite (fun _ => .of_same) fun _ => .of_same
  unfold takeAppendSegment
  refine refuse_travels fun _ => ?_
  split
  · exact answer_travels ..
  · exact refuse_travels fun _ => refuse_travels fun _ => refuse_travels fun _ => (append _).answers ..

theorem acceptProfile_travels (h : Head) (load : ProfileLoad) (s : State)
    (ha : admitsLoad (s.headState h) load = true) : TravelRun s (acceptProfile h load s) := by
  obtain ⟨idle, raises, rests⟩ := stateAfterLoad_idle ha (s.head h).profiles.progress
  have admitted : (s.headState h).engaged = false := by
    revert ha
    cases s.headState h <;> simp [admitsLoad, HeadState.engaged]
  unfold acceptProfile
  extract_lets st old new s1 s2 s3
  have stored : Steady s s1 := by constructor <;> simp [State.travelView, State.headState, s1]
  have planned : Steady s s2 := by
    unfold s2
    split
    · exact stored
    · exact stored.trans (by constructor <;> simp [State.travelView, State.headState])
  have budget : Steady s s3 := by
    unfold s3
    split
    · exact onSeq_steady h _ planned fun _ => ⟨rfl, rfl⟩
    · exact planned
  refine .enters h _ budget (HeadState.passes_at_rest admitted rests) fun e => ?_
  rw [show stateAfterLoad st old.progress load = .calibrating from e] at raises
  cases raises

theorem takeLoadProfile_travels (load : ProfileLoad) (h : Head) (s : State) : TravelRun s (takeLoadProfile load h s) := by
  unfold takeLoadProfile
  refine refuse_travels fun _ => refuse_travels fun ha => refuse_travels fun _ => refuse_travels fun _ => ?_
  exact (acceptProfile_travels h load s (by simpa using ha)).answers ..

theorem takeReadProfile_travels (code : Nat) (h : Head) (s : State) : TravelRun s (takeReadProfile code h s) := by
  unfold takeReadProfile
  dsimp only
  split <;> exact answer_travels ..

theorem requestSetChannel_travels (head channel setting enable : Nat) (value : Int) (s : State) :
    TravelRun s (requestSetChannel head channel setting enable value s) := by
  refine forHead_travels _ _ _ (fun h s => ?_) s
  unfold takeSetChannel
  split
  · split
    · exact answer_travels ..
    · exact refuse_travels fun _ => TravelRun.answers (.of_ite (fun _ => .of_same) fun _ => .of_same) ..
  · exact answer_travels ..

theorem requestReadCounters_travels (scope clear : Nat) (s : State) :
    TravelRun s (requestReadCounters scope clear s) := by
  have head (h : Head) (c : Bool) : TravelRun s (readHeadCounters h c s) :=
    .of_ite (fun _ => .of_same) fun _ => .of_same
  unfold requestReadCounters
  split
  · exact head ..
  · exact .of_ite (fun _ => head ..) fun _ => answer_travels ..
  · exact .of_ite (fun _ => .of_same) fun _ => .of_same
  · exact answer_travels ..

theorem takeReadStatus_travels (h : Head) (s : State) : TravelRun s (takeReadStatus h s) :=
  .of_ite (fun _ => .of_same) fun _ => .of_same

/-! ### Calibration -/

theorem takeCalibrate_travels (h : Head) (s : State) : TravelRun s (takeCalibrate h s) := by
  rw [takeCalibrate_eq]
  cases hf : firstFailure (calibrateChecks h s) with
  | some st => exact answer_travels ..
  | none =>
    rw [calibrateChecks, firstFailure_none_iff] at hf
    have idle : (s.headState h).engaged = false := by
      revert hf
      cases s.headState h <;> simp [HeadState.engaged]
    refine TravelRun.answers (.of_move (.enters h .calibrating ?_)) ..
    exact {
      passes := .inl ⟨HeadState.passes_at_rest idle rfl, nofun⟩
      state := by simp [State.headState]
      other := by simp [State.travelView, State.headState]
      gov := by simp
      origin := fun _ => by
        revert idle
        simp only [onFront_self, onReg_self, onSeq_self, Sequencer.origin, Option.getD_some]
        cases s.headState h <;> simp [HeadState.engaged, HeadState.welding] }

/-- A calibration ends in the state it came from, in READY or in INTERRUPTED (R155, R156). -/
theorem endCalibration_travels (h : Head) (st : HeadState) {s t : State} (u : Steady s t)
    (hs : s.headState h = .calibrating) (ht : st = (s.head h).seq.origin ∨ st.engaged = false) :
    TravelRun s (endCalibration h st t) := by
  exact .of_move (.enters h st {
    passes := ht.symm.imp
      (fun he => ⟨HeadState.passes_at_rest (by rw [hs]; rfl) (HeadState.not_welding_of_idle he), fun _ => by
        rw [onSeq_head_travel]
        exact congrArg TravelView.permitted (u.views h)⟩)
      fun e => by rw [Sequencer.returning, if_pos (show (s.head h).seq.state = .calibrating from hs), e]
    state := by
      rw [← u.headState h]
      simp [State.headState]
    other := by
      rw [← u.views]
      simp [State.travelView, State.headState]
    gov := by rw [onSeq_gov, u.gov]
    origin := fun _ => by rw [onSeq_self]; rfl })

theorem abortCalibration_travels (h : Head) (r : CalFailure) (s : State) (hs : s.headState h = .calibrating) :
    TravelRun s (abortCalibration h r s) :=
  endCalibration_travels h _ (by constructor <;> simp [State.travelView, State.headState]) hs (.inl rfl)

theorem judgeCalibration_travels (h : Head) (s : State) (hs : s.headState h = .calibrating) :
    TravelRun s (judgeCalibration h s) := by
  have failed (r : CalFailure) : TravelRun s (failCalibration h r s) :=
    endCalibration_travels h _ (by constructor <;> simp [State.travelView, State.headState]) hs (.inl rfl)
  refine .of_ite (fun _ => failed _) fun _ => .of_ite (fun _ => failed _) fun _ => ?_
  unfold succeedCalibration
  extract_lets c budget s1 s2 s3
  have offset : Steady s s1 := by constructor <;> simp [State.travelView, State.headState, s1]
  have granted : Steady s s2 := onSeq_steady h _ offset fun _ => ⟨rfl, rfl⟩
  have recorded : Steady s s3 := granted.trans (by constructor <;> simp [State.travelView, State.headState, s3])
  exact endCalibration_travels h _ recorded hs (.inr (by split <;> rfl))

theorem calibrationSample_travels (h : Head) (split : Bool) (s : State) (hs : s.headState h = .calibrating) :
    TravelRun s (calibrationSample h split s) := by
  have added : Steady s (s.onSeq h fun q => { q with cal := q.cal.add (s.head h).front.force.raw }) :=
    onSeq_steady h _ (.refl s) fun _ => ⟨rfl, rfl⟩
  exact .of_ite (fun _ => abortCalibration_travels h _ s hs) fun _ => .of_ite (fun _ =>
    .of_ite (fun _ => (judgeCalibration_travels h _ ((added.headState h).trans hs)).after_same added)
      fun _ => .of_same added) fun _ => .refl s

/-! ### Resets, the halt and the line -/

theorem deviceReset_travels (s : State) : TravelRun s (deviceReset s) := .of_move (.powersOn ..)

theorem requestResetDevice_travels (broadcast : Bool) (s : State) : TravelRun s (requestResetDevice broadcast s) :=
  .of_ite (fun _ => .of_ite (fun _ => .refl s) fun _ => deviceReset_travels s) fun _ => refuse_travels fun _ => .of_same

theorem resetTakesPlace_travels (s : State) : TravelRun s (resetTakesPlace s) :=
  .of_ite (fun _ => deviceReset_travels s) fun _ => .refl s

theorem haltHead_travels (h : Head) (src : HaltSource) (s : State) : TravelRun s (haltHead h src s) := by
  unfold haltHead reportHalt
  dsimp only
  cases hs : s.headState h
  case plunge | dwell | weld | pause => exact (interruptHead_travels h .halt s).then_same
  case approach | spinup => exact (endStart_travels h (.refl s) (by rw [hs]; rfl)).then_same
  case calibrating => exact (abortCalibration_travels h .halt s hs).then_same
  all_goals exact .refl s

theorem haltEvent_travels (src : HaltSource) (first : Head) (s : State) : TravelRun s (haltEvent src first s) :=
  .foldl _ (fun s h => haltHead_travels h src s) _ s

theorem assertHalt_travels (first : Head) (s : State) : TravelRun s (assertHalt first s) := by
  have driven : TravelRun s { s with pins := { s.pins with halt := true } } := .of_rest rfl rfl rfl
  exact .of_ite (fun _ => driven) fun _ => driven.trans (haltEvent_travels ..)

theorem takeRequest_travels (i : Instr) (s : State) : TravelRun s (takeRequest i s) := by
  cases i with
  | identify => exact answer_travels ..
  | readStatus => exact forHead_travels _ _ _ takeReadStatus_travels s
  | startSeam => exact forHead_travels _ _ _ takeStartSeam_travels s
  | stopSeam => exact requestStopSeam_travels ..
  | restartSeam => exact forHead_travels _ _ _ (takeRestartSeam_travels _) s
  | abandonSeam => exact forHead_travels _ _ _ takeAbandonSeam_travels s
  | resetHead => exact forHead_travels _ _ _ takeResetHead_travels s
  | appendSegment => exact forHead_travels _ _ _ (takeAppendSegment_travels _) s
  | clearPlan => exact forHead_travels _ _ _ takeClearPlan_travels s
  | readPlan => exact forHead_travels _ _ _ (fun h s => answer_travels ..) s
  | loadProfile => exact forHead_travels _ _ _ (takeLoadProfile_travels _) s
  | readProfile => exact forHead_travels _ _ _ (takeReadProfile_travels _) s
  | calibrate => exact forHead_travels _ _ _ takeCalibrate_travels s
  | setChannel => exact requestSetChannel_travels ..
  | readChannels => exact forHead_travels _ _ _ (fun h s => answer_travels 0x0F .ok (s.channelBytes h) s) s
  | setLog => exact .of_ite (fun _ => .of_rest rfl rfl rfl) fun _ => answer_travels ..
  | readRecords =>
    exact forHead_travels _ _ _ (fun h s => .of_same (by
      constructor <;> simp [State.travelView, State.headState, takeReadRecords])) s
  | readCounters => exact requestReadCounters_travels ..
  | resetDevice => exact requestResetDevice_travels ..
  | _ => exact .refl s

theorem judgeFrame_travels (f : FrameBuffer) (first : Head) (s : State) : TravelRun s (judgeFrame f first s) := by
  have counted : TravelRun s (countFrame s) :=
    .of_same (by constructor <;> simp [State.travelView, State.headState, countFrame])
  have broadcast : TravelRun s (takeBroadcast f first (countFrame s)) := counted.trans <|
    .of_ite (fun _ => broadcastStop_travels ..) fun _ => .of_ite (fun _ => requestResetDevice_travels ..) fun _ => .refl _
  have addressed : TravelRun s (takeAddressed f (countFrame s)) := by
    refine counted.trans (refuse_travels fun _ => refuse_travels fun _ => ?_)
    split
    · exact takeRequest_travels ..
    · exact answer_travels ..
  exact .of_ite (fun _ => .of_ite (fun _ => .of_same) fun _ => .of_same) fun _ =>
    .of_ite (fun _ => broadcast) fun _ => addressed

theorem completeFrame_travels (d : Byte) (first : Head) (s : State) : TravelRun s (completeFrame d first s) :=
  (judgeFrame_travels _ first _).after_same

theorem discardReply_travels (s : State) : TravelRun s (discardReply s).2 := by
  unfold discardReply
  split
  · exact deviceReset_travels s
  · exact .of_same

theorem takeAddressCharacter_travels (d : Byte) (s : State) : TravelRun s (takeAddressCharacter d s) := by
  unfold takeAddressCharacter
  dsimp only
  split
  · exact .refl s
  split
  · exact discardReply_travels s
  · have truncated : TravelRun s
        (if s.port.rx = .receiving then countTruncated (discardReply s).2 else (discardReply s).2) :=
      (discardReply_travels s).trans (.of_ite (fun _ => .of_same
        (by constructor <;> simp [State.travelView, State.headState, countTruncated])) fun _ => .refl _)
    exact .of_ite (fun _ => truncated.then_same) fun _ => truncated.then_same

theorem takeDataCharacter_travels (d : Byte) (first : Head) (s : State) : TravelRun s (takeDataCharacter d first s) :=
  .of_ite (fun _ => .refl s) fun _ => .of_ite
    (fun _ => .of_ite (fun _ => completeFrame_travels ..) fun _ => .of_same) fun _ => .of_same

theorem takeBreak_travels (first : Head) (s : State) : TravelRun s (takeBreak first s) := by
  unfold takeBreak
  dsimp only
  split
  · exact discardReply_travels s
  · exact (discardReply_travels s).trans (TravelRun.after_same (haltEvent_travels ..))

theorem lineHeldLow_travels (first : Head) (s : State) : TravelRun s (lineHeldLow first s) := by
  have held : TravelRun s { s with pins := { s.pins with lineLow := true } } := .of_rest rfl rfl rfl
  exact .of_ite (fun _ => held) fun _ => .of_ite (fun _ => .refl s) fun _ =>
    .of_ite (fun _ => held.trans (takeBreak_travels ..)) fun _ => held

theorem lineReturns_travels (s : State) : TravelRun s (lineReturns s) :=
  .of_ite (fun _ => .of_rest rfl rfl rfl) fun _ => .of_rest rfl rfl rfl

/-! ### The station check -/

theorem checkAllowance_travels (h : Head) (s : State) : TravelRun s (checkAllowance h s) := by
  unfold checkAllowance
  split
  · exact .of_ite (fun _ => interruptHead_travels ..) fun _ => .refl s
  · exact .refl s

theorem starve_travels (h : Head) (g : Segment) (s : State) : TravelRun s (starve h g s) :=
  .of_same (by constructor <;> simp [State.travelView, State.headState, starve])

theorem completeSegments_travels (n : Nat) (h : Head) (s : State) : TravelRun s (completeSegments n h s) := by
  induction n generalizing s with
  | zero => exact .refl s
  | succ n ih =>
    unfold completeSegments
    split
    · exact .refl s
    next g rest _ =>
    have completed : TravelRun s (completeSegment h g rest s) :=
      .of_same (by constructor <;> simp [State.travelView, State.headState, completeSegment])
    refine .of_ite (fun _ => .refl s) fun _ => completed.trans ?_
    split
    · exact enterExit_travels ..
    · exact .of_ite (fun _ => .of_ite (fun _ => .refl _) fun _ =>
        (starve_travels h g _).trans (checkAllowance_travels ..)) fun _ => ih _

theorem reentryCheck_travels (h : Head) (s : State) : TravelRun s (reentryCheck h s) := by
  unfold reentryCheck
  split
  · split
    · exact starve_travels h _ s
    · exact .refl s
  · exact completeSegments_travels ..

theorem planWork_travels (h : Head) (found : HeadState) (s : State) : TravelRun s (planWork h found s) := by
  have check : TravelRun s (if found = .weld ∧ s.headState h = .weld then stationCheck h s else s) :=
    .of_ite (fun _ => completeSegments_travels ..) fun _ => .refl s
  have measured (t : State) : TravelRun t (measureStarvation h t) := TravelRun.after_same (checkAllowance_travels h _)
  exact .of_ite (fun _ => check.trans (measured _)) fun _ => check

/-! ### The sequencer's own work -/

theorem raiseTool_steady (h : Head) (s : State) : Steady s (raiseTool h s) := by
  unfold raiseTool
  split
  · exact .refl s
  · refine onSeq_steady h _ (.refl s) fun q => ?_
    dsimp only
    split <;> (try split) <;> exact ⟨rfl, rfl⟩

theorem plungeStep_steady (h : Head) (s : State) : Steady s (plungeStep h s) := by
  unfold plungeStep
  refine onSeq_steady h _ (.refl s) fun q => ?_
  dsimp only
  split <;> exact ⟨rfl, rfl⟩

theorem retractStep_steady (h : Head) (s : State) : Steady s (retractStep h s) := by
  unfold retractStep
  exact onSeq_steady h _ (.refl s) fun _ => ⟨rfl, rfl⟩

theorem enterSpinup_travels (h : Head) (s : State) : TravelRun s (enterSpinup h s) := by
  have timed := onSeq_steady h (fun q => { q with
    plungeStation := s.toolStation h, spinupTimer := (s.head h).travelSet.spinupTimeout * 100 }) (.refl s)
    fun _ => ⟨rfl, rfl⟩
  exact .enters h _ (timed.trans (followSpindle_steady h _)) (HeadState.passes_of_hold rfl)

theorem enterDwell_travels (h : Head) (s : State) : TravelRun s (enterDwell h s) := by
  unfold enterDwell
  extract_lets u time s1
  have recorded : Steady s s1 := by constructor <;> simp [State.travelView, State.headState, s1]
  exact .enters h _ (onSeq_steady h _ recorded fun _ => ⟨rfl, rfl⟩) (HeadState.passes_of_hold rfl)

theorem enterWeld_travels (h : Head) (s : State) (hs : s.headState h = .dwell) : TravelRun s (enterWeld h s) := by
  have noted := onSeq_steady h (fun q => { q with weldEntry := s.toolStation h }) (.refl s) fun _ => ⟨rfl, rfl⟩
  have entered : TravelRun s (weldEntered h s) :=
    .enters h _ (noted.trans (by constructor <;> simp [State.travelView, State.headState, restartAccumulator]))
      (by rw [hs]; rfl)
  rw [enterWeld_eq]
  exact .of_ite (fun _ => entered.trans (reentryCheck_travels ..)) fun _ => entered

/-- A complete retract, from EXIT or from INTERRUPTING (R44, R47). -/
theorem retracted_travels (h : Head) (st : HeadState) (s : State)
    (hs : s.headState h = .exit ∨ s.headState h = .interrupting) (ht : st = .calDue ∨ st = .ready ∨ st = .interrupted) :
    TravelRun s (setHeadState h st (s.onSeq h fun q => { q with spindle := 0 })) := by
  refine .enters h st (onSeq_steady h _ (.refl s) fun _ => ⟨rfl, rfl⟩) ?_ ?_
  · rcases hs with e | e <;> rcases ht with rfl | rfl | rfl <;> rw [e] <;> rfl
  · rcases ht with rfl | rfl | rfl <;> decide

theorem findAtSpeed_travels (h : Head) (s : State) : TravelRun s (findAtSpeed h s) :=
  .of_ite (fun _ => .enters h .plunge (onSeq_steady h _ (.refl s) fun _ => ⟨rfl, rfl⟩) (HeadState.passes_of_hold rfl))
    fun _ => .refl s

theorem findSpinupTimeout_travels (h : Head) (s : State) : TravelRun s (findSpinupTimeout h s) :=
  .of_ite (fun c => failStart_travels h _ s (by simp at c; rw [c.1.1.2]; rfl)) fun _ => .refl s

theorem findPlungeDone_travels (h : Head) (s : State) : TravelRun s (findPlungeDone h s) :=
  .of_ite (fun _ => enterDwell_travels ..) fun _ => .refl s

theorem findPlungeTimeout_travels (h : Head) (s : State) : TravelRun s (findPlungeTimeout h s) :=
  .of_ite (fun _ => interruptHead_travels ..) fun _ => .refl s

theorem findDwellElapsed_travels (h : Head) (s : State) : TravelRun s (findDwellElapsed h s) :=
  .of_ite (fun c => enterWeld_travels h s (by simp at c; exact c.1.2)) fun _ => .refl s

theorem findExitRetract_travels (h : Head) (s : State) : TravelRun s (findExitRetract h s) :=
  .of_ite (fun c => retracted_travels h _ s (.inl (by simp at c; exact c.1.2))
    ((readyOrCalDue_cases _).imp_right .inl)) fun _ => .refl s

theorem findInterruptingRetract_travels (h : Head) (s : State) : TravelRun s (findInterruptingRetract h s) :=
  .of_ite (fun c => (retracted_travels h .interrupted s (.inr (by simp at c; exact c.1.2)) (.inr (.inr rfl))).then_same
    (by constructor <;> simp [State.travelView, State.headState, finishInterrupting, enterInterrupted])) fun _ => .refl s

theorem findCalibrationJudged_travels (h : Head) (s : State) : TravelRun s (findCalibrationJudged h s) :=
  .of_ite (fun c => judgeCalibration_travels h s (by simp at c; exact c.1.2)) fun _ => .refl s

theorem sequenceWork_travels (h : Head) (split : Bool) (s : State) : TravelRun s (sequenceWork h split s) := by
  have take (find : Head → State → State) (hf : ∀ x, TravelRun x (find h x)) {x : State} (u : Steady s x) :
      TravelRun s (if split then x else find h x) := .of_ite (fun _ => .of_same u) fun _ => (hf x).after_same u
  unfold sequenceWork
  dsimp only
  cases hs : s.headState h <;> dsimp only
  case uncommissioned | commissioning | calDue | ready | interrupted => exact .of_same (raiseTool_steady h s)
  case calibrating => exact calibrationSample_travels h split s hs
  case approach => exact .refl s
  case spinup =>
    have timed := onSeq_steady h (fun q => { q with spinupTimer := q.spinupTimer - 2 }) (.refl s) fun _ => ⟨rfl, rfl⟩
    exact .of_ite (fun _ => take _ (findAtSpeed_travels h) timed) fun _ => take _ (findSpinupTimeout_travels h) timed
  case plunge =>
    have plunged := (followSpindle_steady h s).trans (plungeStep_steady h _)
    exact .of_ite (fun _ => take _ (findPlungeDone_travels h) plunged)
      fun _ => take _ (findPlungeTimeout_travels h) plunged
  case dwell =>
    exact take _ (findDwellElapsed_travels h) (onSeq_steady h (fun q => { q with dwellTimer := q.dwellTimer - 2 })
      (followSpindle_steady h s) fun _ => ⟨rfl, rfl⟩)
  case weld | pause => exact .of_same (followSpindle_steady h s)
  case exit => exact take _ (findExitRetract_travels h) (retractStep_steady h s)
  case interrupting => exact take _ (findInterruptingRetract_travels h) (retractStep_steady h s)

/-! ### The head sample -/

/-- A change of one head's items other than its state, its calibration and its permitted speed. -/
theorem steady_of_self (h : Head) {s t : State} (hv : t.travelView h = s.travelView h)
    (ho : t.head h.other = s.head h.other) (hg : t.gov = s.gov) : Steady s t where
  views k := by
    rcases head_cases h k with rfl | rfl
    · exact hv
    · simp [State.travelView, State.headState, ho]
  gov := hg

theorem WorkStep.travels {h : Head} {r : Bool} {s t : State} (x : WorkStep h r s t) : TravelRun s t := by
  cases x with
  | notes n =>
    refine .of_same (steady_of_self h ?_ n.other n.gov)
    rw [State.travelView, State.headState, n.self]
    rfl
  | steers => exact .of_same
  | regulates => exact .of_same
  | sequences f hw hf =>
    have stays : (f (s.head h).seq).state = (s.head h).seq.state := (hf _).1
    have idle : (s.head h).seq.state ≠ .calibrating := by
      intro e
      rw [State.headState, e] at hw
      cases hw
    exact .of_same (steady_of_self h (by simp [State.travelView, State.headState, Sequencer.returning, stays, idle])
      (by simp) (by simp))
  | interrupts c => exact interruptHead_travels ..

theorem Work.travels {h : Head} {r : Bool} {s t : State} (w : Work h r s t) : TravelRun s t := by
  obtain ⟨steps⟩ := w
  induction steps with
  | refl => exact .refl s
  | tail _ x ih => exact ih.trans x.travels

theorem Standing.steady {h : Head} {found : HeadState} {s t : State} (w : Standing h found s t) : Steady s t :=
  steady_of_self h (by rw [State.travelView, w.headState, w.seq, w.travel]; rfl) w.other w.gov

theorem Minor.travels {h : Head} {found : HeadState} {s t : State} (m : Minor h found s t) : TravelRun s t := by
  cases m with
  | stands w => exact .of_same w.steady
  | interrupts c w => exact (interruptHead_travels ..).after_same w.steady
  | fails r _ hs => exact failStart_travels h r s hs

theorem placedAct_travels (h : Head) (read : HeadUnit) (o : SampleOrder) (a : SampleAct) (rest : List SampleAct)
    (s : State) : TravelRun s (placedAct h read o a rest s) := by
  cases hw : read.seq.state.welding with
  | true =>
    by_cases ha : a = .station
    · subst ha
      exact planWork_travels ..
    · exact (placedAct_work h read o rest s (plainAct_welding hw ha)).travels
  | false =>
    by_cases ha : a = .sequence
    · subst ha
      rw [placedAct_block h read o rest s (by decide)]
      exact .of_ite (fun _ => sequenceWork_travels ..) fun _ => .refl s
    · exact (placedAct_minor h read o rest s hw ha).travels

theorem sampleHead_travels (h : Head) (i : SampleInput) (o : SampleOrder) (s : State) :
    TravelRun s (sampleHead h i o s) := by
  have read := readSample_read h i o s
  have taken : Steady s (readSample h i o s) := by
    refine steady_of_self h ?_ read.other read.gov
    rw [State.travelView, read.headState, read.seq, read.travel]
    rfl
  have worked := (sampleActs_all (R := TravelRun) h ((readSample h i o s).head h) o (actOrder o)
    (TravelRun.refl (readSample h i o s)) fun a _ later x r => r.trans (placedAct_travels h _ o a later x))
  exact .of_ite (fun _ => (worked.after_same taken).then_same (steady_of_self h
    (by simp [State.travelView, presentOutputs_seq, presentOutputs_travel])
    (by simp [presentOutputs]) (by simp))) fun _ => .refl s

/-! ### Track reports, and the conditions of a governor update -/

theorem acceptReport_travels (l : List Byte) (s : State) : TravelRun s (acceptReport l s) := by
  have counted (h : Head) (f : HeadCounters → HeadCounters) : TravelRun s (countHead h f s) := .of_same
  have bad : TravelRun s (countBadReport s) :=
    .of_same (by constructor <;> simp [State.travelView, State.headState, countBadReport])
  have entered (h : Head) (e : TrackEntry) : TravelRun s (acceptEntry h e s) :=
    .of_ite (fun _ => .refl s) fun _ => .of_ite (fun _ => counted ..) fun _ => .of_ite (fun _ => counted ..) fun _ =>
      .of_ite (fun _ => counted ..) fun _ => .of_ite (fun _ => .refl s) fun _ => .of_ite (fun _ => counted ..) fun _ =>
        .of_same
  unfold acceptReport
  split
  · exact .of_ite (fun _ => entered ..) fun _ => bad
  · exact bad

theorem takeTrackerCharacter_travels (d : Byte) (s : State) : TravelRun s (takeTrackerCharacter d s) := by
  have received (r : TrackReceiver) : TravelRun s { s with tracker := r } := .of_rest rfl rfl rfl
  unfold takeTrackerCharacter
  split
  · exact .of_ite (fun _ => received _) fun _ => .refl s
  · exact .of_ite (fun _ => received _) fun _ => (received _).trans (acceptReport_travels ..)

theorem takeReportArrival_travels (rest : List Byte) (s : State) : TravelRun s (takeReportArrival rest s) :=
  have waits : TravelRun s { s with tracker := .hunt } := .of_rest rfl rfl rfl
  .of_ite (fun _ => waits.trans (acceptReport_travels ..)) fun _ => .refl s

theorem abandonReport_travels (s : State) : TravelRun s (abandonReport s) := by
  unfold abandonReport
  split
  · exact .refl s
  · exact .of_rest rfl rfl rfl

theorem pauseWork_travels (h : Head) (found : HeadState) (hold split : Bool) (s : State) :
    TravelRun s (pauseWork h found hold split s) := by
  have ran : Steady s (runPause h s) := by
    refine steady_of_self h ?_ (by simp [runPause]) (by simp [runPause])
    simp [State.travelView, State.headState, runPause]
  have ended (hs : s.headState h = .pause) : TravelRun s (endPause h s) :=
    .enters h .weld (by constructor <;> simp [State.travelView, State.headState]) (by rw [hs]; rfl)
  exact .of_ite (fun c => .of_ite (fun _ => .of_ite (fun _ => .of_same ran) fun _ =>
    (interruptHead_travels ..).after_same ran) fun _ => ended c.2) fun _ =>
    .of_ite (fun _ => .of_move (.pauses s h)) fun _ => .refl s

theorem updateAct_travels (u : State) (stops : Bool) (o : UpdateOrder) (s : State) (a : UpdateAct) :
    TravelRun s (updateAct u stops o s a) := by
  cases a with
  | pause h => exact pauseWork_travels ..
  | bedEnd h => exact .of_ite (fun _ => interruptHead_travels ..) fun _ => .refl s
  | arrival h => exact .of_ite (fun _ => enterSpinup_travels h s) fun _ => .refl s

/-! ### Every command but an update and the RESET input -/

theorem running_travels {f : State → State} (hf : ∀ s, TravelRun s (f s)) {s t : State} (e : running f s = .next t) :
    TravelRun s t := by
  unfold running at e
  split at e
  · cases e; exact .refl s
  · cases e; exact hf s

theorem findExcursion_travels (h : Head) (s : State) : TravelRun s (findExcursion h s) := by
  unfold findExcursion
  split
  · exact .of_ite (fun _ => .of_same (by
      constructor <;> simp [State.travelView, State.headState, recordExcursion])) fun _ => .refl s
  · exact .refl s

theorem takeFramingError_travels (s : State) : TravelRun s (takeFramingError s) :=
  .of_ite (fun _ => .refl s) fun _ => .of_ite (fun _ => .of_rest rfl rfl rfl) fun _ => .of_rest rfl rfl rfl

theorem takeFrameSilence_travels (s : State) : TravelRun s (takeFrameSilence s) :=
  .of_ite (fun _ => .of_rest rfl rfl rfl) fun _ => .refl s

theorem startReply_travels (s : State) : TravelRun s (startReply s) :=
  .of_ite (fun _ => .of_rest rfl rfl rfl) fun _ => .refl s

theorem endReply_travels (s : State) : TravelRun s (endReply s) :=
  .of_ite (fun _ => TravelRun.after_same (resetTakesPlace_travels _)) fun _ => .refl s

/-- Every command is a run of such moves, but the assertion of the RESET input, which releases the output under a head that
may be engaged (R190), and the update of the governor, which alone drives the gantry. -/
theorem exec_travels (c : Instr) (hr : c ≠ .resetInputAsserted) (hg : ∀ i o, c ≠ .governorUpdate i o) {s t : State}
    (e : exec c s = .next t) : TravelRun s t := by
  cases c with
  | identify => exact running_travels (takeRequest_travels .identify) e
  | readStatus head => exact running_travels (takeRequest_travels (.readStatus head)) e
  | startSeam head => exact running_travels (takeRequest_travels (.startSeam head)) e
  | stopSeam target => exact running_travels (takeRequest_travels (.stopSeam target)) e
  | restartSeam head overlap => exact running_travels (takeRequest_travels (.restartSeam head overlap)) e
  | abandonSeam head => exact running_travels (takeRequest_travels (.abandonSeam head)) e
  | resetHead head => exact running_travels (takeRequest_travels (.resetHead head)) e
  | appendSegment head g => exact running_travels (takeRequest_travels (.appendSegment head g)) e
  | clearPlan head => exact running_travels (takeRequest_travels (.clearPlan head)) e
  | readPlan head => exact running_travels (takeRequest_travels (.readPlan head)) e
  | loadProfile head load => exact running_travels (takeRequest_travels (.loadProfile head load)) e
  | readProfile head code => exact running_travels (takeRequest_travels (.readProfile head code)) e
  | calibrate head => exact running_travels (takeRequest_travels (.calibrate head)) e
  | setChannel head c t on v => exact running_travels (takeRequest_travels (.setChannel head c t on v)) e
  | readChannels head => exact running_travels (takeRequest_travels (.readChannels head)) e
  | setLog pitch ta tb => exact running_travels (takeRequest_travels (.setLog pitch ta tb)) e
  | readRecords head n => exact running_travels (takeRequest_travels (.readRecords head n)) e
  | readCounters scope clear => exact running_travels (takeRequest_travels (.readCounters scope clear)) e
  | resetDevice broadcast => exact running_travels (takeRequest_travels (.resetDevice broadcast)) e
  | resetTakesPlace => exact running_travels resetTakesPlace_travels e
  | resetInputAsserted => exact absurd rfl hr
  | resetInputNegated straps => cases e; exact .of_move (.powersOn ..)
  | haltInputAsserted first => cases e; exact assertHalt_travels first s
  | haltInputNegated => cases e; exact .of_rest rfl rfl rfl
  | lineBreak first => cases e; exact lineHeldLow_travels first s
  | breakDetectorRearm => cases e; exact lineReturns_travels s
  | addressCharacter d => exact running_travels (takeAddressCharacter_travels d) e
  | dataCharacter d first => exact running_travels (takeDataCharacter_travels d first) e
  | controlFramingError => exact running_travels takeFramingError_travels e
  | frameSilenceTimeout => exact running_travels takeFrameSilence_travels e
  | frameComplete d first =>
    exact running_travels (fun s => .of_ite (fun _ => completeFrame_travels d first s) fun _ => .refl s) e
  | replyStart => exact running_travels startReply_travels e
  | replyEnd => exact running_travels endReply_travels e
  | trackReportArrival rest => exact running_travels (takeReportArrival_travels rest) e
  | trackFramingError => exact running_travels abandonReport_travels e
  | trackSilenceTimeout => exact running_travels abandonReport_travels e
  | headSample h i o => exact running_travels (sampleHead_travels h i o) e
  | atSpeed h => exact running_travels (findAtSpeed_travels h) e
  | spinupTimeout h => exact running_travels (findSpinupTimeout_travels h) e
  | plungeDone h => exact running_travels (findPlungeDone_travels h) e
  | plungeTimeout h => exact running_travels (findPlungeTimeout_travels h) e
  | dwellElapsed h => exact running_travels (findDwellElapsed_travels h) e
  | exitRetractComplete h => exact running_travels (findExitRetract_travels h) e
  | interruptingRetractComplete h => exact running_travels (findInterruptingRetract_travels h) e
  | forceLimit h => exact running_travels (fun s => .of_ite (fun _ => interruptHead_travels ..) fun _ => .refl s) e
  | excursion h => exact running_travels (findExcursion_travels h) e
  | graceExhausted h => exact running_travels (fun s => .of_ite (fun _ => interruptHead_travels ..) fun _ => .refl s) e
  | calibrationJudged h => exact running_travels (findCalibrationJudged_travels h) e
  | governorUpdate i o => exact absurd rfl (hg i o)
  | arrival h => exact running_travels (fun s => .of_ite (fun _ => enterSpinup_travels h s) fun _ => .refl s) e
  | pauseLimit h => exact running_travels (fun s => .of_ite (fun _ => interruptHead_travels ..) fun _ => .refl s) e
  | trackerCharacter d => exact running_travels (takeTrackerCharacter_travels d) e

/-! ### The update of the governor -/

/-- An update of the governor: what it reads, and, while the output is owned, the conditions it raises with the command
moved (R87). -/
theorem updateGovernor_cases (i : UpdateInput) (o : UpdateOrder) (s : State) :
    s.gov.owned = false ∧ updateGovernor i o s = readUpdate i o s ∨
    s.gov.owned = true ∧ (readUpdate i o s).gov.owned = true ∧
      ∃ stops, updateGovernor i o s = conditions o stops (readUpdate i o s) := by
  have owned : (readUpdate i o s).gov.owned = s.gov.owned := by rw [readUpdate_gov]
  cases ho : s.gov.owned with
  | false => exact .inl ⟨rfl, if_neg (by simp [owned, ho])⟩
  | true => exact .inr ⟨rfl, owned.trans ho, _, updateGovernor_owned i o ho⟩

theorem conditions_travels (o : UpdateOrder) (stops : Bool) (u : State) :
    TravelRun (u.onGov fun _ => u.moveGovernor) (conditions o stops u) := .foldl _ (updateAct_travels u stops o) _ _

theorem UpdateRead.anyEngaged {s t : State} (r : UpdateRead s t) : t.anyEngaged = s.anyEngaged := by
  simp [State.anyEngaged, r.headState]

theorem readUpdate_rested (i : UpdateInput) (o : UpdateOrder) {s : State} (hs : Rested s) : Rested (readUpdate i o s) := by
  refine ⟨?_, ?_⟩
  · rw [readUpdate_gov]
    exact hs.released
  · rw [readUpdate_gov, (readUpdate_read i o s).anyHold]
    exact hs.held

/-- The command is moved to 0 under a HOLD (R87). -/
theorem moveGovernor_rested {u : State} (ho : u.gov.owned = true) : Rested (u.onGov fun _ => u.moveGovernor) := by
  refine ⟨fun hn => ?_, fun hh => (moveGovernor_hold (s := u) hh).1⟩
  rw [governed_owned ho] at hn
  cases hn

theorem updateGovernor_travelLaw (i : UpdateInput) (o : UpdateOrder) {s : State} (ho : s.gov.owned = s.anyEngaged)
    (hs : Rested s) : (updateGovernor i o s).gov.owned = (updateGovernor i o s).anyEngaged ∧
      Rested (updateGovernor i o s) := by
  have read := readUpdate_read i o s
  have owned : (readUpdate i o s).gov.owned = (readUpdate i o s).anyEngaged := by
    rw [readUpdate_gov, read.anyEngaged]
    exact ho
  rcases updateGovernor_cases i o s with ⟨-, e⟩ | ⟨-, hu, stops, e⟩ <;> rw [e]
  · exact ⟨owned, readUpdate_rested i o hs⟩
  · have run := conditions_travels o stops (readUpdate i o s)
    exact ⟨run.owned ((moveGovernor_owned _).trans owned), run.rested (moveGovernor_rested hu)⟩

/-! ### The settlement of the ownership -/

theorem running_reset {f : State → State} {s t : State} (hr : s.pins.reset = true) (e : running f s = .next t) : t = s := by
  rw [running, if_pos hr] at e
  cases e
  rfl

/-- RESET stays asserted until its negation (R190). -/
theorem exec_reset (c : Instr) (hc : ∀ straps, c ≠ .resetInputNegated straps) {s t : State} (hr : s.pins.reset = true)
    (e : exec c s = .next t) : t.pins.reset = true := by
  cases c with
  | resetInputAsserted => cases e; rfl
  | resetInputNegated straps => exact absurd rfl (hc straps)
  | haltInputAsserted first => cases e; simp [assertHalt, hr]
  | haltInputNegated => cases e; exact hr
  | lineBreak first => cases e; simp [lineHeldLow, hr]
  | breakDetectorRearm => cases e; simp [lineReturns, hr]
  | _ => rw [running_reset hr e]; exact hr

theorem exec_travelLaw (c : Instr) {s t : State} (hs : TravelLaw s) (e : exec c s = .next t) : TravelLaw t := by
  obtain ⟨owned, released, held⟩ := hs
  have law {x : State} (ho : x.gov.owned = x.anyEngaged) (hx : Rested x) : TravelLaw x :=
    ⟨fun _ => ho, hx.released, hx.held⟩
  by_cases ha : c = .resetInputAsserted
  · subst ha
    cases e
    exact ⟨nofun, fun _ => rfl, fun _ => rfl⟩
  by_cases hg : ∃ i o, c = .governorUpdate i o
  · obtain ⟨i, o, rfl⟩ := hg
    cases hr : s.pins.reset with
    | true => exact running_reset hr e ▸ ⟨owned, released, held⟩
    | false =>
      cases (running_negated _ s hr).symm.trans e
      obtain ⟨ho, hx⟩ := updateGovernor_travelLaw i o (owned hr) ⟨released, held⟩
      exact law ho hx
  · have run := exec_travels c ha (fun i o ec => hg ⟨i, o, ec⟩) e
    have rested := run.rested ⟨released, held⟩
    refine ⟨fun ht => ?_, rested.released, rested.held⟩
    cases hr : s.pins.reset with
    | false => exact run.owned (owned hr)
    | true =>
      by_cases hn : ∃ straps, c = .resetInputNegated straps
      · obtain ⟨straps, rfl⟩ := hn
        cases e
        rfl
      · rw [exec_reset c (fun straps ec => hn ⟨straps, ec⟩) hr e] at ht
        cases ht

/-- Settles O7: the moves of each command, and the update's own, keep the three parts of the law. -/
theorem travelOwnershipKept : Obligations.TravelOwnershipKept := by
  intro s t hs e
  unfold step at e
  split at e
  · cases e
    exact hs
  · next c rest _ => exact exec_travelLaw c (s := { s with pending := rest }) hs e

/-! ## The speed of a weld (R92) -/

/-- The speed law of R92, with its ground: the rest under a HOLD, and calibrations that return to rest. -/
structure AdvanceSafe (s : State) : Prop where
  rested : Rested s
  returns : ReturnsToRest s
  slow : AdvanceSpeedLaw s

theorem TravelMove.advanceSafe {s t : State} (m : TravelMove s t) (hs : AdvanceSafe s) : AdvanceSafe t := by
  refine ⟨m.rested hs.rested, m.returnsToRest hs.returns, fun k hk => ?_⟩
  rcases m.sameWelds.welds k hk with ⟨hw, hp⟩ | hh | hr | hz
  · rw [hp]
    exact m.slows.trans (hs.slow k hw)
  · have := m.slows
    rw [hs.rested.held hh] at this
    omega
  · rw [hs.returns k _ hr] at hk
    cases hk
  · rw [hz]
    exact Nat.zero_le _

theorem TravelRun.advanceSafe {s t : State} (r : TravelRun s t) (hs : AdvanceSafe s) : AdvanceSafe t := by
  obtain ⟨moves⟩ := r
  induction moves with
  | refl => exact hs
  | tail _ m ih => exact m.advanceSafe ih

theorem CommissioningLaw.returnsToRest {s : State} (hc : CommissioningLaw s) : ReturnsToRest s := by
  intro k st hr
  obtain ⟨-, -, origin⟩ := hc k
  unfold Sequencer.returning at hr
  split at hr
  · next hs =>
    cases hr
    rcases origin hs with e | e | e <;> rw [e] <;> rfl
  · cases hr

/-! ### The target speed lies under its limits (R87, R92) -/

theorem least_le_left (v : Nat) (x : Option Nat) : (least (some v) x).getD 0 ≤ v := by
  cases x <;> simp [least]

/-- A head with a demand bounds the least of the values over that demand. -/
theorem leastOf_le {s : State} {h : Head} {d : Demand} (f : HeadUnit → Nat) (hd : s.demand h = d) :
    ∃ v, s.leastOf d f = some v ∧ v ≤ f (s.head h) := by
  unfold State.leastOf State.where
  cases h
  · rw [if_pos hd]
    split <;> simp [least]
  · rw [if_pos hd]
    split <;> simp [least]

theorem leastOf_none {s : State} {d : Demand} (f : HeadUnit → Nat) (hd : ∀ h, s.demand h ≠ d) :
    s.leastOf d f = none := by
  simp [State.leastOf, State.where, hd, least]

/-- A head in WELD or PAUSE limits the wanted speed by its permitted speed (R87, R91). -/
theorem wantedTravel_le_permitted {s : State} {h : Head} (a : Nat) (hd : s.demand h = .advance) :
    (s.wantedTravel a).1 ≤ (s.head h).travel.permitted := by
  unfold State.wantedTravel
  split
  · exact Nat.zero_le _
  · obtain ⟨v, e, hv⟩ := leastOf_le (fun u => u.travel.permitted) hd
    rw [e]
    exact (least_le_left v _).trans hv

/-- With no head in WELD or PAUSE an approaching head limits it by its approach speed (R87, R95). -/
theorem wantedTravel_le_approach {s : State} {h : Head} (a : Nat) (hn : ∀ k, s.demand k ≠ .advance)
    (hd : s.demand h = .approach) : (s.wantedTravel a).1 ≤ (s.head h).travelSet.approachSpeed := by
  unfold State.wantedTravel
  split
  · exact Nat.zero_le _
  · obtain ⟨v, e, hv⟩ := leastOf_le (fun u => u.travelSet.approachSpeed) hd
    rw [leastOf_none _ hn, e]
    exact (least_le_left v _).trans hv

theorem bedLimit_le (s : State) (a v : Nat) : s.bedLimit a v ≤ v := by
  unfold State.bedLimit
  split
  · exact Nat.min_le_left ..
  · exact le_refl v

theorem targetSpeed_le (s : State) (a : Nat) : s.targetSpeed a ≤ (s.wantedTravel a).1 := by
  unfold State.targetSpeed
  dsimp only
  split
  · exact Nat.zero_le _
  · split
    · exact bedLimit_le ..
    · exact le_refl _

/-- The ramp never carries the command above its target (R89). -/
theorem rampSpeed_le (a target speed : Nat) : rampSpeed a target speed ≤ target := by
  unfold rampSpeed
  split
  · exact Nat.min_le_left ..
  · exact le_refl _

theorem moveGovernor_le (s : State) : s.moveGovernor.speed ≤ (s.wantedTravel s.acceleration).1 := by
  unfold State.moveGovernor
  dsimp only
  split
  · exact (rampSpeed_le ..).trans (targetSpeed_le ..)
  · exact Nat.zero_le _

theorem HeadState.demand_of_welding {st : HeadState} (hw : st.welding = true) : st.demand = .advance := by
  revert hw
  cases st <;> decide

theorem HeadState.welding_of_demand {st : HeadState} (hd : st.demand = .advance) : st.welding = true := by
  revert hd
  cases st <;> decide

/-! ## What the conditions of a governor update leave of a head (R94, R99, R102 to R104) -/

/-- Records are appended to a log, and counts other than that of the sensor faults are taken. -/
structure LogKept (l m : HeadLog) : Prop where
  acc : m.acc = l.acc
  nextMark : m.nextMark = l.nextMark
  queue : l.queue <+: m.queue
  sensorFaults : m.counters.sensorFaults = l.counters.sensorFaults

theorem LogKept.refl (l : HeadLog) : LogKept l l := ⟨rfl, rfl, List.prefix_rfl, rfl⟩

theorem LogKept.trans {l m n : HeadLog} (a : LogKept l m) (b : LogKept m n) : LogKept l n :=
  ⟨b.acc.trans a.acc, b.nextMark.trans a.nextMark, a.queue.trans b.queue, b.sensorFaults.trans a.sensorFaults⟩

theorem createRecord_logKept (h k : Head) (b : RecordBody) (co : Bool) (s : State) :
    LogKept (s.head k).log ((createRecord h b co s).head k).log := by
  obtain ⟨n, counters⟩ := createRecord_counters h k b co s
  exact ⟨createRecord_acc .., createRecord_nextMark .., (createRecord_grown h b co s).queues k, by rw [counters]⟩

theorem logCounted_logKept (h : Head) (b : RecordBody) (f : HeadCounters → HeadCounters) (s : State)
    (hf : ∀ c, (f c).sensorFaults = c.sensorFaults) : LogKept (s.head h).log (logCounted h b f s) := by
  obtain ⟨acc, mark, queue, faults⟩ := createRecord_logKept h h b false s
  unfold logCounted logWith
  split
  · exact ⟨acc, mark, queue, (hf _).trans faults⟩
  · exact ⟨acc, mark, queue, faults⟩

theorem reportInForce_logKept (h : Head) (b : SegmentRef → RecordBody) (s : State) :
    LogKept (s.head h).log ((reportInForce h b s).head h).log := by
  obtain ⟨named, n, -, e⟩ := reportInForce_eq h b s
  rw [e]
  exact createRecord_logKept h h (b named) false { s with free := n }

/-- A head after conditions of an update: the items of a state change, its pause items, its starvation and its log may
change; it neither begins a weld nor an approach, and out of WELD and PAUSE it has no permitted speed (R91). -/
structure HeadKept (u v : HeadUnit) : Prop where
  self : v = { u with
    seq := { u.seq with
      state := v.seq.state, raising := v.seq.raising, spindle := v.seq.spindle, plungeStation := v.seq.plungeStation
      spinupTimer := v.seq.spinupTimer, cause := v.seq.cause, interruptStation := v.seq.interruptStation
      rampAcc := v.seq.rampAcc }
    plan := { u.plan with starved := v.plan.starved }
    travel := v.travel
    log := v.log }
  log : LogKept u.log v.log
  approach : v.seq.state = .approach → u.seq.state = .approach
  welds : v.seq.state.welding = true → u.seq.state.welding = true
  permitted : v.travel.permitted = u.travel.permitted ∨ v.seq.state.welding = false ∧ v.travel.permitted = 0
  leaves : u.seq.state.welding = true → v.seq.state.welding = true ∨ v.travel.permitted = 0

theorem HeadKept.refl (u : HeadUnit) : HeadKept u u := ⟨rfl, .refl _, id, id, .inl rfl, .inl⟩

theorem HeadKept.trans {u v w : HeadUnit} (a : HeadKept u v) (b : HeadKept v w) : HeadKept u w where
  self := b.self.trans (by rw [a.self])
  log := a.log.trans b.log
  approach := a.approach ∘ b.approach
  welds := a.welds ∘ b.welds
  permitted := by
    rcases b.permitted with e | e
    · refine a.permitted.imp e.trans fun ⟨hn, hz⟩ => ⟨?_, e.trans hz⟩
      by_contra hw
      rw [b.welds (by simpa using hw)] at hn
      cases hn
    · exact .inr e
  leaves hu := by
    rcases a.leaves hu with hv | hz
    · exact b.leaves hv
    · exact .inr (b.permitted.elim (fun e => e.trans hz) And.right)

theorem HeadKept.profiles {u v : HeadUnit} (a : HeadKept u v) : v.profiles = u.profiles := by rw [a.self]

/-- A head that leaves WELD or PAUSE, or was outside them, has no permitted speed (R91). -/
theorem HeadKept.permitted_zero {u v : HeadUnit} (a : HeadKept u v)
    (hu : u.seq.state.welding = false → u.travel.permitted = 0) (hv : v.seq.state.welding = false) :
    v.travel.permitted = 0 := by
  cases hw : u.seq.state.welding with
  | true => exact (a.leaves hw).resolve_left (by simp [hv])
  | false => exact a.permitted.elim (fun e => e.trans (hu hw)) And.right

theorem HeadKept.permitted_welding {u v : HeadUnit} (a : HeadKept u v) (hv : v.seq.state.welding = true) :
    v.travel.permitted = u.travel.permitted := a.permitted.resolve_right fun e => by simp [hv] at e

/-- A head goes, by its own condition or the other head's HOLD, to a state that is no approach. -/
theorem HeadKept.of_self {u v : HeadUnit} (e : v = { u with
      seq := { u.seq with
        state := v.seq.state, raising := v.seq.raising, spindle := v.seq.spindle, plungeStation := v.seq.plungeStation
        spinupTimer := v.seq.spinupTimer, cause := v.seq.cause, interruptStation := v.seq.interruptStation
        rampAcc := v.seq.rampAcc }
      plan := { u.plan with starved := v.plan.starved }
      travel := v.travel
      log := v.log }) (hl : LogKept u.log v.log) (ha : v.seq.state ≠ .approach)
    (hw : u.seq.state.welding = true ∧ v.seq.state.welding = true ∧ v.travel.permitted = u.travel.permitted ∨
      v.seq.state.welding = false ∧ v.travel.permitted = 0) : HeadKept u v where
  self := e
  log := hl
  approach ea := absurd ea ha
  welds hv := hw.elim And.left fun hn => by simp [hv] at hn
  permitted := hw.imp (fun w => w.2.2) id
  leaves _ := hw.imp (fun w => w.2.1) And.right

theorem PauseBegun.kept {h : Head} {st : HeadState} {s : State} {u : HeadUnit} (b : PauseBegun h st s u)
    (hw : s.headState h = .weld) : HeadKept (s.head h) u := by
  obtain ⟨named, -, rfl⟩ := b
  exact .of_self rfl (logCounted_logKept h (.pauseBegin named (s.toolStation h) st)
    (fun c => { c with pauses := bump c.pauses }) s fun _ => rfl) nofun
    (.inl ⟨by rw [show (s.head h).seq.state = .weld from hw]; rfl, rfl, rfl⟩)

theorem HoldTaken.kept_other {h : Head} {st : HeadState} {s t : State} (a : HoldTaken h st s t) :
    HeadKept (s.head h.other) (t.head h.other) := by
  unfold HoldTaken at a
  split at a
  · rw [a.2]
    exact .refl _
  · obtain ⟨-, other⟩ := a
    split at other
    · next hw => exact other.kept hw
    · rw [other]
      exact .refl _

theorem interruptHead_kept (h k : Head) (c : Cause) (s : State) : HeadKept (s.head k) ((interruptHead h c s).head k) := by
  cases ha : c.actsIn (s.headState h) with
  | false =>
    rw [interruptHead_of_not_acts ha]
    exact .refl _
  | true =>
    obtain ⟨-, -, held, named, -, self⟩ := interruptHead_interrupted h c s ha
    rcases head_cases h k with rfl | rfl
    · have log := logCounted_logKept k (.interrupt c (s.toolStation k) named (s.head k).seq.kind (s.headState k)
        (s.head k).seq.depth) (interruptCount c) (s.onHead k.other fun _ => (interruptHead k c s).head k.other) fun _ => rfl
      rw [onHead_of_other] at log
      rw [self]
      exact .of_self rfl log nofun (.inr ⟨rfl, rfl⟩)
    · exact held.kept_other

theorem pauseBegin_kept (h k : Head) (s : State) : HeadKept (s.head k) ((pauseBegin h s).head k) := by
  by_cases hw : s.headState h = .weld
  · rcases head_cases h k with rfl | rfl
    · exact (pauseBegin_begun k rfl rfl rfl rfl hw).kept hw
    · rw [pauseBegin_other]
      exact .refl _
  · rw [pauseBegin, if_neg hw]
    exact .refl _

theorem enterSpinup_holdTaken (h : Head) (s : State) : HoldTaken h .spinup s (enterSpinup h s) :=
  setHeadState_holdTaken h rfl (by simp) ((followSpindle_steady h _).headState h |>.trans (by simp [State.headState]))
    (by simp) (by simp) (by simp) (by simp)

theorem followSpindle_self (h : Head) (s : State) :
    ∃ n, (followSpindle h s).head h = { s.head h with seq := { (s.head h).seq with spindle := n } } := by
  unfold followSpindle
  split
  · exact ⟨_, onSeq_self ..⟩
  · exact ⟨Config.freeSpindle s.free % 4001, by simp⟩

theorem reportInForce_self (h : Head) (b : SegmentRef → RecordBody) (s : State) :
    (reportInForce h b s).head h = { s.head h with log := ((reportInForce h b s).head h).log } := by
  obtain ⟨named, n, -, e⟩ := reportInForce_eq h b s
  rw [e, createRecord_self, withFree_head]

theorem enterSpinup_kept (h k : Head) (s : State) : HeadKept (s.head k) ((enterSpinup h s).head k) := by
  rcases head_cases h k with rfl | rfl
  · unfold enterSpinup
    rw [setHeadState_self]
    obtain ⟨n, e⟩ := followSpindle_self k (s.onSeq k fun q => { q with
      plungeStation := s.toolStation k, spinupTimer := (s.head k).travelSet.spinupTimeout * 100 })
    rw [e, onSeq_self]
    exact .of_self rfl (.refl _) nofun (.inr ⟨rfl, rfl⟩)
  · exact (enterSpinup_holdTaken h s).kept_other

theorem endPause_kept (h k : Head) (s : State) (hs : s.headState h = .pause) :
    HeadKept (s.head k) ((endPause h s).head k) := by
  rcases head_cases h k with rfl | rfl
  · unfold endPause
    rw [setHeadState_self, reportInForce_self]
    exact .of_self rfl (reportInForce_logKept ..) nofun
      (.inl ⟨by rw [show (s.head k).seq.state = .pause from hs]; rfl, rfl, rfl⟩)
  · rw [endPause, setHeadState_other _ _ _ (by simp [HeadState.demand]), reportInForce_other]
    exact .refl _

theorem runPause_kept (h k : Head) (s : State) : HeadKept (s.head k) ((runPause h s).head k) := by
  rcases head_cases h k with rfl | rfl
  · rw [runPause, onTravel_self]
    exact ⟨rfl, .refl _, id, id, .inl rfl, .inl⟩
  · rw [runPause, onTravel_other]
    exact .refl _

/-- Every condition of an update keeps both heads in this sense. -/
theorem updateAct_kept (u : State) (stops : Bool) (o : UpdateOrder) (s : State) (a : UpdateAct) (k : Head) :
    HeadKept (s.head k) ((updateAct u stops o s a).head k) := by
  have same := HeadKept.refl (s.head k)
  cases a with
  | bedEnd h =>
    show HeadKept _ ((bedEndWork h (u.headState h) stops s).head k)
    unfold bedEndWork
    split
    · exact interruptHead_kept ..
    · exact same
  | arrival h =>
    show HeadKept _ ((if _ then enterSpinup h s else s).head k)
    split
    · exact enterSpinup_kept ..
    · exact same
  | pause h =>
    show HeadKept _ ((pauseWork h (u.headState h) u.anyHold o.split s).head k)
    unfold pauseWork
    dsimp only
    split
    · next hp =>
      split
      · split
        · exact runPause_kept ..
        · exact (runPause_kept h k s).trans (interruptHead_kept ..)
      · exact endPause_kept h k s hp.2
    · split
      · exact pauseBegin_kept ..
      · exact same

theorem conditions_kept (o : UpdateOrder) (stops : Bool) (u : State) (k : Head) :
    HeadKept (u.head k) ((conditions o stops u).head k) := by
  have all (l : List UpdateAct) (x : State) : HeadKept (x.head k) ((l.foldl (updateAct u stops o) x).head k) := by
    induction l generalizing x with
    | nil => exact .refl _
    | cons a l ih => exact (updateAct_kept u stops o x a k).trans (ih _)
  exact all (updateActs o) (u.onGov fun _ => u.moveGovernor)

/-! ### The settlement of the speeds -/

theorem readUpdate_returnsToRest (i : UpdateInput) (o : UpdateOrder) {s : State} (hs : ReturnsToRest s) :
    ReturnsToRest (readUpdate i o s) := by
  intro k st hr
  rw [((readUpdate_read i o s).heads k).seq] at hr
  exact hs k st hr

/-- The command of an update is under the permitted speeds that the update has found (R87, R91). -/
theorem moveGovernor_slow (u : State) : AdvanceSpeedLaw (u.onGov fun _ => u.moveGovernor) := fun k hk =>
  (moveGovernor_le u).trans (wantedTravel_le_permitted u.acceleration (h := k) (HeadState.demand_of_welding hk))

theorem updateGovernor_advanceSpeed (i : UpdateInput) (o : UpdateOrder) {s : State} (hs : Rested s)
    (hc : ReturnsToRest s) : AdvanceSpeedLaw (updateGovernor i o s) := by
  have returns := readUpdate_returnsToRest i o hc
  rcases updateGovernor_cases i o s with ⟨ho, e⟩ | ⟨-, hu, stops, e⟩ <;> rw [e]
  · intro k _
    rw [readUpdate_gov, hs.released ho]
    exact Nat.zero_le _
  · exact ((conditions_travels o stops _).advanceSafe ⟨moveGovernor_rested hu, returns, moveGovernor_slow _⟩).slow

theorem exec_advanceSpeed (c : Instr) {s t : State} (hl : TravelLaw s) (hc : CommissioningLaw s) (hs : AdvanceSpeedLaw s)
    (e : exec c s = .next t) : AdvanceSpeedLaw t := by
  obtain ⟨-, released, held⟩ := hl
  by_cases ha : c = .resetInputAsserted
  · subst ha
    cases e
    exact fun _ _ => Nat.zero_le _
  by_cases hg : ∃ i o, c = .governorUpdate i o
  · obtain ⟨i, o, rfl⟩ := hg
    cases hr : s.pins.reset with
    | true => exact running_reset hr e ▸ hs
    | false =>
      cases (running_negated _ s hr).symm.trans e
      exact updateGovernor_advanceSpeed i o ⟨released, held⟩ hc.returnsToRest
  · exact ((exec_travels c ha (fun i o ec => hg ⟨i, o, ec⟩) e).advanceSafe
      ⟨⟨released, held⟩, hc.returnsToRest, hs⟩).slow

theorem exec_slows (c : Instr) (hg : ∀ i o, c ≠ .governorUpdate i o) {s t : State} (e : exec c s = .next t) :
    t.gov.speed ≤ s.gov.speed := by
  by_cases ha : c = .resetInputAsserted
  · subst ha
    cases e
    exact Nat.zero_le _
  · exact (exec_travels c ha hg e).slows

/-- An update that leaves no head in WELD or PAUSE has stopped, or has found none there and commands at most the approach
speed of each approaching head (R87, R95). -/
theorem conditions_approachSpeed (o : UpdateOrder) (stops : Bool) (u : State) {h : Head}
    (hn : ∀ k, ((conditions o stops u).headState k).welding = false) (ha : (conditions o stops u).headState h = .approach) :
    (conditions o stops u).gov.speed ≤ ((conditions o stops u).head h).travelSet.approachSpeed := by
  have run := conditions_travels o stops u
  have kept := conditions_kept o stops u h
  by_cases hw : ∃ k, (u.headState k).welding = true
  · obtain ⟨k, hk⟩ := hw
    rw [(run.leaves k hk).resolve_left (by simp [hn])]
    exact Nat.zero_le _
  · have found : u.demand h = .approach := congrArg HeadState.demand (kept.approach ha)
    have none (k : Head) : u.demand k ≠ .advance := fun hd => hw ⟨k, HeadState.welding_of_demand hd⟩
    rw [HeadUnit.travelSet, kept.profiles]
    exact run.slows.trans ((moveGovernor_le u).trans (wantedTravel_le_approach _ none found))

/-- Settles O14: the moves of each command keep the law, and an update's command is the least of its limits. -/
theorem advanceSpeedKept : Obligations.AdvanceSpeedKept := by
  refine ⟨fun s t hl hc hs e => ?_, fun c s t hg e => exec_slows c hg e, fun i o s t hr hl e hn h ha => ?_⟩
  · unfold step at e
    split at e
    · cases e
      exact hs
    · next c rest _ => exact exec_advanceSpeed c (s := { s with pending := rest }) hl hc hs e
  · cases (running_negated _ s hr).symm.trans e
    rcases updateGovernor_cases i o s with ⟨ho, eu⟩ | ⟨-, -, stops, eu⟩ <;> rw [eu] at hn ha ⊢
    · rw [readUpdate_gov, hl.2.1 ho]
      exact Nat.zero_le _
    · exact conditions_approachSpeed o stops _ hn ha

/-! ## What an update leaves outside the heads, the governor and the GANTRY channel -/

/-- The blocks that no update of the governor touches. -/
structure BoxKept (s t : State) : Prop where
  settings : t.settings = s.settings
  lines : t.lines = s.lines
  tracker : t.tracker = s.tracker
  pins : t.pins = s.pins
  straps : t.straps = s.straps
  pending : t.pending = s.pending
  port : t.port = s.port

theorem BoxKept.refl (s : State) : BoxKept s s := ⟨rfl, rfl, rfl, rfl, rfl, rfl, rfl⟩

theorem BoxKept.trans {s t u : State} (a : BoxKept s t) (b : BoxKept t u) : BoxKept s u :=
  ⟨b.settings.trans a.settings, b.lines.trans a.lines, b.tracker.trans a.tracker, b.pins.trans a.pins,
    b.straps.trans a.straps, b.pending.trans a.pending, b.port.trans a.port⟩

theorem BoxKept.foldl {α : Type} (f : State → α → State) (hf : ∀ x a, BoxKept x (f x a)) (l : List α) (s : State) :
    BoxKept s (l.foldl f s) := by
  induction l generalizing s with
  | nil => exact .refl s
  | cons a l ih => exact (hf s a).trans (ih _)

theorem reportFault_boxKept (h : Head) (n : ChannelName) (kind : FaultKind) (c : Channel) (s : State) :
    BoxKept s (reportFault h n kind c s) := by constructor <;> simp [reportFault]

theorem interruptHead_boxKept (h : Head) (c : Cause) (s : State) : BoxKept s (interruptHead h c s) := by
  constructor <;> simp

theorem updateAct_boxKept (u : State) (stops : Bool) (o : UpdateOrder) (s : State) (a : UpdateAct) :
    BoxKept s (updateAct u stops o s a) := by
  have same := BoxKept.refl s
  cases a with
  | bedEnd h =>
    show BoxKept s (bedEndWork h (u.headState h) stops s)
    unfold bedEndWork
    split
    · exact interruptHead_boxKept ..
    · exact same
  | arrival h =>
    show BoxKept s (if _ then enterSpinup h s else s)
    split
    · constructor <;> simp [enterSpinup]
    · exact same
  | pause h =>
    have ran : BoxKept s (runPause h s) := by constructor <;> simp [runPause]
    show BoxKept s (pauseWork h (u.headState h) u.anyHold o.split s)
    unfold pauseWork
    dsimp only
    split
    · split
      · split
        · exact ran
        · exact ran.trans (interruptHead_boxKept ..)
      · constructor <;> simp [endPause]
    · split
      · constructor <;> simp
      · exact same

theorem conditions_boxKept (o : UpdateOrder) (stops : Bool) (u : State) : BoxKept u (conditions o stops u) :=
  BoxKept.trans (by constructor <;> simp)
    (.foldl _ (updateAct_boxKept u stops o) (updateActs o) (u.onGov fun _ => u.moveGovernor))

/-! ## The GANTRY conversion and its fault onset (R127, R130, R132) -/

theorem mem_presentHeads (s : State) (first h : Head) : h ∈ s.presentHeads first ↔ s.present h = true := by
  unfold State.presentHeads State.present
  cases s.straps.headB <;> cases first <;> cases h <;> simp [Head.other]

theorem presentHeads_nodup (s : State) (first : Head) : (s.presentHeads first).Nodup := by
  unfold State.presentHeads
  split <;> simp

/-- What a fault onset brings to the log of a head, where it is reported to it (R132). -/
structure OnsetLogged (reported : Bool) (l m : HeadLog) : Prop where
  acc : m.acc = l.acc
  nextMark : m.nextMark = l.nextMark
  queue : l.queue <+: m.queue
  sensorFaults : m.counters.sensorFaults =
    if reported then bump l.counters.sensorFaults else l.counters.sensorFaults
  unreported : reported = false → m = l

theorem OnsetLogged.refl (l : HeadLog) : OnsetLogged false l l := ⟨rfl, rfl, List.prefix_rfl, rfl, fun _ => rfl⟩

section
variable (n : ChannelName) (kind : FaultKind) (c : Channel)

theorem reportFault_logged (h : Head) {s : State} (hp : s.present h = true) :
    OnsetLogged true (s.head h).log ((reportFault h n kind c s).head h).log := by
  obtain ⟨acc, mark, queue, faults⟩ :=
    createRecord_logKept h h (.sensorFault n kind c.raw c.substituteOn (s.headState h)) false s
  unfold reportFault
  rw [countHead, if_pos (by simpa using hp), onLog_self]
  exact ⟨acc, mark, queue, congrArg bump faults, nofun⟩

theorem reportFault_other (h : Head) (s : State) : (reportFault h n kind c s).head h.other = s.head h.other := by
  simp [reportFault]

theorem reportFault_headState (h k : Head) (s : State) : (reportFault h n kind c s).headState k = s.headState k :=
  congrArg Sequencer.state (reportFault_read h n kind c s k).seq

theorem reportFault_recorded (h : Head) {s : State} (hp : s.present h = true) (hr : s.commonUsed < 960) :
    Recorded h (.sensorFault n kind c.raw c.substituteOn (s.headState h)) (reportFault h n kind c s) :=
  (createRecord_recorded _ false hp hr).grown (countHead_grown ..)

/-- A fault onset that is reported at each head of a list (R132). -/
def reportFaults (l : List Head) (s : State) : State := l.foldl (fun acc h => reportFault h n kind c acc) s

theorem reportFaults_grown (l : List Head) (s : State) : Grown l.length s (reportFaults n kind c l s) :=
  (Grown.foldl _ (fun x h => reportFault_grown h n kind c x) l s).mono (by omega)

theorem reportFaults_boxKept (l : List Head) (s : State) : BoxKept s (reportFaults n kind c l s) :=
  .foldl _ (fun x h => reportFault_boxKept h n kind c x) l s

theorem reportFaults_gantry (l : List Head) (s : State) : (reportFaults n kind c l s).gantry = s.gantry := by
  unfold reportFaults
  induction l generalizing s with
  | nil => rfl
  | cons h l ih => exact (ih _).trans (by simp [reportFault])

theorem reportFaults_logged (k : Head) {l : List Head} (hl : l.Nodup) {s : State} (hp : ∀ h ∈ l, s.present h = true) :
    OnsetLogged (decide (k ∈ l)) (s.head k).log ((reportFaults n kind c l s).head k).log := by
  induction l generalizing s with
  | nil => exact .refl _
  | cons h l ih =>
    obtain ⟨notMem, nodup⟩ := List.nodup_cons.mp hl
    have rest := ih nodup (s := reportFault h n kind c s) fun j hj =>
      ((reportFault_grown h n kind c s).present j).trans (hp j (List.mem_cons_of_mem _ hj))
    show OnsetLogged _ _ ((reportFaults n kind c l (reportFault h n kind c s)).head k).log
    rcases head_cases h k with rfl | rfl
    · rw [rest.unreported (by simpa using notMem)]
      simpa using reportFault_logged n kind c k (hp k List.mem_cons_self)
    · simpa [reportFault_other] using rest

theorem reportFaults_recorded {k : Head} {l : List Head} (hk : k ∈ l) {s : State} (hp : ∀ h ∈ l, s.present h = true)
    (hr : s.commonUsed + l.length ≤ 960) :
    Recorded k (.sensorFault n kind c.raw c.substituteOn (s.headState k)) (reportFaults n kind c l s) := by
  induction l generalizing s with
  | nil => cases hk
  | cons h l ih =>
    rw [List.length_cons] at hr
    have first := reportFault_grown h n kind c s
    rcases List.mem_cons.mp hk with rfl | mem
    · exact (reportFault_recorded n kind c k (hp k List.mem_cons_self) (by omega)).grown
        (reportFaults_grown n kind c l _)
    · have slots := first.common
      have rest := ih mem (s := reportFault h n kind c s)
        (fun j hj => (first.present j).trans (hp j (List.mem_cons_of_mem _ hj))) (by omega)
      rwa [reportFault_headState] at rest

end

/-- The GANTRY channel after a conversion, from the encoder's count and what makes it bad (R127, R128, R130, R132). -/
theorem convert_gantry (i : EncoderReading) (old : Channel) (lo : 0 ≤ i.count) (hi : i.count ≤ 400000) :
    convert gantryScale i.count (encoderFault i) old =
      let bad : Bool := !i.connected || i.jumped
      let fault : Bool := bad || old.fault
      let effective : Int :=
        if old.substituteOn then old.substitute
        else if fault then old.lastValid
        else max 0 (min 400000 (i.count + if old.overrideOn then old.overrideOffset else old.offset))
      { old with
        raw := i.count, valid := !bad, fault := fault, effective := effective
        lastValid := if old.substituteOn || !fault then effective else old.lastValid } := by
  have raw : clampInt 0 400000 i.count = i.count := by
    unfold clampInt
    omega
  have bad : (encoderFault i).isSome = (!i.connected || i.jumped) := by
    unfold encoderFault
    cases i.connected <;> cases i.jumped <;> rfl
  unfold convert
  simp only [gantryScale, raw, ← Option.not_isSome, bad, Bool.true_and]
  cases old.overrideOn <;> rfl

/-- The kind of a fault onset of the GANTRY channel (R128, R132). -/
def gantryFaultKind (i : EncoderReading) : FaultKind := if i.connected then .quadrature else .disconnected

/-- A GANTRY conversion is a fault onset (R132). -/
def gantryOnset (i : EncoderReading) (old : Channel) : Bool := (!i.connected || i.jumped) && !old.fault

/-- A GANTRY conversion, with its onset reported at each present head (R127, R132). -/
theorem convertGantry_eq (first : Head) (i : EncoderReading) (s : State) :
    convertGantry first i s =
      let s1 := { s with gantry := convert gantryScale i.count (encoderFault i) s.gantry }
      if gantryOnset i s.gantry then reportFaults .gantry (gantryFaultKind i) s1.gantry (s.presentHeads first) s1
      else s1 := by
  unfold convertGantry gantryOnset gantryFaultKind encoderFault reportFaults
  cases i.connected <;> cases i.jumped <;> cases s.gantry.fault <;> rfl

/-! ## What an update of the governor reads, and what it leaves of that (R87, R91, R98) -/

theorem convertGantry_gantry (first : Head) (i : EncoderReading) (s : State) :
    (convertGantry first i s).gantry = convert gantryScale i.count (encoderFault i) s.gantry := by
  rw [convertGantry_eq]
  dsimp only
  split
  · exact reportFaults_gantry ..
  · rfl

theorem convertGantry_boxKept (first : Head) (i : EncoderReading) (s : State) : BoxKept s (convertGantry first i s) := by
  have converted (c : Channel) : BoxKept s { s with gantry := c } := ⟨rfl, rfl, rfl, rfl, rfl, rfl, rfl⟩
  rw [convertGantry_eq]
  dsimp only
  split
  · exact (converted _).trans (reportFaults_boxKept ..)
  · exact converted _

theorem convertGantry_logged (first : Head) (i : EncoderReading) (s : State) (k : Head) :
    OnsetLogged (gantryOnset i s.gantry && s.present k) (s.head k).log ((convertGantry first i s).head k).log := by
  have converted (c : Channel) : (s.head k).log = (({ s with gantry := c } : State).head k).log := by cases k <;> rfl
  rw [convertGantry_eq]
  dsimp only
  split
  · next onset =>
    have reported := reportFaults_logged .gantry (gantryFaultKind i)
      (convert gantryScale i.count (encoderFault i) s.gantry) k (presentHeads_nodup s first)
      (s := { s with gantry := convert gantryScale i.count (encoderFault i) s.gantry })
      fun h hh => (mem_presentHeads s first h).mp hh
    rw [onset, Bool.true_and, converted (convert gantryScale i.count (encoderFault i) s.gantry)]
    simpa only [mem_presentHeads, Bool.decide_eq_true] using reported
  · next calm =>
    rw [Bool.not_eq_true] at calm
    rw [calm, Bool.false_and, ← converted]
    exact .refl _

theorem convertGantry_recorded (first : Head) {i : EncoderReading} {s : State} {k : Head}
    (ho : gantryOnset i s.gantry = true) (hp : s.present k = true) (hr : s.commonUsed + 2 ≤ 960) :
    Recorded k (.sensorFault .gantry (gantryFaultKind i) (convertGantry first i s).gantry.raw s.gantry.substituteOn
      (s.headState k)) (convertGantry first i s) := by
  have few := presentHeads_length s first
  have recorded := reportFaults_recorded .gantry (gantryFaultKind i) (convert gantryScale i.count (encoderFault i) s.gantry)
    ((mem_presentHeads s first k).mpr hp) (s := { s with gantry := convert gantryScale i.count (encoderFault i) s.gantry })
    (fun h hh => (mem_presentHeads s first h).mp hh) (show s.commonUsed + _ ≤ 960 by omega)
  have state : (({ s with gantry := convert gantryScale i.count (encoderFault i) s.gantry } : State).headState k) =
    s.headState k := by cases k <;> rfl
  rw [state] at recorded
  rw [convertGantry_gantry, convertGantry_eq]
  dsimp only
  rw [if_pos ho]
  exact recorded

section
variable (i : UpdateInput) (o : UpdateOrder) (s : State)

theorem readUpdate_gantry :
    (readUpdate i o s).gantry = convert gantryScale i.gantry.count (encoderFault i.gantry) s.gantry := by
  simp [readUpdate, convertGantry_gantry]

theorem readUpdate_boxKept : BoxKept s (readUpdate i o s) :=
  (convertGantry_boxKept o.first i.gantry s).trans (by constructor <;> simp [readUpdate])

theorem readUpdate_log (k : Head) : ((readUpdate i o s).head k).log = ((convertGantry o.first i.gantry s).head k).log := by
  simp [readUpdate]

/-- The permitted speed of a head that is not in WELD or PAUSE is 0 (R91). -/
theorem readUpdate_permitted (k : Head) : ((readUpdate i o s).head k).travel.permitted =
    if s.demand k = .advance then permittedSpeed (s.head k) else 0 := by
  have read := convertGantry_read o.first i.gantry s
  have speed : permittedSpeed ((convertGantry o.first i.gantry s).head k) = permittedSpeed (s.head k) := by
    rw [(read.heads k).self]
    rfl
  rw [← read.demand k, ← speed]
  unfold readUpdate
  cases k
  · rw [show Head.a = Head.b.other from rfl, onTravel_other, Head.other, onTravel_self]
    simp [State.demand] <;> rfl
  · rw [onTravel_self]
    rw [show Head.b = Head.a.other from rfl, onTravel_other]
    simp [State.demand] <;> rfl

end

/-- The permitted speed by the segment in force, the gap-slow flag and the torque (R91). -/
theorem permittedSpeed_eq {u : HeadUnit} {g : Segment} (hg : u.plan.inForce = some g) :
    (permittedSpeed u : Int) =
      let base : Nat := if u.track.gapSlow then g.cap / 2 else g.cap
      let soft : Int := u.limits.torqueSoft
      let hard : Int := u.limits.torqueMax
      max (u.travelSet.minWeldSpeed : Int) (min (base : Int) (if soft < u.front.torque.effective
        then (base : Int) * (hard - u.front.torque.effective) / (hard - soft) else base)) := by
  unfold permittedSpeed
  simp only [hg, Option.map_some, Option.getD_some]
  rw [Nat.cast_max, Int.ofNat_toNat]
  omega

/-- What the conditions and the move of the command leave of the state that an update has read. -/
structure Governed (u t : State) : Prop where
  gantry : t.gantry = u.gantry
  box : BoxKept u t
  heads : ∀ k, HeadKept (u.head k) (t.head k)
  grown : ∃ n, Grown n u t
  gov : t.gov = { u.gov with speed := t.gov.speed, direction := t.gov.direction }
  released : u.gov.owned = false → t = u

theorem moveGovernor_gov (u : State) :
    u.moveGovernor = { u.gov with speed := u.moveGovernor.speed, direction := u.moveGovernor.direction } := by
  unfold State.moveGovernor
  dsimp only
  split <;> rfl

theorem updateGovernor_governed (i : UpdateInput) (o : UpdateOrder) (s : State) :
    Governed (readUpdate i o s) (updateGovernor i o s) := by
  rcases updateGovernor_cases i o s with ⟨-, e⟩ | ⟨-, ho, stops, e⟩ <;> rw [e]
  · exact ⟨rfl, .refl _, fun k => .refl _, ⟨0, .refl _⟩, rfl, fun _ => rfl⟩
  · have w := conditions_updating (o := o) (stops := stops) ho
    obtain ⟨n, grown, -⟩ := w.grown
    have moved := moveGovernor_gov (readUpdate i o s)
    have start : Grown 0 (readUpdate i o s) ((readUpdate i o s).onGov fun _ => (readUpdate i o s).moveGovernor) :=
      .of_same (by simp) (by simp)
    refine ⟨w.gantry, conditions_boxKept .., conditions_kept _ _ _, ⟨_, start.trans grown⟩, ?_, ?_⟩
    · rcases w.gov with g | g <;> rw [g]
      · exact moved
      · exact congrArg (fun g : Governor => { g with speed := 0 }) moved
    · rw [ho]
      nofun

theorem UpdateRead.unit {s u : State} (r : UpdateRead s u) (k : Head) : u.head k =
    { s.head k with travel := { (s.head k).travel with permitted := (u.head k).travel.permitted }, log := (u.head k).log } :=
  (r.heads k).self

/-! ### The settlement of the reading -/

theorem State.demand_advance (s : State) (h : Head) : s.demand h = .advance ↔ (s.headState h).welding = true :=
  ⟨HeadState.welding_of_demand, HeadState.demand_of_welding⟩

/-- A head after an update: what the reading and the conditions change of it. -/
theorem HeadKept.frame {a u v : HeadUnit} (read : u =
      { a with travel := { a.travel with permitted := u.travel.permitted }, log := u.log }) (kept : HeadKept u v) :
    v = { a with
      seq := { a.seq with
        state := v.seq.state, raising := v.seq.raising, spindle := v.seq.spindle, plungeStation := v.seq.plungeStation
        spinupTimer := v.seq.spinupTimer, cause := v.seq.cause, interruptStation := v.seq.interruptStation
        rampAcc := v.seq.rampAcc }
      plan := { a.plan with starved := v.plan.starved }
      travel := v.travel
      log := v.log } := by
  have self := kept.self
  rw [read] at self
  exact self

/-- The log of a head after an update (R132). -/
theorem updateGovernor_logged (i : UpdateInput) (o : UpdateOrder) (s : State) (k : Head) :
    ((updateGovernor i o s).head k).log.acc = (s.head k).log.acc ∧
    ((updateGovernor i o s).head k).log.nextMark = (s.head k).log.nextMark ∧
    (s.head k).log.queue <+: ((updateGovernor i o s).head k).log.queue ∧
    ((updateGovernor i o s).head k).log.counters.sensorFaults =
      if gantryOnset i.gantry s.gantry && s.present k then bump (s.head k).log.counters.sensorFaults
      else (s.head k).log.counters.sensorFaults := by
  have read := convertGantry_logged o.first i.gantry s k
  rw [← readUpdate_log i o] at read
  have kept := ((updateGovernor_governed i o s).heads k).log
  exact ⟨kept.acc.trans read.acc, kept.nextMark.trans read.nextMark, read.queue.trans kept.queue,
    kept.sensorFaults.trans read.sensorFaults⟩

theorem updateGovernor_recorded {i : UpdateInput} {o : UpdateOrder} {s : State} {k : Head}
    (ho : gantryOnset i.gantry s.gantry = true) (hp : s.present k = true) (hr : CommonRoom s) :
    Recorded k (.sensorFault .gantry (gantryFaultKind i.gantry) (updateGovernor i o s).gantry.raw s.gantry.substituteOn
      (s.headState k)) (updateGovernor i o s) := by
  obtain ⟨gantry, -, -, ⟨n, grown⟩, -, -⟩ := updateGovernor_governed i o s
  have room := hr.common
  have recorded := convertGantry_recorded o.first ho hp (by omega)
  have converted : (readUpdate i o s).gantry = (convertGantry o.first i.gantry s).gantry := by
    rw [readUpdate_gantry, convertGantry_gantry]
  rw [gantry, converted]
  refine Recorded.grown ?_ grown
  unfold Recorded
  rw [readUpdate_log]
  exact recorded

/-- Outside WELD and PAUSE, before or after the update, a head has no permitted speed (R91). -/
theorem updateGovernor_permitted_zero (i : UpdateInput) (o : UpdateOrder) {s : State} {k : Head}
    (hw : (s.headState k).welding = false ∨ ((updateGovernor i o s).headState k).welding = false) :
    ((updateGovernor i o s).head k).travel.permitted = 0 := by
  have kept := (updateGovernor_governed i o s).heads k
  have state : ((readUpdate i o s).head k).seq.state = s.headState k := (readUpdate_read i o s).headState k
  refine kept.permitted_zero (fun hn => ?_) (hw.elim (fun hn => ?_) id)
  · rw [state] at hn
    rw [readUpdate_permitted, if_neg (by simp [State.demand_advance, hn])]
  · by_contra hv
    have := kept.welds (by simpa using hv)
    rw [state, hn] at this
    cases this

/-- A head that welds before and after the update has the permitted speed of R91. -/
theorem updateGovernor_permitted (i : UpdateInput) (o : UpdateOrder) {s : State} {k : Head}
    (hw : (s.headState k).welding = true) (hv : ((updateGovernor i o s).headState k).welding = true) :
    ((updateGovernor i o s).head k).travel.permitted = permittedSpeed (s.head k) := by
  rw [((updateGovernor_governed i o s).heads k).permitted_welding hv, readUpdate_permitted,
    if_pos ((s.demand_advance k).mpr hw)]

/-- Settles O54: the reading of the update by itself, and what its conditions keep of it. -/
theorem governorUpdateConverts : Obligations.GovernorUpdateConverts := by
  unfold Obligations.GovernorUpdateConverts
  intro i o s hr lo hi
  dsimp only
  have governed := updateGovernor_governed i o s
  have read := readUpdate_read i o s
  have box := (readUpdate_boxKept i o s).trans governed.box
  have gantry : (updateGovernor i o s).gantry = _ :=
    governed.gantry.trans ((readUpdate_gantry i o s).trans (convert_gantry i.gantry s.gantry lo hi))
  have gov := governed.gov
  rw [readUpdate_gov] at gov
  refine ⟨updateGovernor i o s, running_negated _ s hr, gantry, by rw [gov], by rw [gov], by rw [gov], box.settings,
    box.lines, box.tracker, box.pins, box.straps, box.pending, box.port, fun k => ?_⟩
  have frame := (governed.heads k).frame (read.unit k)
  obtain ⟨acc, mark, queue, faults⟩ := updateGovernor_logged i o s k
  refine ⟨by rw [frame], by rw [frame], by rw [frame], by rw [frame], by rw [frame], by rw [frame],
    congrArg HeadUnit.plan frame, congrArg HeadUnit.seq frame, acc, mark, queue, ?_, fun room onset hp => ?_,
    fun ho => ?_, updateGovernor_permitted_zero i o, fun g hg hw hv _ => ?_⟩
  · rw [faults]
    exact if_congr Bool.and_eq_true_iff rfl rfl
  · have recorded := updateGovernor_recorded (o := o) onset hp room
    rwa [gantry] at recorded
  · have same : updateGovernor i o s = readUpdate i o s := governed.released (by rw [readUpdate_gov]; exact ho)
    have logged := convertGantry_logged o.first i.gantry s k
    rw [← readUpdate_log i o] at logged
    rw [same]
    refine ⟨readUpdate_gov i o s, read.unit k, fun hd => ?_, fun calm => logged.unreported ?_⟩
    · rw [readUpdate_permitted, if_neg hd]
    · exact Bool.and_eq_false_iff.mpr (.inl calm)
  · rw [updateGovernor_permitted i o hw hv, permittedSpeed_eq hg]
    cases (s.head k).track.gapSlow <;> rfl

/-! ## The integer square root ("Integer arithmetic") and the braking speed (R93) -/

/-- The root is found bit by bit from below, with the bits still to come bounding it from above. -/
theorem isqrtBits_eq (bits n acc : Nat) (lo : acc * acc ≤ n) (hi : n < (acc + 2 ^ bits) * (acc + 2 ^ bits)) :
    isqrtBits bits n acc = n.sqrt := by
  induction bits generalizing acc with
  | zero => exact Nat.eq_sqrt.mpr ⟨lo, hi⟩
  | succ bits ih =>
    have twice : acc + 2 ^ (bits + 1) = acc + 2 ^ bits + 2 ^ bits := by rw [pow_succ]; omega
    rw [twice] at hi
    show isqrtBits bits n (if (acc + 2 ^ bits) * (acc + 2 ^ bits) ≤ n then acc + 2 ^ bits else acc) = _
    split
    · next below => exact ih _ below hi
    · next above => exact ih _ lo (by omega)

theorem isqrt_eq_sqrt (n : Nat) : isqrt n = n.sqrt := by
  refine isqrtBits_eq _ n 0 (Nat.zero_le _) ?_
  rw [Nat.zero_add, ← pow_add]
  exact Nat.lt_log2_self.trans_le (Nat.pow_le_pow_right (by omega) (by omega))

theorem brakingSpeed_eq (a : Nat) (d : Int) : brakingSpeed a d = 60 * Nat.sqrt (2 * a * d.toNat / 10) := by
  unfold brakingSpeed
  split
  · next h => simp [Int.toNat_of_nonpos h]
  · rw [isqrt_eq_sqrt]

/-! ## The least of the values that stand (R87, R88) -/

/-- An optional value is the least of a set, and absent only of the empty one. -/
def Least : Option Nat → Set Nat → Prop
  | some v, S => IsLeast S v
  | none, S => S = ∅

theorem Least.union {x y : Option Nat} {S T : Set Nat} (a : Least x S) (b : Least y T) : Least (least x y) (S ∪ T) := by
  cases x with
  | none =>
    rw [show S = ∅ from a, Set.empty_union]
    exact b
  | some v =>
    cases y with
    | none =>
      rw [show T = ∅ from b, Set.union_empty]
      exact a
    | some w => exact IsLeast.union a b

theorem Least.single (x : Option Nat) : Least x {v | x = some v} := by
  cases x with
  | none => exact Set.eq_empty_of_forall_notMem fun v => nofun
  | some v => exact ⟨rfl, fun w e => by cases e; exact le_refl v⟩

/-- The least of the two heads' values. -/
theorem Least.heads (f : Head → Option Nat) : Least (least (f .a) (f .b)) {v | ∃ h, f h = some v} := by
  have both : {v | ∃ h, f h = some v} = {v | f .a = some v} ∪ {v | f .b = some v} := by
    ext v
    constructor
    · rintro ⟨h, e⟩
      cases h
      exacts [.inl e, .inr e]
    · rintro (e | e)
      exacts [⟨.a, e⟩, ⟨.b, e⟩]
  rw [both]
  exact (Least.single _).union (Least.single _)

/-- What a value stands for is least where one stands. -/
theorem Least.getD {x : Option Nat} {S : Set Nat} (a : Least x S) (hs : S.Nonempty) : IsLeast S (x.getD 0) := by
  cases x with
  | none => exact absurd a hs.ne_empty
  | some v => exact a

theorem Least.of_iff {x : Option Nat} {S T : Set Nat} (a : Least x S) (h : ∀ v, v ∈ S ↔ v ∈ T) : Least x T :=
  Set.ext h ▸ a

/-- The least of the values of the heads that a condition picks. -/
theorem Least.where (c : Head → Prop) [DecidablePred c] (f : Head → Nat) :
    Least (least (if c .a then some (f .a) else none) (if c .b then some (f .b) else none)) {v | ∃ h, c h ∧ v = f h} :=
  (Least.heads fun h => if c h then some (f h) else none).of_iff fun v => exists_congr fun h => by
    by_cases hc : c h <;> simp [hc, eq_comm]

section
variable {s : State}

theorem leastOf_least (d : Demand) (f : HeadUnit → Nat) :
    Least (s.leastOf d f) {v | ∃ h, s.demand h = d ∧ v = f (s.head h)} :=
  Least.where (s.demand · = d) fun h => f (s.head h)

theorem approachLimit_least (a : Nat) :
    Least (s.approachLimit a) {v | ∃ h, s.demand h = .approach ∧ v = brakingSpeed a (s.remaining h)} :=
  Least.where (s.demand · = .approach) fun h => brakingSpeed a (s.remaining h)

theorem HeadState.engaged_iff (st : HeadState) : st.engaged = true ↔ st.demand ≠ .idle := by
  cases st <;> decide

/-- The acceleration is the least of the engaged heads' (R88). -/
theorem acceleration_least (he : s.anyEngaged = true) :
    IsLeast {v | ∃ h, (s.headState h).engaged = true ∧ v = (s.head h).travelSet.acceleration} s.acceleration := by
  refine Least.getD ((Least.heads fun h => if s.demand h = .idle then none
    else some (s.head h).travelSet.acceleration).of_iff fun v => exists_congr fun h => ?_) ?_
  · rw [HeadState.engaged_iff, ← State.demand]
    by_cases hd : s.demand h = .idle <;> simp [hd, eq_comm]
  · rcases Bool.or_eq_true_iff.mp he with e | e
    exacts [⟨_, .a, e, rfl⟩, ⟨_, .b, e, rfl⟩]

/-! ## The command without a HOLD (R87 to R90, R93 to R101) -/

/-- The direction that the heads want without a HOLD (R87). -/
def State.wantedDirection (s : State) : Direction :=
  if !((s.headState .a).welding || (s.headState .b).welding) &&
    (s.approaches .a .reverse || s.approaches .b .reverse) then .reverse else .forward

/-- A speed limit that a head sets: in WELD or PAUSE its permitted speed, in APPROACH the braking speed toward its target
and, where no head welds, its approach speed (R87, R91, R93, R95). -/
def State.Limits (s : State) (a : Nat) (h : Head) (v : Nat) : Prop :=
  s.demand h = .advance ∧ v = (s.head h).travel.permitted ∨
  s.demand h = .approach ∧ (v = brakingSpeed a (s.remaining h) ∨
    (∀ k, s.demand k ≠ .advance) ∧ v = (s.head h).travelSet.approachSpeed)

/-- Without a HOLD an engaged head welds or approaches. -/
theorem travels_of_engaged (hh : s.anyHold = false) {h : Head} (he : (s.headState h).engaged = true) :
    s.demand h = .advance ∨ s.demand h = .approach := by
  have engaged := (HeadState.engaged_iff _).mp he
  have calm : (s.headState h).demand ≠ .hold := fun e => by
    rw [(anyHold_iff s).mpr ⟨h, e⟩] at hh
    cases hh
  unfold State.demand
  revert engaged calm
  cases (s.headState h).demand <;> simp

theorem welding_none (hn : ∀ k, s.demand k ≠ .advance) :
    ((s.headState .a).welding || (s.headState .b).welding) = false := by
  have still (k : Head) : (s.headState k).welding = false := by simpa [State.demand_advance] using hn k
  rw [still, still]
  rfl

theorem leastOf_eq_none {d : Demand} {f : HeadUnit → Nat} (e : s.leastOf d f = none) (k : Head) : s.demand k ≠ d := by
  have least := leastOf_least (s := s) d f
  rw [e] at least
  exact fun hd => (Set.eq_empty_iff_forall_notMem.mp least) _ ⟨k, hd, rfl⟩

theorem leastOf_eq_some {d : Demand} {f : HeadUnit → Nat} {v : Nat} (e : s.leastOf d f = some v) :
    ∃ k, s.demand k = d := by
  have least := leastOf_least (s := s) d f
  rw [e] at least
  obtain ⟨k, hd, -⟩ := least.1
  exact ⟨k, hd⟩

/-- Wanted speed and direction without a HOLD (R87, R95). -/
theorem wantedTravel_eq (hh : s.anyHold = false) (he : s.anyEngaged = true) (a : Nat) :
    (s.wantedTravel a).2 = s.wantedDirection ∧ IsLeast {v | ∃ h, s.Limits a h v} (s.wantedTravel a).1 := by
  have travelling : ∃ h, s.demand h = .advance ∨ s.demand h = .approach := by
    rcases Bool.or_eq_true_iff.mp he with e | e
    exacts [⟨.a, travels_of_engaged hh e⟩, ⟨.b, travels_of_engaged hh e⟩]
  have brakes := approachLimit_least (s := s) a
  unfold State.wantedTravel State.wantedDirection
  rw [if_neg (by simp [hh])]
  split
  · next v advancing =>
    have permitted := leastOf_least (s := s) .advance fun u => u.travel.permitted
    obtain ⟨k, hk⟩ := leastOf_eq_some advancing
    have welding : ((s.headState .a).welding || (s.headState .b).welding) = true := by
      rw [State.demand_advance] at hk
      cases k <;> simp [hk]
    refine ⟨by simp [welding],
      Least.getD ((advancing ▸ permitted).union brakes |>.of_iff fun w => ?_) ⟨_, k, .inl ⟨hk, rfl⟩⟩⟩
    have beside : ¬∀ k, s.demand k ≠ .advance := fun hn => hn k hk
    simp only [State.Limits, beside, false_and, or_false, exists_or]
    rfl
  · next standing =>
    have still := leastOf_eq_none standing
    split
    · next v approaching =>
      have speeds := leastOf_least (s := s) .approach fun u => u.travelSet.approachSpeed
      obtain ⟨k, hk⟩ := leastOf_eq_some approaching
      refine ⟨by simp [welding_none still], Least.getD ((approaching ▸ speeds).union brakes |>.of_iff fun w => ?_)
        ⟨_, k, .inr ⟨hk, .inl rfl⟩⟩⟩
      simp only [State.Limits, still, false_and, false_or, ne_eq, not_false_eq_true, implies_true, true_and, and_or_left,
        exists_or]
      exact Or.comm
    · next none =>
      obtain ⟨k, hk | hk⟩ := travelling
      · exact absurd hk (still k)
      · exact absurd hk (leastOf_eq_none none k)

/-- The target speed with nothing in its way is the least limit, forward the bed end's too (R87, R93, R99). -/
theorem targetSpeed_least (hh : s.anyHold = false) (he : s.anyEngaged = true) (a : Nat) (hk : s.keepsDirection = false)
    (hr : ∀ h, s.reached h = false) :
    IsLeast {v | (∃ h, s.Limits a h v) ∨ s.wantedDirection = .forward ∧ ∃ e, s.gov.bedEnd = some e ∧
      v = brakingSpeed a ((e : Int) - s.gantry.effective)} (s.targetSpeed a) := by
  obtain ⟨direction, least⟩ := wantedTravel_eq hh he a
  unfold State.keepsDirection at hk
  unfold State.targetSpeed
  dsimp only
  rw [if_neg (by simp [hk, hr]), direction]
  split
  · next forward =>
    unfold State.bedLimit
    split
    · next e hb =>
      have both := least.union (isLeast_singleton (a := brakingSpeed a ((e : Int) - s.gantry.effective)))
      exact Least.of_iff (x := some _) both fun v => by simp [forward, hb, or_comm]
    · next hb =>
      exact Least.of_iff (x := some _) least fun v => by simp [hb]
  · next reverse =>
    exact Least.of_iff (x := some _) least fun v => by simp [reverse]

/-- The direction is kept where the gantry is stopped, and else it is the wanted one (R90, R97, R101). -/
theorem moveGovernor_stopped (hk : s.keepsDirection = true) :
    s.moveGovernor.speed = 0 ∧ s.moveGovernor.direction = s.gov.direction := by
  have target (a : Nat) : s.targetSpeed a = 0 := by
    by_contra ht
    rw [(targetSpeed_pos ht).1] at hk
    cases hk
  unfold State.moveGovernor
  simp [hk, target, rampSpeed_zero]

theorem moveGovernor_direction (hh : s.anyHold = false) (he : s.anyEngaged = true) (hk : s.keepsDirection = false) :
    s.moveGovernor.direction = s.wantedDirection := by
  unfold State.moveGovernor
  dsimp only
  rw [(wantedTravel_eq hh he _).1, hk]
  split
  · next same => exact (show s.wantedDirection = s.gov.direction by simpa using same).symm
  · rfl

/-- A turn stands the gantry first (R90). -/
theorem moveGovernor_turn (hh : s.anyHold = false) (he : s.anyEngaged = true) (hk : s.keepsDirection = false)
    (hd : s.wantedDirection ≠ s.gov.direction) : s.moveGovernor.speed = 0 := by
  unfold State.moveGovernor
  dsimp only
  rw [(wantedTravel_eq hh he _).1, hk, if_neg (by simpa using hd)]

/-- A target within 1.0 mm stops the gantry (R94). -/
theorem moveGovernor_reached {h : Head} (hr : s.reached h = true) : s.moveGovernor.speed = 0 := by
  have target (a : Nat) : s.targetSpeed a = 0 := by
    unfold State.targetSpeed
    dsimp only
    rw [if_pos (by cases h <;> simp [hr])]
  unfold State.moveGovernor
  simp only [target, rampSpeed_zero]
  split <;> rfl

/-- Without a turn the command takes the ramp (R89). -/
theorem moveGovernor_ramp (hh : s.anyHold = false) (he : s.anyEngaged = true)
    (hd : s.wantedDirection = s.gov.direction) :
    s.moveGovernor.speed = rampSpeed s.acceleration (s.targetSpeed s.acceleration) s.gov.speed := by
  unfold State.moveGovernor
  dsimp only
  rw [(wantedTravel_eq hh he _).1, if_pos (by simp [hd])]

end

/-! ## The conditions of an update without a HOLD (R94, R99, R104) -/

section
variable {u x : State} {o : UpdateOrder} {h : Head} {stops : Bool}

theorem endPause_gov (ho : x.gov.owned = true) : (endPause h x).gov = x.gov := by
  unfold endPause
  rw [setHeadState_gov_eq, if_neg (by simp [HeadState.demand]), if_pos (.inl rfl)]
  simp [Governor.taken_of_owned ho]

theorem endPause_permitted (hp : x.headState h = .pause) (k : Head) :
    ((endPause h x).head k).travel.permitted = (x.head k).travel.permitted := by
  rcases head_cases h k with rfl | rfl
  · exact (endPause_kept k k x hp).permitted_welding (by simp [endPause, setHeadState_self]; rfl)
  · rw [endPause, setHeadState_other _ _ _ (by simp [HeadState.demand]), reportInForce_other]

/-- Without a HOLD, an arrival and the bed end an update brings the ends of pauses alone (R104). -/
theorem updateAct_moving (hh : u.anyHold = false) (hr : ∀ k, u.reached k = false) (a : UpdateAct) :
    updateAct u false o x a = x ∨
      u.headState (actHead a) = .pause ∧ x.headState (actHead a) = .pause ∧
        updateAct u false o x a = endPause (actHead a) x := by
  cases a with
  | pause k =>
    by_cases hp : u.headState k = .pause ∧ x.headState k = .pause
    · exact .inr ⟨hp.1, hp.2, by simp [updateAct, pauseWork, hp, hh, actHead]⟩
    · exact .inl (by simp [updateAct, pauseWork, hp, hh])
  | bedEnd k => exact .inl (updateAct_own rfl nofun (hr k))
  | arrival k => exact .inl (updateAct_own rfl nofun (hr k))

/-- Then the command and the permitted speeds stand as the update has them. -/
theorem conditions_moving (ho : u.gov.owned = true) (hh : u.anyHold = false) (hr : ∀ k, u.reached k = false) :
    (conditions o false u).gov = u.moveGovernor ∧
      ∀ k, ((conditions o false u).head k).travel.permitted = (u.head k).travel.permitted := by
  have run (l : List UpdateAct) (x : State) (hx : x.gov.owned = true) :
      (l.foldl (updateAct u false o) x).gov = x.gov ∧
        ∀ k, ((l.foldl (updateAct u false o) x).head k).travel.permitted = (x.head k).travel.permitted := by
    induction l generalizing x with
    | nil => exact ⟨rfl, fun _ => rfl⟩
    | cons a l ih =>
      rw [List.foldl_cons]
      rcases updateAct_moving (o := o) (x := x) hh hr a with e | ⟨-, hp, e⟩
      · rw [e]
        exact ih x hx
      · rw [e]
        have gov := endPause_gov (h := actHead a) hx
        obtain ⟨same, permitted⟩ := ih (endPause (actHead a) x) (by rw [gov, hx])
        exact ⟨same.trans gov, fun k => (permitted k).trans (endPause_permitted hp k)⟩
  obtain ⟨gov, permitted⟩ := run (updateActs o) (u.onGov fun _ => u.moveGovernor) (governed_owned ho)
  exact ⟨gov, fun k => (permitted k).trans (by simp)⟩

/-- Without a pause they leave the state as the update has it. -/
theorem conditions_steady (hh : u.anyHold = false) (hr : ∀ k, u.reached k = false) (hp : ∀ k, u.headState k ≠ .pause) :
    conditions o false u = u.onGov fun _ => u.moveGovernor := by
  have same (l : List UpdateAct) (x : State) : l.foldl (updateAct u false o) x = x := by
    induction l generalizing x with
    | nil => rfl
    | cons a l ih =>
      rw [List.foldl_cons, (updateAct_moving hh hr a).resolve_right fun c => hp _ c.1, ih]
  exact same ..

/-- A head found in APPROACH within 1.0 mm of its target goes to SPINUP, whatever else the update brings (R94). -/
theorem arrival_spinsUp (ho : u.gov.owned = true) (hr : u.reached h = true) (hs : o.split = false) :
    (conditions o stops u).headState h = .spinup := by
  have found := headState_of_reached hr
  have settled := (updateActs_settle u stops o (governed_owned ho) h
    (P := fun l v => .arrival h ∈ l ∧ v.seq.state = .approach ∨ v.seq.state = .spinup) ?_ ?_ ?_).2
  · exact settled.resolve_left fun p => List.not_mem_nil p.1
  · exact .inl ⟨mem_updateActs .., by simpa [State.headState] using found⟩
  · intro a l x ha w p
    subst ha
    cases a with
    | pause k =>
      have idle : updateAct u stops o x (.pause k) = x := by
        simp [updateAct, pauseWork, show u.headState k = .approach from found]
      rw [idle]
      exact p.imp (fun q => ⟨by simpa using q.1, q.2⟩) id
    | bedEnd k =>
      have idle : updateAct u stops o x (.bedEnd k) = x := by
        simp [updateAct, bedEndWork, show u.headState k = .approach from found, HeadState.welding]
      rw [idle]
      exact p.imp (fun q => ⟨by simpa using q.1, q.2⟩) id
    | arrival k =>
      right
      change ((if (u.reached k && !o.split && x.headState k == .approach) = true then enterSpinup k x else x).headState k)
        = .spinup
      rcases p with ⟨-, approaching⟩ | there
      · rw [if_pos (by simp [show u.reached k = true from hr, hs, show x.headState k = .approach from approaching]),
          enterSpinup, setHeadState_headState]
      · rw [if_neg (by simp [show x.headState k = .spinup from there])]
        exact there
  · intro a l x ha w p
    have apart : x.headState h ≠ .weld := by
      rw [State.headState]
      rcases p with ⟨-, e⟩ | e <;> rw [e] <;> decide
    rw [updateAct_beside ha (w.owned (governed_owned ho)) apart]
    refine p.imp (fun q => ⟨(List.mem_cons.mp q.1).resolve_left fun e => ?_, q.2⟩) id
    rw [← e] at ha
    exact ne_other _ ha

end

/-! ### What an update has read, by the state that it began at -/

theorem HeadState.demand_approach_iff (st : HeadState) : st.demand = .approach ↔ st = .approach := by
  cases st <;> decide

section
variable {s u : State}

theorem UpdateRead.tool (r : UpdateRead s u) (h : Head) : (u.head h).tool = (s.head h).tool := by
  rw [r.unit h]
  rfl

theorem UpdateRead.travelSet (r : UpdateRead s u) (h : Head) : (u.head h).travelSet = (s.head h).travelSet := by
  rw [r.unit h]
  rfl

theorem UpdateRead.approaches (r : UpdateRead s u) (h : Head) (d : Direction) :
    u.approaches h d = (s.headState h == .approach && (s.head h).seq.direction == d) := by
  have approach : (s.demand h == .approach) = (s.headState h == .approach) := by
    rw [Bool.eq_iff_iff, beq_iff_eq, beq_iff_eq, State.demand, HeadState.demand_approach_iff]
  unfold State.approaches
  rw [r.demand, approach, (r.heads h).seq]

theorem UpdateRead.remaining (r : UpdateRead s u) (h : Head) : u.remaining h =
    let target : Int := (s.head h).tool.seamOrigin + (s.head h).seq.target
    if (s.head h).seq.direction = .forward then target - u.gantry.effective else u.gantry.effective - target := by
  unfold State.remaining
  dsimp only
  rw [r.tool, (r.heads h).seq]
  cases (s.head h).seq.direction <;> rfl

theorem UpdateRead.reached (r : UpdateRead s u) (h : Head) :
    u.reached h = (s.headState h == .approach && u.remaining h ≤ 10) := by
  have approach : (s.demand h == .approach) = (s.headState h == .approach) := by
    rw [Bool.eq_iff_iff, beq_iff_eq, beq_iff_eq, State.demand, HeadState.demand_approach_iff]
  rw [State.reached, r.demand, approach]

theorem UpdateRead.keepsDirection (r : UpdateRead s u) : u.keepsDirection =
    (!u.gov.travelReady || u.gantry.fault ||
      ((s.headState .a == .approach && (s.head .a).seq.direction == .reverse && (s.headState .b).engaged) ||
        (s.headState .b == .approach && (s.head .b).seq.direction == .reverse && (s.headState .a).engaged))) := by
  have engaged (h : Head) : (u.demand h != .idle) = (s.headState h).engaged := by
    rw [r.demand, Bool.eq_iff_iff, bne_iff_ne, HeadState.engaged_iff, State.demand]
  unfold State.keepsDirection State.reverseBlocked
  rw [r.approaches, r.approaches, engaged, engaged]

theorem UpdateRead.wantedDirection (r : UpdateRead s u) : u.wantedDirection =
    if !((s.headState .a).welding || (s.headState .b).welding) &&
      ((s.headState .a == .approach && (s.head .a).seq.direction == .reverse) ||
        (s.headState .b == .approach && (s.head .b).seq.direction == .reverse)) then .reverse else .forward := by
  unfold State.wantedDirection
  rw [r.headState, r.headState, r.approaches, r.approaches]

/-- A limit of an update, over the engaged heads (R87, R91, R93, R95). -/
theorem UpdateRead.limits_iff (r : UpdateRead s u) (hh : s.anyHold = false) (a v : Nat) (h : Head) :
    u.Limits a h v ↔ (s.headState h).engaged = true ∧
      v ∈ if (s.headState h == .approach) = true then
          (if ((s.headState .a).welding || (s.headState .b).welding) = true then []
            else [(s.head h).travelSet.approachSpeed]) ++ [brakingSpeed a (u.remaining h)]
        else [(u.head h).travel.permitted] := by
  have still : (∀ k, u.demand k ≠ .advance) ↔ ((s.headState .a).welding || (s.headState .b).welding) = false := by
    simp only [ne_eq, State.demand_advance, r.headState, Bool.not_eq_true, Bool.or_eq_false_iff]
    exact ⟨fun n => ⟨n .a, n .b⟩, fun n k => by cases k; exacts [n.1, n.2]⟩
  unfold State.Limits
  rw [still, r.demand, r.travelSet]
  by_cases happ : s.headState h = .approach
  · have approach : s.demand h = .approach := (HeadState.demand_approach_iff _).mpr happ
    have engaged : HeadState.approach.engaged = true := rfl
    cases ((s.headState .a).welding || (s.headState .b).welding) <;> simp [approach, happ, engaged, or_comm]
  · have approach : s.demand h ≠ .approach := fun e => happ ((HeadState.demand_approach_iff _).mp e)
    have engaged : s.demand h = .advance ↔ (s.headState h).engaged = true :=
      ⟨fun e => (HeadState.engaged_iff _).mpr (by rw [← State.demand, e]; decide),
        fun e => (travels_of_engaged hh e).resolve_right approach⟩
    simp [approach, happ, engaged]

end

/-- Settles O60: the moved command by the cases of the reading, which the conditions of the update leave. -/
theorem governorUpdateMovesGantry : Obligations.GovernorUpdateMovesGantry := by
  unfold Obligations.GovernorUpdateMovesGantry
  intro i o s hr ho hh he
  obtain ⟨u, stops, read, gov, hs, step, gantry⟩ := exec_governorUpdate i o hr ho
  have owned : u.gov.owned = true := by rw [gov]; exact ho
  have hold : u.anyHold = false := read.anyHold.trans hh
  have busy : u.anyEngaged = true := read.anyEngaged.trans he
  have direction : u.gov.direction = s.gov.direction := by rw [gov]
  have speed : u.gov.speed = s.gov.speed := by rw [gov]
  have w := conditions_updating (o := o) (stops := stops) owned
  have rests (hz : u.moveGovernor.speed = 0) : (conditions o stops u).gov.speed = 0 := w.atRest hz
  have turned : (conditions o stops u).gov.direction = u.moveGovernor.direction := w.direction
  refine ⟨_, step, ?_⟩
  rw [gantry]
  intro at_ left approaching reverse welding wanted blocked stopped beyond arrived engaged braking
  have hstop : stopped = u.keepsDirection := by rw [read.keepsDirection, gov]
  have hwanted : wanted = u.wantedDirection := read.wantedDirection.symm
  have hleft (h : Head) : left h = u.remaining h := (read.remaining h).symm
  have harrived (h : Head) : arrived h = u.reached h := by rw [read.reached, ← hleft]
  have hbeyond : beyond = stops := by
    rw [hs, (wantedTravel_eq hold busy _).1, ← hwanted, State.atBedEnd, gov]
  have hbraking : braking = brakingSpeed := by
    funext a d
    exact (brakingSpeed_eq a d).symm
  rw [hstop, hwanted, hbeyond, harrived, harrived, hbraking]
  refine ⟨fun hk => ?_, fun hk => ?_, fun hk hz => rests ?_, fun h ha hsplit => ?_, fun hk hd hb hra hrb => ?_⟩
  · obtain ⟨stands, keeps⟩ := moveGovernor_stopped hk
    exact ⟨rests stands, turned.trans (keeps.trans direction)⟩
  · exact turned.trans (moveGovernor_direction hold busy hk)
  · rcases hz with hd | hb | ha | ha
    · exact moveGovernor_turn hold busy hk (by rwa [direction])
    · rw [hs, Bool.and_eq_true, beq_iff_eq] at hb
      exact moveGovernor_atBedEnd hb.1 hb.2
    · exact moveGovernor_reached ha
    · exact moveGovernor_reached ha
  · rw [harrived] at ha
    exact arrival_spinsUp owned ha hsplit
  · have clear (h : Head) : u.reached h = false := by cases h; exacts [hra, hrb]
    subst hb
    obtain ⟨moved, permitted⟩ := conditions_moving (o := o) owned hold clear
    obtain ⟨⟨k, hk', acc⟩, least⟩ := acceleration_least busy
    obtain ⟨target, below⟩ := targetSpeed_least hold busy u.acceleration hk clear
    have mem (h : Head) : h ∈ engaged ↔ (s.headState h).engaged = true := by
      cases h <;> simp [engaged]
    refine ⟨u.acceleration, u.targetSpeed u.acceleration,
      ⟨k, (mem k).mpr (read.headState k ▸ hk'), ?_⟩, fun h he' => ?_, ?_, ?_⟩
    · rw [acc, read.travelSet]
    · rw [← read.travelSet]
      exact least ⟨h, (read.headState h).symm ▸ (mem h).mp he', rfl⟩
    · intro limits
      have limit (v : Nat) : v ∈ limits ↔ (∃ h, u.Limits u.acceleration h v) ∨ u.wantedDirection = .forward ∧
          ∃ e, u.gov.bedEnd = some e ∧ v = brakingSpeed u.acceleration ((e : Int) - u.gantry.effective) := by
        rw [List.mem_append, List.mem_flatMap]
        refine or_congr (exists_congr fun h => ?_) ?_
        · rw [read.limits_iff hh, mem, hleft, permitted]
        · rw [gov]
          by_cases forward : u.wantedDirection = .forward
          · cases s.effectiveBedEnd <;> simp [forward, at_]
          · simp [forward]
      exact ⟨(limit _).mpr target, fun l hl => below ((limit l).mp hl)⟩
    · rw [moved, moveGovernor_ramp hold busy (hd.trans direction.symm), rampSpeed, speed]

/-! ## One welding head beside an idle one (R87, R99) -/

section
variable {u x : State} {o : UpdateOrder} {h : Head} {stops : Bool}

theorem anyHold_of_idle (hw : u.headState h = .weld) (hd : u.demand h.other = .idle) : u.anyHold = false := by
  rw [Bool.eq_false_iff, ne_eq, anyHold_iff]
  rintro ⟨k, e⟩
  rcases head_cases h k with rfl | rfl
  · rw [State.demand, hw] at e
    cases e
  · rw [hd] at e
    cases e

/-- Without a HOLD no condition is raised at an idle head. -/
theorem updateAct_idle {a : UpdateAct} (ha : actHead a = h) (hd : u.demand h = .idle) (hh : u.anyHold = false) :
    updateAct u stops o x a = x := by
  subst ha
  have idle : (u.headState (actHead a)).demand = .idle := hd
  have not (st : HeadState) (hs : st.demand ≠ .idle) : u.headState (actHead a) ≠ st := fun e => hs (e ▸ idle)
  cases a with
  | pause k => simp [updateAct, pauseWork, hh, show u.headState k ≠ .pause from not .pause (by decide)]
  | bedEnd k =>
    refine if_neg (Bool.not_eq_true _ ▸ Bool.and_eq_false_iff.mpr (.inl ?_))
    rw [Bool.eq_false_iff]
    exact fun hw => absurd (HeadState.demand_of_welding hw) (by rw [show (u.headState k).demand = .idle from idle]; decide)
  | arrival k =>
    exact if_neg (by simp [State.reached, show u.demand k = .idle from hd])

/-- A welding head at the bed end is interrupted with BED_END (R99). -/
theorem weld_bedEnd (ho : u.gov.owned = true) (hw : u.headState h = .weld) (hd : u.demand h.other = .idle) :
    (conditions o true u).headState h = .interrupting ∧ ((conditions o true u).head h).seq.cause = some .bedEnd ∧
      ((conditions o true u).head h).seq.interruptStation = u.toolStation h := by
  have hold := anyHold_of_idle hw hd
  have away : u.reached h = false := not_reached (by rw [hw]; rfl)
  have settled := (updateActs_settle u true o (governed_owned ho) h
    (P := fun l v => .bedEnd h ∈ l ∧ v.seq.state = .weld ∨
      v.seq.state = .interrupting ∧ v.seq.cause = some .bedEnd ∧ v.seq.interruptStation = u.toolStation h) ?_ ?_ ?_).2
  · exact settled.resolve_left fun p => List.not_mem_nil p.1
  · exact .inl ⟨mem_updateActs .., by simpa [State.headState] using hw⟩
  · intro a l x ha w p
    rcases p with ⟨due, weld⟩ | done
    · subst ha
      cases a with
      | bedEnd k =>
        have works : updateAct u true o x (.bedEnd k) = interruptHead k .bedEnd x :=
          if_pos (by simp [show u.headState k = .weld from hw, HeadState.welding])
        have acts : Cause.bedEnd.actsIn (x.headState k) = true := by rw [show x.headState k = .weld from weld]; decide
        right
        rw [works, show actHead (.bedEnd k) = k from rfl, (interruptHead_interrupted k .bedEnd x acts).seq]
        exact ⟨rfl, rfl, by simpa using w.toolStation k⟩
      | pause k =>
        have idle : updateAct u true o x (.pause k) = x := by
          simp [updateAct, pauseWork, hold, show u.headState k = .weld from hw]
        rw [idle]
        exact .inl ⟨by simpa using due, weld⟩
      | arrival k =>
        have idle : updateAct u true o x (.arrival k) = x := if_neg (by simp [show u.reached k = false from away])
        rw [idle]
        exact .inl ⟨by simpa using due, weld⟩
    · rw [updateAct_interrupted ha done.1 away]
      exact .inr done
  · intro a l x ha w p
    rw [updateAct_idle ha hd hold]
    refine p.imp (fun q => ⟨(List.mem_cons.mp q.1).resolve_left fun e => ?_, q.2⟩) id
    rw [← e] at ha
    exact ne_other _ ha

theorem anyEngaged_of_weld (hw : u.headState h = .weld) : u.anyEngaged = true := by
  rw [anyEngaged_eq h, hw]
  rfl

/-- Nothing turns or stops the gantry of a welding head but the drive and the GANTRY channel (R87, R97). -/
theorem weld_travels (hw : u.headState h = .weld) (hd : u.demand h.other = .idle) :
    u.wantedDirection = .forward ∧ u.reverseBlocked = false ∧ ∀ k, u.reached k = false := by
  have still (k : Head) : u.demand k ≠ .approach := by
    rcases head_cases h k with rfl | rfl
    · rw [State.demand, hw]
      decide
    · rw [hd]
      decide
  have apart (k : Head) (d : Direction) : u.approaches k d = false := by simp [State.approaches, still]
  refine ⟨?_, ?_, fun k => by simp [State.reached, still]⟩
  · simp [State.wantedDirection, apart]
  · simp [State.reverseBlocked, apart]

/-- The acceleration is that of the one welding head (R88). -/
theorem acceleration_alone (hw : u.headState h = .weld) (hd : u.demand h.other = .idle) :
    u.acceleration = (u.head h).travelSet.acceleration := by
  obtain ⟨⟨k, engaged, e⟩, -⟩ := acceleration_least (anyEngaged_of_weld hw)
  rcases head_cases h k with rfl | rfl
  · exact e
  · exact absurd hd ((HeadState.engaged_iff _).mp engaged)

/-- The target speed of the one welding head: the lesser of its permitted speed and the braking speed toward the bed end
(R91, R93, R99). -/
theorem targetSpeed_alone {e : Nat} (hw : u.headState h = .weld) (hd : u.demand h.other = .idle)
    (hk : u.keepsDirection = false) (he : u.gov.bedEnd = some e) (a : Nat) :
    u.targetSpeed a = min (u.head h).travel.permitted (brakingSpeed a ((e : Int) - u.gantry.effective)) := by
  obtain ⟨forward, -, away⟩ := weld_travels hw hd
  have advance : u.demand h = .advance := by rw [State.demand, hw]; rfl
  have least := targetSpeed_least (anyHold_of_idle hw hd) (anyEngaged_of_weld hw) a hk away
  refine least.unique (Least.of_iff (x := some _) isLeast_pair fun v => ?_)
  have limits : (∃ k, u.Limits a k v) ↔ v = (u.head h).travel.permitted := by
    constructor
    · rintro ⟨k, l⟩
      rcases head_cases h k with rfl | rfl
      · simpa [State.Limits, advance] using l
      · simp [State.Limits, hd] at l
    · exact fun e => ⟨h, .inl ⟨advance, e⟩⟩
  simp [limits, forward, he]

end

/-- A GANTRY conversion without a fault, a substitute, an override or an offset reads the count (R128, R130). -/
theorem convert_gantry_good {i : EncoderReading} {old : Channel} (hc : i.connected = true) (hj : i.jumped = false)
    (lo : 0 ≤ i.count) (hi : i.count ≤ 400000) (hf : old.fault = false) (hs : old.substituteOn = false)
    (hov : old.overrideOn = false) (hz : old.offset = 0) :
    (convert gantryScale i.count (encoderFault i) old).fault = false ∧
      (convert gantryScale i.count (encoderFault i) old).effective = i.count := by
  rw [convert_gantry i old lo hi]
  simp only [hc, hj, hf, hs, hov, hz, Bool.not_true, Bool.or_self, Bool.false_eq_true, if_false, add_zero, true_and]
  omega

/-- Settles O56: the one welding head's limits, and its interrupt at the bed end. -/
theorem advanceUpdateMovesGantry : Obligations.AdvanceUpdateMovesGantry := by
  unfold Obligations.AdvanceUpdateMovesGantry
  intro h i o g e s hr ho hw hd hdir hg hb hc hj hready lo hi hf hsub hov hz _
  obtain ⟨fault, effective⟩ := convert_gantry_good hc hj lo hi hf hsub hov hz
  rw [← readUpdate_gantry i o s] at fault effective
  have read := readUpdate_read i o s
  have gov := readUpdate_gov i o s
  have step : exec (.governorUpdate i o) s = .next (updateGovernor i o s) := running_negated _ s hr
  rw [updateGovernor_owned i o ho] at step
  have speed : ((readUpdate i o s).head h).travel.permitted = permittedSpeed (s.head h) := by
    rw [readUpdate_permitted, if_pos (by rw [State.demand, hw]; rfl)]
  generalize readUpdate i o s = u at *
  have owned : u.gov.owned = true := by rw [gov]; exact ho
  have weld : u.headState h = .weld := (read.headState h).trans hw
  have idle : u.demand h.other = .idle := (read.demand h.other).trans hd
  have hold := anyHold_of_idle weld idle
  have busy := anyEngaged_of_weld weld
  have bed : u.gov.bedEnd = some e := by rw [gov]; exact hb
  obtain ⟨forward, free, away⟩ := weld_travels weld idle
  have goes : u.keepsDirection = false := by simp [State.keepsDirection, gov, hready, fault, free]
  have direction : u.moveGovernor.direction = .forward := (moveGovernor_direction hold busy goes).trans forward
  have wanted : (u.wantedTravel u.acceleration).2 = .forward := (wantedTravel_eq hold busy _).1.trans forward
  refine ⟨fun beyond => ?_, fun short => ?_⟩
  · have there : u.atBedEnd = true := by simp [State.atBedEnd, bed, effective, beyond]
    rw [wanted, there, show (Direction.forward == Direction.forward && true) = true from rfl] at step
    have w := conditions_updating (o := o) (stops := true) owned
    obtain ⟨state, cause, station⟩ := weld_bedEnd (o := o) owned weld idle
    exact ⟨_, step, w.atRest (moveGovernor_atBedEnd wanted there), w.direction.trans direction,
      w.owned (governed_owned owned), state, cause, by rw [station, w.toolStation, onGov_toolStation]⟩
  · have clear : u.atBedEnd = false := by simp [State.atBedEnd, bed, effective, short]
    have calm (k : Head) : u.headState k ≠ .pause := by
      rcases head_cases h k with rfl | rfl
      · rw [weld]
        decide
      · intro p
        rw [State.demand, p] at idle
        cases idle
    rw [clear, Bool.and_false, conditions_steady hold away calm] at step
    refine ⟨permittedSpeed (s.head h), _, _, _, step, permittedSpeed_eq hg, Nat.sqrt_le _, Nat.lt_succ_sqrt _, rfl, ?_,
      direction, (moveGovernor_owned u).trans owned, by simpa using speed, by simpa using weld⟩
    have turn : u.wantedDirection = u.gov.direction := by rw [forward, gov, hdir]
    show u.moveGovernor.speed = _
    rw [moveGovernor_ramp hold busy turn, targetSpeed_alone weld idle goes bed, acceleration_alone weld idle,
      read.travelSet, brakingSpeed_eq, speed, effective, rampSpeed, gov]

end Sys2Proof.Machine

namespace Sys2Proof.Machine

/-! ## The tracker line's receiver (R109) -/

theorem takeTrackerCharacter_hunt (d : Byte) {s : State} (hs : s.tracker = .hunt) : takeTrackerCharacter d s =
    if d = 0xA5 then { s with tracker := .collecting [d] } else s := by
  simp only [takeTrackerCharacter, hs]
  rfl

theorem takeTrackerCharacter_collecting (d : Byte) {s : State} {kept : List Byte} (hs : s.tracker = .collecting kept) :
    takeTrackerCharacter d s = if kept.length + 1 < 12 then { s with tracker := .collecting (kept ++ [d]) }
      else acceptReport (kept ++ [d]) { s with tracker := .hunt } := by
  simp only [takeTrackerCharacter, hs]
  rfl

theorem abandonReport_hunt {s : State} (hs : s.tracker = .hunt) : abandonReport s = s := by simp only [abandonReport, hs]

theorem abandonReport_collecting {s : State} {kept : List Byte} (hs : s.tracker = .collecting kept) :
    abandonReport s = countBadReport { s with tracker := .hunt } := by simp only [abandonReport, hs]

/-- Twelve characters that begin with the sync value are an arrival, wherever the receiver took the first of them. -/
theorem takeReportArrival_whole {s : State} {kept rest : List Byte} (hs : s.tracker.kept = kept)
    (hl : (kept ++ rest).length = 12) (hh : (kept ++ rest).head? = some 0xA5) :
    takeReportArrival rest s = acceptReport (kept ++ rest) { s with tracker := .hunt } := by
  subst hs
  exact if_pos ⟨hl, hh⟩

/-- Settles O39: the receiver's states, one after the other. -/
theorem trackerReceiverCollects : Obligations.TrackerReceiverCollects := by
  intro d s hr
  have character := running_negated (takeTrackerCharacter d) s hr
  have abandoned := running_negated abandonReport s hr
  refine ⟨fun hs => ⟨?_, ?_, ?_⟩, fun kept hs => ⟨fun hl => ?_, fun hl hh => ?_, ?_, ?_⟩⟩
  · exact character.trans (by rw [takeTrackerCharacter_hunt d hs])
  · exact abandoned.trans (by rw [abandonReport_hunt hs])
  · exact abandoned.trans (by rw [abandonReport_hunt hs])
  · exact character.trans (by rw [takeTrackerCharacter_collecting d hs, if_pos (by omega)])
  · have whole := takeReportArrival_whole (s := s) (kept := kept) (rest := [d]) (by rw [hs]; rfl) (by simp [hl])
      (by rw [List.head?_append, hh]; rfl)
    refine character.trans ?_
    rw [takeTrackerCharacter_collecting d hs, if_neg (by omega), ← whole]
    exact (running_negated (takeReportArrival [d]) s hr).symm
  · exact abandoned.trans (by rw [abandonReport_collecting hs]; rfl)
  · exact abandoned.trans (by rw [abandonReport_collecting hs]; rfl)

/-! ## Track reports as bytes (R110, R197) -/

/-- The eleven characters before the check. -/
def reportBody (h : Head) (e : TrackEntry) : List Byte :=
  [0xA5] ++ leBytes 1 (headCode h) ++ leBytes 3 e.station ++ leBytes 2 e.offset ++ leBytes 1 e.gap ++
    leBytes 2 e.mismatch ++ leBytes 1 e.quality

theorem reportOf_eq (h : Head) (e : TrackEntry) : reportOf h e = reportBody h e ++ [xorAll (reportBody h e)] := rfl

theorem xorAll_append (l : List Byte) (b : Byte) : xorAll (l ++ [b]) = xorAll l ^^^ b := by simp [xorAll]

/-- The check makes the XOR of all twelve characters 0 (R109). -/
theorem xorAll_check (l : List Byte) (b : Byte) : xorAll (l ++ [b]) = 0 ↔ b = xorAll l := by
  rw [xorAll_append]
  exact BitVec.xor_eq_zero_iff.trans eq_comm

theorem toNat_ofInt_byte (v : Int) : ((BitVec.ofInt 8 v).toNat : Int) = v % 256 := by
  rw [BitVec.toNat_ofInt]
  omega

/-- A field of `n` bytes is the field's value at its offset, one byte at a time (R194). -/
theorem byteAt_field (l r : List Byte) (n k : Nat) (v : Int) (hk : k < n) :
    ((byteAt (l ++ leBytes n v ++ r) (l.length + k) : Nat) : Int) = v / 256 ^ k % 256 := by
  have byte (n k : Nat) (v : Int) (hk : k < n) : (leBytes n v)[k]? = some (BitVec.ofInt 8 (v / 256 ^ k)) := by
    induction n generalizing k v with
    | zero => omega
    | succ n ih =>
      cases k with
      | zero => simp [leBytes]
      | succ k =>
        rw [leBytes, List.getElem?_cons_succ, ih k _ (by omega), pow_succ', Int.ediv_ediv_of_nonneg (by omega)]
  have found : (l ++ leBytes n v ++ r)[l.length + k]? = some (BitVec.ofInt 8 (v / 256 ^ k)) := by
    rw [List.append_assoc, List.getElem?_append_right (by omega), Nat.add_sub_cancel_left,
      List.getElem?_append_left (by simpa using hk), byte n k v hk]
  rw [byteAt, List.getD_eq_getElem?_getD, found, Option.getD_some, toNat_ofInt_byte]

theorem s16At_field (l r : List Byte) {v : Int} (lo : -32768 ≤ v) (hi : v ≤ 32767) :
    s16At (l ++ leBytes 2 v ++ r) l.length = v := by
  have b0 := byteAt_field l r 2 0 v (by omega)
  have b1 := byteAt_field l r 2 1 v (by omega)
  simp only [pow_zero, pow_one, Nat.add_zero] at b0 b1
  unfold s16At u16At
  generalize byteAt _ l.length = x0, byteAt _ (l.length + 1) = x1 at *
  split <;> omega

theorem s24At_field (l r : List Byte) {v : Int} (lo : -8388608 ≤ v) (hi : v ≤ 8388607) :
    s24At (l ++ leBytes 3 v ++ r) l.length = v := by
  have b0 := byteAt_field l r 3 0 v (by omega)
  have b1 := byteAt_field l r 3 1 v (by omega)
  have b2 := byteAt_field l r 3 2 v (by omega)
  simp only [pow_zero, pow_one, Nat.add_zero] at b0 b1 b2
  unfold s24At u24At u16At
  generalize byteAt _ l.length = x0, byteAt _ (l.length + 1) = x1, byteAt _ (l.length + 2) = x2 at *
  split <;> omega

theorem u8At_field (l r : List Byte) {v : Nat} (hi : v ≤ 255) : byteAt (l ++ leBytes 1 v ++ r) l.length = v := by
  have b0 := byteAt_field l r 1 0 v (by omega)
  simp only [pow_zero, Nat.add_zero] at b0
  omega

theorem ofInt_byteAt (l : List Byte) (i : Nat) (v : Int) (hv : v % 256 = byteAt l i) :
    (BitVec.ofInt 8 v : Byte) = l.getD i 0 := by
  refine BitVec.eq_of_toNat_eq ?_
  have := toNat_ofInt_byte v
  unfold byteAt at hv
  omega

/-- A field read at an offset has the bytes that stand there (R194). -/
theorem leBytes_byteAt (l : List Byte) (i : Nat) : leBytes 1 (byteAt l i) = [l.getD i 0] := by
  have := (l.getD i 0).isLt
  rw [leBytes, leBytes, ofInt_byteAt l i _ (by unfold byteAt; omega)]

theorem leBytes_s16At (l : List Byte) (i : Nat) : leBytes 2 (s16At l i) = [l.getD i 0, l.getD (i + 1) 0] := by
  have h0 : byteAt l i < 256 := (l.getD i 0).isLt
  have h1 : byteAt l (i + 1) < 256 := (l.getD (i + 1) 0).isLt
  rw [leBytes, leBytes, leBytes, ofInt_byteAt l i, ofInt_byteAt l (i + 1)] <;>
  · unfold s16At u16At
    split <;> omega

theorem leBytes_s24At (l : List Byte) (i : Nat) :
    leBytes 3 (s24At l i) = [l.getD i 0, l.getD (i + 1) 0, l.getD (i + 2) 0] := by
  have h0 : byteAt l i < 256 := (l.getD i 0).isLt
  have h1 : byteAt l (i + 1) < 256 := (l.getD (i + 1) 0).isLt
  have h2 : byteAt l (i + 2) < 256 := (l.getD (i + 2) 0).isLt
  rw [leBytes, leBytes, leBytes, leBytes, ofInt_byteAt l i, ofInt_byteAt l (i + 1), ofInt_byteAt l (i + 2)] <;>
  · unfold s24At u24At u16At
    split <;> omega

theorem headOf_eq_some {n : Nat} {h : Head} : headOf n = some h ↔ n = headCode h := by
  match n with
  | 0 | 1 | n + 2 => cases h <;> simp [headOf, headCode]

/-- The entry that the fields of a report give. -/
def reportEntry (l : List Byte) : TrackEntry where
  station := s24At l 2
  offset := s16At l 5
  gap := byteAt l 7
  mismatch := s16At l 8
  quality := byteAt l 10

theorem parseReport_eq_some {l : List Byte} {h : Head} {e : TrackEntry} : parseReport l = some (h, e) ↔
    byteAt l 1 = headCode h ∧ e = reportEntry l ∧ xorAll l = 0 ∧ e.inRange := by
  rw [← headOf_eq_some]
  unfold parseReport
  cases headOf (byteAt l 1) with
  | none => simp
  | some k =>
    dsimp only
    rw [Option.ite_none_right_eq_some, Option.some.injEq, Prod.mk.injEq, Option.some.injEq]
    constructor
    · rintro ⟨⟨check, range⟩, rfl, rfl⟩
      exact ⟨rfl, rfl, check, range⟩
    · rintro ⟨rfl, rfl, check, range⟩
      exact ⟨⟨check, range⟩, rfl, rfl⟩

theorem byteAt_report (h : Head) (e : TrackEntry) : byteAt (reportOf h e) 1 = headCode h :=
  u8At_field [0xA5] _ (by cases h <;> decide)

theorem reportEntry_report (h : Head) {e : TrackEntry} (hr : e.inRange) : reportEntry (reportOf h e) = e := by
  obtain ⟨s0, s1, o0, o1, g1, m0, m1, q1⟩ := hr
  rw [reportOf_eq, reportBody]
  generalize xorAll _ = check
  have station := s24At_field ([0xA5] ++ leBytes 1 (headCode h)) (leBytes 2 e.offset ++ leBytes 1 e.gap ++
    leBytes 2 e.mismatch ++ leBytes 1 e.quality ++ [check]) (v := e.station) (by omega) (by omega)
  have offset := s16At_field ([0xA5] ++ leBytes 1 (headCode h) ++ leBytes 3 e.station) (leBytes 1 e.gap ++
    leBytes 2 e.mismatch ++ leBytes 1 e.quality ++ [check]) (v := e.offset) (by omega) (by omega)
  have gap := u8At_field ([0xA5] ++ leBytes 1 (headCode h) ++ leBytes 3 e.station ++ leBytes 2 e.offset)
    (leBytes 2 e.mismatch ++ leBytes 1 e.quality ++ [check]) (v := e.gap) (by omega)
  have mismatch := s16At_field ([0xA5] ++ leBytes 1 (headCode h) ++ leBytes 3 e.station ++ leBytes 2 e.offset ++
    leBytes 1 e.gap) (leBytes 1 e.quality ++ [check]) (v := e.mismatch) (by omega) (by omega)
  have quality := u8At_field ([0xA5] ++ leBytes 1 (headCode h) ++ leBytes 3 e.station ++ leBytes 2 e.offset ++
    leBytes 1 e.gap ++ leBytes 2 e.mismatch) [check] (v := e.quality) (by omega)
  simp only [List.append_assoc, List.length_append, leBytes_length, List.length_cons, List.length_nil]
    at station offset gap mismatch quality
  simp only [reportEntry, List.append_assoc, station, offset, gap, mismatch, quality]

/-- The report of an entry is read as that entry. -/
theorem parseReport_reportOf (h : Head) {e : TrackEntry} (hr : e.inRange) : parseReport (reportOf h e) = some (h, e) :=
  parseReport_eq_some.mpr ⟨byteAt_report h e, (reportEntry_report h hr).symm, (xorAll_check _ _).mpr rfl, hr⟩

/-- What is read as an entry is that entry's report. -/
theorem reportOf_of_parse {l : List Byte} {h : Head} {e : TrackEntry} (hl : l.length = 12) (hs : l.head? = some 0xA5)
    (hp : parseReport l = some (h, e)) : l = reportOf h e := by
  obtain ⟨head, rfl, check, -⟩ := parseReport_eq_some.mp hp
  obtain ⟨body, last, rfl⟩ : ∃ body last, l = body ++ [last] := ⟨_, _, (List.dropLast_append_getLast (List.ne_nil_of_length_pos (by omega))).symm⟩
  have bytes : reportBody h (reportEntry (body ++ [last])) = body := by
    rw [reportBody, ← head, reportEntry, leBytes_byteAt, leBytes_byteAt, leBytes_byteAt, leBytes_s16At, leBytes_s16At,
      leBytes_s24At]
    have eleven : body.length = 11 := by simpa using hl
    clear hl check head
    match body, eleven with
    | [b0, b1, b2, b3, b4, b5, b6, b7, b8, b9, b10], _ => simpa [eq_comm] using hs
  rw [reportOf_eq, bytes, ← (xorAll_check body last).mp check]

/-! ## The acceptance tests (R111) -/

theorem takesReports_eq (q : Sequencer) : takesReports q =
    ((q.state == .approach && q.direction == .forward) || q.state == .spinup || q.state.inMaterial) := by
  unfold takesReports
  cases q.state <;> simp [HeadState.inMaterial]

theorem countHead_eq (h : Head) (f : HeadCounters → HeadCounters) {s : State} (hp : s.present h = true) :
    countHead h f s = s.onLog h fun l => { l with counters := f l.counters } := if_pos hp

theorem acceptReport_bad {l : List Byte} {s : State}
    (hb : ∀ h e, parseReport l = some (h, e) → s.present h = false) : acceptReport l s = countBadReport s := by
  unfold acceptReport
  split
  · next h e hp => rw [hb h e hp]; rfl
  · rfl

theorem acceptReport_entry {l : List Byte} {s : State} {h : Head} {e : TrackEntry} (hl : parseReport l = some (h, e))
    (hp : s.present h = true) : acceptReport l s = acceptEntry h e s := by
  simp [acceptReport, hl, hp]

/-- Settles O40: the characters of an in-range entry are read as that entry and no others are, and the tests of
`acceptEntry` stand in the order of R111. -/
theorem trackReportAccepted : Obligations.TrackReportAccepted := by
  intro kept rest s hr hs idle
  have characters : s.tracker.kept = kept := by
    rcases hs with ⟨hs, rfl⟩ | hs <;> rw [hs] <;> rfl
  have unit (h : Head) : idle.head h = s.head h := by cases h <;> rfl
  have there (h : Head) : idle.present h = s.present h := by cases h <;> rfl
  have arrives (hl : (kept ++ rest).length = 12) (hh : (kept ++ rest).head? = some 0xA5) :
      exec (.trackReportArrival rest) s = .next (acceptReport (kept ++ rest) idle) :=
    (running_negated _ s hr).trans (by rw [takeReportArrival_whole characters hl hh])
  refine ⟨fun hl hh bad => ?_, fun h e range hp report => ?_⟩
  · have other (h : Head) (e : TrackEntry) (parsed : parseReport (kept ++ rest) = some (h, e)) : idle.present h = false :=
      (there h).trans (bad h e (parseReport_eq_some.mp parsed).2.2.2 (reportOf_of_parse hl hh parsed))
    exact (arrives hl hh).trans (by rw [acceptReport_bad other]; rfl)
  · intro q track counted
    have length : (reportOf h e).length = 12 := by simp [reportOf_eq, reportBody]
    have counts (f : HeadCounters → HeadCounters) : counted f = .next (countHead h f idle) := by
      rw [countHead_eq h f ((there h).trans hp)]
    have joins : (idle.onTrack h fun t => { t with queue := t.queue ++ [e] }).present h = true :=
      (onTrack_present ..).trans ((there h).trans hp)
    rw [arrives (by rw [report, length]) (by rw [report]; rfl), report,
      acceptReport_entry (parseReport_reportOf h range) ((there h).trans hp), acceptEntry]
    simp only [counts, takesReports_eq, ← countHead_eq h (fun c => { c with trackAccepted := bump c.trackAccepted }) joins,
      unit, apply_ite (Host.Outcome.next (φ := Fault) (ρ := Refusal)), q, track, Config.lookaheadCapacity]

end Sys2Proof.Machine
namespace Sys2Proof.Machine

/-! ## The tracking unit at a sample that ends a calibration (R115, R116, R156) -/

/-- Head A in CALIBRATING with one entry in its lookahead queue, its calibration begun in EXIT: a state that no run
reaches, since CALIBRATE is taken in CAL_DUE, READY and INTERRUPTED alone (R153, log 25). -/
def calibratingFromExit : State :=
  { State.reset with unitA := { HeadUnit.powerOn with
      seq := { Sequencer.powerOn with state := .calibrating, cal := ⟨some .exit, 0, 0, 0, 0⟩ }
      track := { Tracking.powerOn with queue := [⟨10, 0, 0, 0, 9⟩] } } }

/-- A sample whose FORCE input is open, which aborts a calibration (R156). -/
def openForce : SampleInput :=
  ⟨⟨0, false⟩, ⟨0, true⟩, ⟨0, true⟩, ⟨0, false, true⟩, true, false, true, true, true⟩

/-- The abort brings the head back to EXIT; its entry, ahead of the tool, stays in the queue. -/
theorem calibratingFromExit_sample :
    let t := sampleHead .a openForce ⟨[], [], false, false⟩ calibratingFromExit
    t.headState .a = .exit ∧ (t.head .a).track.queue = [⟨10, 0, 0, 0, 9⟩] := ⟨rfl, rfl⟩

/-- Refutes O45: its second part takes every sample that ends in EXIT for an entry to EXIT, which empties the queue (R116).
A calibration that is aborted goes back to its origin state and leaves the queue; nothing in the statement rules out the
origin EXIT. -/
theorem not_trackingWorksAtSample : ¬ Obligations.TrackingWorksAtSample := by
  intro both
  obtain ⟨t, ht, works⟩ := both.2 .a openForce ⟨[], [], false, false⟩ [] [⟨10, 0, 0, 0, 9⟩] calibratingFromExit rfl rfl rfl rfl
  obtain ⟨exits, stays⟩ := calibratingFromExit_sample
  cases (running_negated _ calibratingFromExit rfl).symm.trans ht
  have track := (works nofun (.inl rfl)).1 rfl
  rw [exits] at track
  rw [track] at stays
  cases stays

end Sys2Proof.Machine

namespace Sys2Proof.Machine
open Relation

/-! ## Every step of the work of a head sample

`SampleStep` lists what the pieces of work of a sample do to the state, in whatever state the sample found the head;
`SampleRun` says that a piece of work is made of such steps alone. What a sample leaves is then checked once, on the
steps. The trim of the lookahead queue (R115) is no such step: it comes once in a sample, at the tracking unit's work. -/

/-- One step of the work of a sample that found its head in the state `found`. -/
inductive SampleStep (h : Head) (found : HeadState) : State → State → Prop
  | creates (s : State) (b : RecordBody) (co : Bool) : SampleStep h found s (createRecord h b co s)
  | counts (s : State) (f : HeadCounters → HeadCounters) (hf : ∀ c, (f c).sensorFaults = c.sensorFaults) :
      SampleStep h found s (countHead h f s)
  | logs (s : State) (f : HeadLog → HeadLog) (hf : ∀ l, (f l).queue = l.queue ∧ (f l).counters = l.counters) :
      SampleStep h found s (s.onLog h f)
  | ticks (s : State) : SampleStep h found s s.tick
  | plans (s : State) (f : PlanStore → PlanStore) : SampleStep h found s (s.onPlan h f)
  | regulates (s : State) (f : Regulator → Regulator) : SampleStep h found s (s.onReg h f)
  | steers (s : State) (f : Tracking → Tracking)
      (hf : ∀ x, (f x).queue = x.queue ∧ (f x).toolStation = x.toolStation) : SampleStep h found s (s.onTrack h f)
  | empties (s : State) : SampleStep h found s (emptyTrack h s)
  | sequences (s : State) (f : Sequencer → Sequencer) (hf : ∀ q, (f q).originTaken = q.originTaken) :
      SampleStep h found s (s.onSeq h f)
  | enters (s : State) (st : HeadState) : SampleStep h found s (setHeadState h st s)
  /-- A calibration that succeeds sets the FORCE offset (R155). -/
  | offsets (s : State) (v : Int) (hc : found = .calibrating) :
      SampleStep h found s (s.onFront h fun f => { f with force := { f.force with offset := v } })

/-- A run of such steps. -/
structure SampleRun (h : Head) (found : HeadState) (s t : State) : Prop where
  steps : ReflTransGen (SampleStep h found) s t

section
variable {h : Head} {found : HeadState} {s t u : State}

theorem SampleRun.refl (h : Head) (found : HeadState) (s : State) : SampleRun h found s s := ⟨.refl⟩

theorem SampleRun.trans (v : SampleRun h found s t) (w : SampleRun h found t u) : SampleRun h found s u :=
  ⟨v.steps.trans w.steps⟩

theorem SampleRun.tail (w : SampleRun h found s t) (x : SampleStep h found t u) : SampleRun h found s u :=
  ⟨w.steps.tail x⟩

theorem SampleRun.of_ite {c : Prop} [Decidable c] {x y : State} (hx : c → SampleRun h found s x)
    (hy : ¬c → SampleRun h found s y) : SampleRun h found s (if c then x else y) := by
  split
  · next hc => exact hx hc
  · next hc => exact hy hc

theorem SampleRun.creates (w : SampleRun h found s t) (b : RecordBody) (co : Bool) :
    SampleRun h found s (createRecord h b co t) := w.tail (.creates t b co)
theorem SampleRun.counts (w : SampleRun h found s t) (f : HeadCounters → HeadCounters)
    (hf : ∀ c, (f c).sensorFaults = c.sensorFaults) :
    SampleRun h found s (countHead h f t) := w.tail (.counts t f hf)
theorem SampleRun.logs (w : SampleRun h found s t) (f : HeadLog → HeadLog)
    (hf : ∀ l, (f l).queue = l.queue ∧ (f l).counters = l.counters) : SampleRun h found s (t.onLog h f) :=
  w.tail (.logs t f hf)
theorem SampleRun.ticks (w : SampleRun h found s t) : SampleRun h found s t.tick := w.tail (.ticks t)
theorem SampleRun.onPlan (w : SampleRun h found s t) (f : PlanStore → PlanStore) :
    SampleRun h found s (t.onPlan h f) := w.tail (.plans t f)
theorem SampleRun.onReg (w : SampleRun h found s t) (f : Regulator → Regulator) :
    SampleRun h found s (t.onReg h f) := w.tail (.regulates t f)
theorem SampleRun.onTrack (w : SampleRun h found s t) (f : Tracking → Tracking)
    (hf : ∀ x, (f x).queue = x.queue ∧ (f x).toolStation = x.toolStation) : SampleRun h found s (t.onTrack h f) :=
  w.tail (.steers t f hf)
theorem SampleRun.empties (w : SampleRun h found s t) : SampleRun h found s (emptyTrack h t) := w.tail (.empties t)
theorem SampleRun.onSeq (w : SampleRun h found s t) (f : Sequencer → Sequencer)
    (hf : ∀ q, (f q).originTaken = q.originTaken) : SampleRun h found s (t.onSeq h f) :=
  w.tail (.sequences t f hf)
theorem SampleRun.enters (w : SampleRun h found s t) (st : HeadState) : SampleRun h found s (setHeadState h st t) :=
  w.tail (.enters t st)

/-! ### The shared operations -/

theorem SampleRun.reports (w : SampleRun h found s t) (b : SegmentRef → RecordBody) :
    SampleRun h found s (reportInForce h b t) := by
  unfold reportInForce
  split
  · exact w.creates _ _
  · exact w.ticks.creates _ _

theorem SampleRun.follows (w : SampleRun h found s t) : SampleRun h found s (followSpindle h t) := by
  unfold followSpindle
  split
  · exact w.onSeq _ fun _ => by rfl
  · exact (w.onSeq _ fun _ => by rfl).ticks

theorem SampleRun.interrupts (w : SampleRun h found s t) (c : Cause) : SampleRun h found s (interruptHead h c t) := by
  unfold interruptHead
  refine .of_ite (fun _ => ?_) fun _ => w
  have caused := w.onSeq (fun q => { q with cause := some c, interruptStation := t.toolStation h, rampAcc := 499 })
    fun _ => by rfl
  have entered := (caused.enters .interrupting).onPlan fun p => { p with starved := none }
  unfold reportInterrupt
  refine SampleRun.counts ?_ _ fun _ => by rfl
  split
  · exact entered.creates _ _
  · exact entered.ticks.creates _ _

theorem SampleRun.ends (w : SampleRun h found s t) : SampleRun h found s (endStart h t) := by
  have stopped := w.onSeq (fun q => { q with spindle := 0 }) fun _ => by rfl
  unfold endStart
  dsimp only
  split <;> exact (stopped.enters _).empties

theorem SampleRun.fails (w : SampleRun h found s t) (r : StartFailure) : SampleRun h found s (failStart h r t) :=
  (w.creates _ _).ends

/-! ### The plan store's work -/

theorem SampleRun.starves (w : SampleRun h found s t) (g : Segment) : SampleRun h found s (starve h g t) :=
  (w.onPlan _).creates _ _

theorem SampleRun.allows (w : SampleRun h found s t) : SampleRun h found s (checkAllowance h t) := by
  unfold checkAllowance
  split
  · exact .of_ite (fun _ => w.interrupts _) fun _ => w
  · exact w

theorem SampleRun.completes (w : SampleRun h found s t) (g : Segment) (rest : List Segment) :
    SampleRun h found s (completeSegment h g rest t) := by
  unfold completeSegment
  exact (((w.onPlan _).creates _ _).counts _ fun _ => by rfl).onReg _

theorem SampleRun.exits (w : SampleRun h found s t) (g : Segment) : SampleRun h found s (enterExit h g t) :=
  (((((w.creates _ _).counts _ fun _ => by rfl).onSeq _ fun _ => by rfl).enters _).onPlan _).empties

theorem SampleRun.completesAll (n : Nat) (w : SampleRun h found s t) : SampleRun h found s (completeSegments n h t) := by
  induction n generalizing t with
  | zero => exact w
  | succ n ih =>
    rw [completeSegments]
    split
    · exact w
    · next g rest _ =>
      have completed := w.completes g rest
      refine .of_ite (fun _ => w) fun _ => ?_
      dsimp only
      split
      · exact completed.exits g
      · exact .of_ite (fun _ => .of_ite (fun _ => completed) fun _ => (completed.starves g).allows) fun _ => ih completed

theorem SampleRun.plans (w : SampleRun h found s t) (st : HeadState) : SampleRun h found s (planWork h st t) := by
  have checked : SampleRun h found s (if st = .weld ∧ t.headState h = .weld then stationCheck h t else t) :=
    .of_ite (fun _ => w.completesAll _) fun _ => w
  exact .of_ite (fun _ => (checked.onPlan _).allows) fun _ => checked

theorem SampleRun.reenters (w : SampleRun h found s t) : SampleRun h found s (reentryCheck h t) := by
  refine .of_ite (fun _ => ?_) fun _ => w.completesAll _
  split
  · exact w.starves _
  · exact w

/-! ### The regulator, the log and the checks -/

theorem SampleRun.excursions (w : SampleRun h found s t) (g : Segment) (split : Bool) :
    SampleRun h found s (reportExcursion h g split t) :=
  .of_ite (fun _ => (w.onReg _).onReg _) fun _ => ((w.onReg _).creates _ _).counts _ fun _ => by rfl

theorem SampleRun.regulates (w : SampleRun h found s t) (st : HeadState) (split : Bool) :
    SampleRun h found s (regulatorWork h st split t) := by
  refine .of_ite (fun _ => ?_) fun _ => w
  unfold regulatorSample
  dsimp only
  split
  · exact w
  · next g _ =>
    have moved := (w.onReg fun _ => (regulation h g t).1).onSeq (fun q => { q with depth := (regulation h g t).2 })
      fun _ => by rfl
    have counted : SampleRun h found s (regulated h g t) := .of_ite (fun _ => moved.counts _ fun _ => by rfl) fun _ => moved
    exact .of_ite (fun _ => counted.excursions _ _) fun _ => counted

theorem SampleRun.limits (w : SampleRun h found s t) (st : HeadState) (split : Bool) :
    SampleRun h found s (forceRunWork h st split t) :=
  .of_ite (fun _ => (w.onReg _).interrupts _) fun _ => w.onReg _

theorem SampleRun.samples (w : SampleRun h found s t) (st : HeadState) (gapSlow starved : Bool) :
    SampleRun h found s (logWork h st gapSlow starved t) := by
  have added := w.logs (fun l => { l with acc := l.acc.add ((t.head h).sampleValues gapSlow starved) })
    fun _ => by exact ⟨rfl, rfl⟩
  refine .of_ite (fun _ => .of_ite (fun _ => ?_) fun _ => added) fun _ => w
  unfold emitAtMark
  dsimp only
  split
  · exact .of_ite (fun _ => (added.creates _ _).logs _ fun _ => by exact ⟨rfl, rfl⟩) fun _ => added
  · exact added

theorem SampleRun.graces (w : SampleRun h found s t) (st : HeadState) (split : Bool) :
    SampleRun h found s (graceWork h st split t) := .of_ite (fun _ => w.interrupts _) fun _ => w

theorem SampleRun.checks (w : SampleRun h found s t) (st : HeadState) (c : FaultCheck) :
    SampleRun h found s (checkWork h st c t) := by
  unfold checkWork
  refine .of_ite (fun _ => w) fun _ => .of_ite (fun _ => w.interrupts _) fun _ => ?_
  split
  · exact .of_ite (fun _ => .of_ite (fun _ => w.fails _) fun _ => w) fun _ => w
  · exact w

/-! ### The tracking unit's work -/

theorem SampleRun.checksGap (w : SampleRun h found s t) (g : Segment) (e : TrackEntry) :
    SampleRun h found s (checkGap h g e t) := by
  unfold checkGap reportGap
  refine .of_ite (fun _ => ?_) fun _ => w.onTrack _ fun _ => by exact ⟨rfl, rfl⟩
  split
  · exact .of_ite (fun _ => w) fun _ => (w.onTrack _ fun _ => by exact ⟨rfl, rfl⟩).creates _ _
  · exact w.creates _ _

theorem SampleRun.checksMismatch (w : SampleRun h found s t) (g : Segment) (e : TrackEntry) :
    SampleRun h found s (checkMismatch h g e t) := by
  unfold checkMismatch
  exact .of_ite (fun _ => .of_ite (fun _ => w) fun _ => (w.onTrack _ fun _ => by exact ⟨rfl, rfl⟩).creates _ _)
    fun _ => w.onTrack _ fun _ => by exact ⟨rfl, rfl⟩

theorem SampleRun.activates (w : SampleRun h found s t) (g : Segment) (e : TrackEntry) (first : Bool) :
    SampleRun h found s (activate h g e first t) :=
  have gap := (w.onTrack (fun x => { x with activeFirst := true }) fun _ => by exact ⟨rfl, rfl⟩).checksGap g e
  SampleRun.checksMismatch (.of_ite (fun _ => gap.interrupts _) fun _ => gap) g e

theorem SampleRun.slews (w : SampleRun h found s t) (on : Bool) (e : Option TrackEntry) :
    SampleRun h found s (steer h on e t) := by
  unfold steer
  exact w.onTrack _ fun _ => by exact ⟨rfl, rfl⟩

theorem SampleRun.checksLoss (w : SampleRun h found s t) (g : Segment) (reference : Int) :
    SampleRun h found s (checkLoss h g reference t) :=
  have taken := w.onTrack (fun x => { x with lossDistance := t.toolStation h - reference }) fun _ => by exact ⟨rfl, rfl⟩
  .of_ite (fun _ => ((taken.creates _ _).counts _ fun _ => by rfl).interrupts _) fun _ => taken

theorem SampleRun.tracksWelding (w : SampleRun h found s t) (weld first : Bool) (g : Segment) :
    SampleRun h found s (trackWelding h weld first g t) := by
  unfold trackWelding
  extract_lets due s1 s2 s3
  have activated : SampleRun h found s s1 := by
    unfold s1
    cases due with
    | some e => exact w.activates g e first
    | none => exact w
  have tested : SampleRun h found s s3 :=
    .of_ite (fun _ => (activated.slews _ _).checksLoss _ _) fun _ => activated.slews _ _
  exact .of_ite (fun _ => tested.interrupts _) fun _ => tested

/-- The tracking unit's work trims a queue first, the one that stands or the one that the sample found (R115, log 42). -/
theorem trackWork_steps (h : Head) (found : HeadState) (read : HeadUnit) (first : Bool) (s : State) :
    ∃ f, (f = Tracking.trim ∨ f = fun _ => read.track.trim) ∧
      SampleRun h found (s.onTrack h f) (trackWork h read first s) := by
  have trimmed := SampleRun.refl h found (s.onTrack h Tracking.trim)
  have left := SampleRun.refl h found (s.onTrack h fun _ => read.track.trim)
  unfold trackWork
  dsimp only
  split
  · split
    · refine ⟨_, .inl rfl, ?_⟩
      split
      · exact trimmed.tracksWelding _ _ _
      · exact trimmed
    · refine ⟨_, .inr rfl, ?_⟩
      unfold trackAfterLeaving
      extract_lets s1 s2
      have worked : SampleRun h found s1 s2 := by
        unfold s2
        split
        · exact left.tracksWelding _ _ _
        · exact left
      exact .of_ite (fun _ => worked) fun _ => worked.empties
  · exact ⟨_, .inl rfl, .of_ite (fun _ => trimmed.slews _ _) fun _ => trimmed⟩

/-! ### The sequencer's work -/

theorem SampleRun.endsCalibration (w : SampleRun h found s t) (st : HeadState) :
    SampleRun h found s (endCalibration h st t) := (w.onSeq _ fun _ => by rfl).enters _

theorem SampleRun.judges (w : SampleRun h found s t) (hc : found = .calibrating) :
    SampleRun h found s (judgeCalibration h t) :=
  .of_ite (fun _ => (w.creates _ _).endsCalibration _) fun _ =>
    .of_ite (fun _ => (w.creates _ _).endsCalibration _) fun _ =>
      (((w.tail (.offsets _ _ hc)).onSeq _ fun _ => by rfl).creates _ _).endsCalibration _

theorem SampleRun.calibrates (w : SampleRun h found s t) (hc : found = .calibrating) (split : Bool) :
    SampleRun h found s (calibrationSample h split t) :=
  have added := w.onSeq (fun q => { q with cal := q.cal.add (t.head h).front.force.raw }) fun _ => by rfl
  .of_ite (fun _ => (w.creates _ _).endsCalibration _) fun _ =>
    .of_ite (fun _ => .of_ite (fun _ => added.judges hc) fun _ => added) fun _ => w

theorem SampleRun.findsAtSpeed (w : SampleRun h found s t) : SampleRun h found s (findAtSpeed h t) :=
  .of_ite (fun _ => (w.onSeq _ fun _ => by rfl).enters _) fun _ => w

theorem SampleRun.findsSpinupTimeout (w : SampleRun h found s t) : SampleRun h found s (findSpinupTimeout h t) :=
  .of_ite (fun _ => w.fails _) fun _ => w

theorem SampleRun.findsPlungeDone (w : SampleRun h found s t) : SampleRun h found s (findPlungeDone h t) :=
  .of_ite (fun _ => ((w.reports _).onSeq _ fun _ => by rfl).enters _) fun _ => w

theorem SampleRun.findsPlungeTimeout (w : SampleRun h found s t) : SampleRun h found s (findPlungeTimeout h t) :=
  .of_ite (fun _ => w.interrupts _) fun _ => w

theorem SampleRun.welds (w : SampleRun h found s t) : SampleRun h found s (enterWeld h t) := by
  have entered : SampleRun h found s (weldEntered h t) := by
    unfold weldEntered restartAccumulator
    exact (((w.onSeq _ fun _ => by rfl).onReg Regulator.prepared).logs _ fun _ => by exact ⟨rfl, rfl⟩).enters _
  rw [enterWeld_eq]
  exact .of_ite (fun _ => entered.reenters) fun _ => entered

theorem SampleRun.findsDwellElapsed (w : SampleRun h found s t) : SampleRun h found s (findDwellElapsed h t) :=
  .of_ite (fun _ => w.welds) fun _ => w

theorem SampleRun.findsExitRetract (w : SampleRun h found s t) : SampleRun h found s (findExitRetract h t) :=
  .of_ite (fun _ => (w.onSeq _ fun _ => by rfl).enters _) fun _ => w

theorem SampleRun.findsInterruptingRetract (w : SampleRun h found s t) :
    SampleRun h found s (findInterruptingRetract h t) :=
  .of_ite (fun _ => ((w.onSeq _ fun _ => by rfl).enters _).empties) fun _ => w

theorem SampleRun.sequences (w : SampleRun h (t.headState h) s t) (split : Bool) :
    SampleRun h (t.headState h) s (sequenceWork h split t) := by
  have take {found : HeadState} {x y : State} (vx : SampleRun h found s x) (vy : SampleRun h found s y) :
      SampleRun h found s (if split then x else y) := .of_ite (fun _ => vx) fun _ => vy
  unfold sequenceWork
  dsimp only
  cases hs : t.headState h <;> dsimp only <;> rw [hs] at w
  case uncommissioned | commissioning | calDue | ready | interrupted =>
    unfold raiseTool
    split
    · exact w
    · exact w.onSeq _ fun q => by dsimp only; split <;> [split <;> rfl; rfl]
  case calibrating => exact w.calibrates rfl split
  case approach => exact w
  case spinup =>
    have timed := w.onSeq (fun q => { q with spinupTimer := q.spinupTimer - 2 }) fun _ => by rfl
    exact .of_ite (fun _ => take timed timed.findsAtSpeed) fun _ => take timed timed.findsSpinupTimeout
  case plunge =>
    have moved : SampleRun h .plunge s (plungeStep h (followSpindle h t)) := by
      unfold plungeStep
      exact w.follows.onSeq _ fun q => by dsimp only; split <;> rfl
    exact .of_ite (fun _ => take moved moved.findsPlungeDone) fun _ => take moved moved.findsPlungeTimeout
  case dwell =>
    have timed := w.follows.onSeq (fun q => { q with dwellTimer := q.dwellTimer - 2 }) fun _ => by rfl
    exact take timed timed.findsDwellElapsed
  case weld | pause => exact w.follows
  case exit =>
    have moved : SampleRun h .exit s (retractStep h t) := by
      unfold retractStep
      exact w.onSeq _ fun _ => by rfl
    exact take moved moved.findsExitRetract
  case interrupting =>
    have moved : SampleRun h .interrupting s (retractStep h t) := by
      unfold retractStep
      exact w.onSeq _ fun _ => by rfl
    exact take moved moved.findsInterruptingRetract

/-- Every piece of work but the tracking unit's. -/
theorem placedAct_steps (read : HeadUnit) (o : SampleOrder) {a : SampleAct} (rest : List SampleAct) (s : State)
    (ha : a ≠ .track) : SampleRun h read.seq.state s (placedAct h read o a rest s) := by
  have start := SampleRun.refl h read.seq.state s
  cases a with
  | track => exact absurd rfl ha
  | regulator => exact start.regulates ..
  | forceRun => exact start.limits ..
  | station => exact start.plans _
  | log => exact start.samples ..
  | grace => exact start.graces ..
  | check c => exact start.checks ..
  | sequence =>
    show SampleRun h read.seq.state s (sequencerWork h read.seq.state o.split s)
    unfold sequencerWork
    split
    · next e => rw [← e] at start ⊢; exact start.sequences _
    · exact start

end

end Sys2Proof.Machine

namespace Sys2Proof.Machine

/-! ## What the work of a head sample leaves as it is (R127, R137) -/

/-- What the work of a sample leaves: all but the head's sequencer, plan, regulator, tracking and log items, the FORCE
offset of a calibration, the governor's items, and the sequencer's, the governor's and the log's items of the other
head. -/
structure SampleKept (h : Head) (found : HeadState) (s t : State) : Prop where
  box : BoxKept s t
  gantry : t.gantry = s.gantry
  other : t.head h.other = { s.head h.other with
    seq := (t.head h.other).seq, travel := (t.head h.other).travel, log := (t.head h.other).log }
  profiles : (t.head h).profiles = (s.head h).profiles
  drives : (t.head h).drives = (s.head h).drives
  origin : (t.head h).seq.originTaken = (s.head h).seq.originTaken
  station : (t.head h).track.toolStation = (s.head h).track.toolStation
  sensorFaults : (t.head h).log.counters.sensorFaults = (s.head h).log.counters.sensorFaults
  records : (s.head h).log.queue <+: (t.head h).log.queue
  front : (t.head h).front = { (s.head h).front with
    force := { (s.head h).front.force with offset := (t.head h).front.force.offset } }
  offset : found ≠ .calibrating → (t.head h).front.force.offset = (s.head h).front.force.offset

section
variable {h : Head} {found : HeadState} {s t u : State}

theorem SampleKept.refl (h : Head) (found : HeadState) (s : State) : SampleKept h found s s :=
  ⟨.refl s, rfl, rfl, rfl, rfl, rfl, rfl, rfl, List.prefix_rfl, rfl, fun _ => rfl⟩

theorem SampleKept.trans (a : SampleKept h found s t) (b : SampleKept h found t u) : SampleKept h found s u where
  box := a.box.trans b.box
  gantry := b.gantry.trans a.gantry
  other := b.other.trans (by rw [a.other])
  profiles := b.profiles.trans a.profiles
  drives := b.drives.trans a.drives
  origin := b.origin.trans a.origin
  station := b.station.trans a.station
  sensorFaults := b.sensorFaults.trans a.sensorFaults
  records := a.records.trans b.records
  front := b.front.trans (by rw [a.front])
  offset hc := (b.offset hc).trans (a.offset hc)

/-- What leaves the other head, and of this one the items of a sample's reading. -/
theorem SampleKept.of_other (box : BoxKept s t) (gantry : t.gantry = s.gantry) (other : t.head h.other = s.head h.other)
    (profiles : (t.head h).profiles = (s.head h).profiles) (drives : (t.head h).drives = (s.head h).drives)
    (origin : (t.head h).seq.originTaken = (s.head h).seq.originTaken)
    (station : (t.head h).track.toolStation = (s.head h).track.toolStation)
    (sensorFaults : (t.head h).log.counters.sensorFaults = (s.head h).log.counters.sensorFaults)
    (records : (s.head h).log.queue <+: (t.head h).log.queue) (front : (t.head h).front = (s.head h).front) :
    SampleKept h found s t :=
  ⟨box, gantry, by rw [other], profiles, drives, origin, station, sensorFaults, records, by rw [front],
    fun _ => by rw [front]⟩

theorem countHead_sensorFaults (h : Head) (f : HeadCounters → HeadCounters)
    (hf : ∀ c, (f c).sensorFaults = c.sensorFaults) (s : State) :
    ((countHead h f s).head h).log.counters.sensorFaults = (s.head h).log.counters.sensorFaults := by
  unfold countHead
  split
  · simp [hf]
  · rfl

theorem createRecord_sensorFaults (h : Head) (b : RecordBody) (co : Bool) (s : State) :
    ((createRecord h b co s).head h).log.counters.sensorFaults = (s.head h).log.counters.sensorFaults := by
  obtain ⟨n, e⟩ := createRecord_counters h h b co s
  rw [e]

/-- An entry to a state takes the engagement and the HOLD: the governor, and the other head's PAUSE (R85, R102). -/
theorem setHeadState_kept (st : HeadState) (s : State) : SampleKept h found s (setHeadState h st s) where
  box := by constructor <;> simp
  gantry := by simp
  other := by
    have items (u v : HeadUnit) (e : v.plan = u.plan ∧ v.reg = u.reg ∧ v.track = u.track ∧ v.front = u.front ∧
        v.drives = u.drives ∧ v.applied = u.applied ∧ v.profiles = u.profiles) :
        v = { u with seq := v.seq, travel := v.travel, log := v.log } := by
      cases u
      cases v
      simp_all
    exact items _ _ (by simp)
  profiles := by simp
  drives := by simp
  origin := by simp [setHeadState_self]
  station := by simp
  sensorFaults := by simp [setHeadState_self]
  records := (setHeadState_grown h st s).queues h
  front := by simp
  offset := by simp

theorem SampleStep.kept (w : SampleStep h found s t) : SampleKept h found s t := by
  cases w with
  | creates b co =>
    exact .of_other (by constructor <;> simp) (by simp) (by simp) (by simp) (by simp) (by simp) (by simp)
      (createRecord_sensorFaults ..) (createRecord_grows ..) (by simp)
  | counts f hf =>
    exact .of_other (by constructor <;> simp) (by simp) (by simp) (by simp) (by simp) (by simp) (by simp)
      (countHead_sensorFaults h f hf s) (by simp) (by simp)
  | enters st => exact setHeadState_kept st s
  | offsets v hc =>
    exact ⟨by constructor <;> simp, by simp, by simp, by simp, by simp, by simp, by simp, by simp, by simp, by simp,
      fun n => absurd hc n⟩
  | logs f hf | steers f hf | sequences f hf =>
    exact .of_other (by constructor <;> simp) (by simp) (by simp) (by simp) (by simp) (by simp [hf]) (by simp [hf])
      (by simp [hf]) (by simp [hf]) (by simp)
  | ticks | plans | regulates | empties =>
    exact .of_other (by constructor <;> simp) (by simp) (by simp) (by simp) (by simp) (by simp) (by simp [emptyTrack])
      (by simp) (by simp) (by simp)

theorem SampleRun.kept (w : SampleRun h found s t) : SampleKept h found s t := by
  obtain ⟨w⟩ := w
  induction w with
  | refl => exact .refl ..
  | tail _ x ih => exact ih.trans x.kept

/-- The trim leaves the tool station (R115). -/
theorem SampleKept.onTrack (w : SampleKept h found s t) {f : Tracking → Tracking}
    (hf : (f (t.head h).track).toolStation = (t.head h).track.toolStation) : SampleKept h found s (t.onTrack h f) :=
  w.trans (.of_other (by constructor <;> simp) (by simp) (by simp) (by simp) (by simp) (by simp) (by simp [hf])
    (by simp) (by simp) (by simp))

/-- What a sample has read stays over all its work, the FORCE offset of a calibration aside. -/
theorem sampleActs_kept (h : Head) (o : SampleOrder) (l : List SampleAct) (s : State) :
    SampleKept h (s.headState h) s (sampleActs h (s.head h) o l s) := by
  refine sampleActs_all (R := SampleKept h (s.headState h)) h _ o l (.refl ..) fun a _ rest x w => ?_
  by_cases ha : a = .track
  · subst ha
    obtain ⟨f, hf, run⟩ := trackWork_steps h (s.headState h) (s.head h) o.gapFirst x
    refine (w.onTrack ?_).trans run.kept
    rcases hf with rfl | rfl
    · rfl
    · exact w.station.symm
  · exact w.trans (placedAct_steps (s.head h) o rest x ha).kept

end

/-! ## The conversions of a head sample (R127, R128, R130, R132, R133) -/

/-- One of a head's channels after its conversion, with its grace count. -/
def convertedChannel (i : SampleInput) (st : HeadState) (c : HeadChannel) (old : Channel) : Channel :=
  { convert (scaleOf c) (readingOf i c) (faultOf i c) old with grace := graceAfter c st (faultOf i c) old }

/-- A conversion is a fault onset (R132). -/
def headOnset (i : SampleInput) (f : FrontEnd) (c : HeadChannel) : Bool := (faultOf i c).isSome && !(f.get c).fault

theorem FrontEnd.get_set (f : FrontEnd) (c k : HeadChannel) (v : Channel) :
    (f.set c v).get k = if k = c then v else f.get k := by
  cases c <;> cases k <;> rfl

/-- What the conversions of a list, each channel's once, come to. -/
structure Conversions (h : Head) (i : SampleInput) (l : List HeadChannel) (s t : State) : Prop where
  read : Converted h l.length s t
  box : BoxKept s t
  channels : ∀ c, (t.head h).front.get c =
    if c ∈ l then convertedChannel i (s.headState h) c ((s.head h).front.get c) else (s.head h).front.get c
  sensorFaults : (t.head h).log.counters.sensorFaults =
    bump^[(l.filter (headOnset i (s.head h).front)).length] (s.head h).log.counters.sensorFaults
  recorded : s.commonUsed + l.length ≤ 960 → ∀ c ∈ l, headOnset i (s.head h).front c = true →
    ∃ kind, faultOf i c = some kind ∧ Recorded h (.sensorFault (nameOf c) kind
      (convertedChannel i (s.headState h) c ((s.head h).front.get c)).raw ((s.head h).front.get c).substituteOn
      (s.headState h)) t

theorem Conversions.nil (h : Head) (i : SampleInput) (s : State) : Conversions h i [] s s :=
  ⟨.refl h s, .refl s, fun _ => rfl, rfl, fun _ _ hc => absurd hc List.not_mem_nil⟩

/-- A head whose channel has its conversion (R130). -/
def withConverted (h : Head) (i : SampleInput) (c : HeadChannel) (s : State) : State :=
  s.onFront h fun f => f.set c (convertedChannel i (s.headState h) c ((s.head h).front.get c))

theorem convertHead_calm {h : Head} {i : SampleInput} {c : HeadChannel} {s : State}
    (hc : headOnset i (s.head h).front c = false) : convertHead h i c s = withConverted h i c s := by
  unfold convertHead
  dsimp only
  split
  · next kind hf => exact if_pos (by simpa [headOnset, hf] using hc)
  · rfl

theorem convertHead_onset {h : Head} {i : SampleInput} {c : HeadChannel} {s : State} {kind : FaultKind}
    (hf : faultOf i c = some kind) (hn : ((s.head h).front.get c).fault = false) :
    convertHead h i c s = reportFault h (nameOf c) kind (convertedChannel i (s.headState h) c ((s.head h).front.get c))
      (withConverted h i c s) := by
  unfold convertHead withConverted convertedChannel
  simp [hf, hn]

theorem withConverted_channels (h : Head) (i : SampleInput) (c k : HeadChannel) (s : State) :
    ((withConverted h i c s).head h).front.get k =
      if k ∈ [c] then convertedChannel i (s.headState h) k ((s.head h).front.get k) else (s.head h).front.get k := by
  simp only [withConverted, onFront_self, FrontEnd.get_set, List.mem_singleton]
  split
  · next e => rw [e]
  · rfl

theorem convertHead_conversions (h : Head) (i : SampleInput) (c : HeadChannel) {s : State} (hp : s.present h = true) :
    Conversions h i [c] s (convertHead h i c s) := by
  have read := convertHead_converted h i c s
  have box : BoxKept s (withConverted h i c s) := by constructor <;> simp [withConverted]
  cases onset : headOnset i (s.head h).front c with
  | false =>
    rw [convertHead_calm onset] at read ⊢
    exact ⟨read, box, fun k => withConverted_channels h i c k s, by simp [onset, withConverted], by simp [onset]⟩
  | true =>
    obtain ⟨fault, fresh⟩ : (faultOf i c).isSome ∧ ((s.head h).front.get c).fault = false := by
      simpa [headOnset] using onset
    obtain ⟨kind, hf⟩ := Option.isSome_iff_exists.mp fault
    rw [convertHead_onset hf fresh] at read ⊢
    have there : (withConverted h i c s).present h = true := by simpa [withConverted] using hp
    have state : (withConverted h i c s).headState h = s.headState h := by simp [withConverted]
    have logged := reportFault_logged (nameOf c) kind (convertedChannel i (s.headState h) c ((s.head h).front.get c)) h there
    refine ⟨read, box.trans (reportFault_boxKept ..), fun k => ?_, ?_, fun room k hk _ => ?_⟩
    · rw [← withConverted_channels]
      simp [reportFault]
    · rw [logged.sensorFaults]
      simp [onset, withConverted]
    · obtain rfl := List.mem_singleton.mp hk
      refine ⟨kind, hf, ?_⟩
      rw [← state]
      exact reportFault_recorded _ kind _ h there (by simpa [withConverted] using room)

/-- The conversions of a list, each channel's once. -/
theorem conversions_each (h : Head) (i : SampleInput) {l : List HeadChannel} (hl : l.Nodup) {s : State}
    (hp : s.present h = true) : Conversions h i l s (l.foldl (fun acc c => convertHead h i c acc) s) := by
  induction l generalizing s with
  | nil => exact .nil h i s
  | cons c l ih =>
    obtain ⟨notMem, nodup⟩ := List.nodup_cons.mp hl
    have first := convertHead_conversions h i c hp
    have rest := ih nodup (s := convertHead h i c s) ((first.read.grown.present h).trans hp)
    have state : (convertHead h i c s).headState h = s.headState h := by rw [State.headState, first.read.self, State.headState]
    have stays (k : HeadChannel) (hk : k ≠ c) : ((convertHead h i c s).head h).front.get k = (s.head h).front.get k := by
      rw [first.channels, if_neg (by simpa using hk)]
    have apart (k : HeadChannel) (hk : k ∈ l) : k ≠ c := fun e => notMem (e ▸ hk)
    have onsets (k : HeadChannel) (hk : k ∈ l) :
        headOnset i ((convertHead h i c s).head h).front k = headOnset i (s.head h).front k := by
      rw [headOnset, stays k (apart k hk), headOnset]
    refine ⟨by simpa [Nat.add_comm] using first.read.trans rest.read, first.box.trans rest.box, fun k => ?_, ?_,
      fun room k hk onset => ?_⟩
    · rw [List.foldl_cons, rest.channels, state]
      by_cases e : k = c
      · subst e
        rw [if_neg notMem, first.channels, if_pos List.mem_cons_self, if_pos List.mem_cons_self]
      · rw [stays k e]
        simp [e]
    · rw [List.foldl_cons, rest.sensorFaults, first.sensorFaults, List.filter_congr onsets, ← Function.iterate_add_apply]
      cases onset : headOnset i (s.head h).front c <;> simp [onset]
    · rw [List.length_cons] at room
      rcases List.mem_cons.mp hk with rfl | mem
      · obtain ⟨kind, hf, recorded⟩ := first.recorded (by simp; omega) k List.mem_cons_self onset
        exact ⟨kind, hf, recorded.grown rest.read.grown⟩
      · have slots := first.read.grown.common
        rw [List.length_singleton] at slots
        have later := rest.recorded (by omega) k mem ((onsets k mem).trans onset)
        rwa [state, stays k (apart k mem)] at later

/-- The channels that a sample converts, in whatever order the command gives them (log 1). -/
theorem conversionOrder_perm (o : SampleOrder) : (conversionOrder o).Perm [.force, .torque, .temp, .depth] := by
  refine (List.perm_ext_iff_of_nodup (firstOccurrences_nodup ..) (by decide)).mpr fun c => ?_
  rw [mem_firstOccurrences]
  cases c <;> simp

/-- What a sample has read of its head's channels, and the fault onsets that it has counted and recorded (R130, R132). -/
structure ChannelsRead (h : Head) (i : SampleInput) (s t : State) : Prop where
  box : BoxKept s t
  channels : ∀ c, (t.head h).front.get c = convertedChannel i (s.headState h) c ((s.head h).front.get c)
  sensorFaults : (t.head h).log.counters.sensorFaults =
    bump^[([HeadChannel.force, .torque, .temp, .depth].filter (headOnset i (s.head h).front)).length]
      (s.head h).log.counters.sensorFaults
  recorded : CommonRoom s → ∀ c, headOnset i (s.head h).front c = true →
    ∃ kind, faultOf i c = some kind ∧ Recorded h (.sensorFault (nameOf c) kind
      (convertedChannel i (s.headState h) c ((s.head h).front.get c)).raw ((s.head h).front.get c).substituteOn
      (s.headState h)) t

theorem readAfter_boxKept (h : Head) (i : SampleInput) (s : State) : BoxKept s (readAfter h i s) := by
  unfold readAfter
  dsimp only
  split <;> constructor <;> simp

theorem readSample_channels (h : Head) (i : SampleInput) (o : SampleOrder) {s : State} (hp : s.present h = true) :
    ChannelsRead h i s (readSample h i o s) := by
  have converted := conversions_each h i (l := conversionOrder o) (firstOccurrences_nodup ..) hp
  have perm := conversionOrder_perm o
  have mem (c : HeadChannel) : c ∈ conversionOrder o := perm.mem_iff.mpr (by cases c <;> decide)
  rw [readSample_eq]
  generalize (conversionOrder o).foldl (fun acc c => convertHead h i c acc) s = m at converted
  have log := (readAfter_reached h i m).2.2 h
  refine ⟨converted.box.trans (readAfter_boxKept ..), fun c => ?_, ?_, fun room c onset => ?_⟩
  · rw [readAfter_self]
    exact (converted.channels c).trans (if_pos (mem c))
  · rw [log, converted.sensorFaults, (perm.filter _).length_eq]
  · have slots := room.common
    have length := perm.length_eq
    obtain ⟨kind, hf, recorded⟩ := converted.recorded (by rw [length]; simp; omega) c (mem c) onset
    exact ⟨kind, hf, by rwa [Recorded, log]⟩

/-! ## The conversion of a head's channel, clause by clause (R128, R130, R132, R133) -/

theorem analogFault_isSome (k : ChannelScale) (r : AnalogReading) :
    (analogFault k r).isSome = (!r.connected || decide (r.reading ≤ k.rawLo) || decide (k.rawHi ≤ r.reading)) := by
  unfold analogFault
  by_cases rail : r.reading ≤ k.rawLo ∨ k.rawHi ≤ r.reading
  · cases r.connected <;> simp [rail]
  · cases r.connected <;> simp [not_or.mp rail]

theorem encoderFault_isSome (r : EncoderReading) : (encoderFault r).isSome = (!r.connected || r.jumped) := by
  unfold encoderFault
  cases r.connected <;> cases r.jumped <;> rfl

/-- A reading of a well-formed sample lies on its scale (R127). -/
theorem clampInt_readingOf {i : SampleInput} (hw : i.wellFormed = true) (c : HeadChannel) :
    clampInt (scaleOf c).rawLo (scaleOf c).rawHi (readingOf i c) = readingOf i c := by
  simp only [SampleInput.wellFormed, onScale, Bool.and_eq_true, decide_eq_true_eq] at hw
  cases c <;> simp only [clampInt, scaleOf, readingOf] <;> omega

section
variable (i : SampleInput) (st : HeadState) (c : HeadChannel) (old : Channel)

theorem convertedChannel_fault :
    (convertedChannel i st c old).fault = ((faultOf i c).isSome || (c == .depth && old.fault)) := by
  cases c <;> rfl

theorem convertedChannel_valid : (convertedChannel i st c old).valid = !(faultOf i c).isSome :=
  (Option.not_isSome _).symm

theorem convertedChannel_effective : (convertedChannel i st c old).effective =
    if old.substituteOn then old.substitute
    else if (convertedChannel i st c old).fault then old.lastValid
    else max (scaleOf c).effLo (min (scaleOf c).effHi
      ((convertedChannel i st c old).raw + if old.overrideOn then old.overrideOffset else old.offset)) := by
  unfold convertedChannel convert clampInt
  cases old.overrideOn <;> rfl

theorem convertedChannel_lastValid : (convertedChannel i st c old).lastValid =
    if old.substituteOn || !(convertedChannel i st c old).fault then (convertedChannel i st c old).effective
    else old.lastValid := rfl

theorem convertedChannel_grace : (convertedChannel i st c old).grace =
    if (c = .torque ∨ c = .temp) ∧ st.inMaterial ∧ (faultOf i c).isSome ∧ !old.substituteOn then min (old.grace + 1) 250
    else 0 := by
  unfold convertedChannel graceAfter
  cases c <;> simp [Config.graceLimit, and_assoc]

end

/-! ## The settlement -/

/-- Over its work a head keeps each channel as its sample has read it, the FORCE offset of a calibration aside. -/
theorem SampleKept.channel {h : Head} {found : HeadState} {s t : State} (w : SampleKept h found s t) (c : HeadChannel) :
    (t.head h).front.get c = { (s.head h).front.get c with offset := ((t.head h).front.get c).offset } ∧
      (c ≠ .force ∨ found ≠ .calibrating → ((t.head h).front.get c).offset = ((s.head h).front.get c).offset) := by
  have front := w.front
  cases c with
  | force => exact ⟨congrArg FrontEnd.force front, fun e => w.offset (e.resolve_left (absurd rfl))⟩
  | torque | temp | depth =>
    rw [front]
    exact ⟨rfl, fun _ => rfl⟩

/-- Settles O41: the reading of the sample, in whatever order it converts, and what the work behind it leaves of that. -/
theorem headSampleConverts : Obligations.HeadSampleConverts := by
  intro h i o s hr hp hw bad onsets
  have kind (c : HeadChannel) : bad c = (faultOf i c).isSome := by
    cases c <;> simp [bad, faultOf, analogFault_isSome, encoderFault_isSome, scaleOf]
  have onset (c : HeadChannel) : (bad c && !((s.head h).front.get c).fault) = headOnset i (s.head h).front c := by
    rw [kind, headOnset]
  have fresh : onsets = [HeadChannel.force, .torque, .temp, .depth].filter (headOnset i (s.head h).front) :=
    List.filter_congr fun c _ => onset c
  have read := readSample_read h i o s
  have heard := readSample_channels h i o hp
  have kept : SampleKept h (s.headState h) (readSample h i o s) (sampleWorked h i o s) :=
    read.headState ▸ sampleActs_kept h o (actOrder o) (readSample h i o s)
  refine ⟨_, exec_headSample h i o s hr hp, ?_⟩
  obtain ⟨x, hx⟩ : ∃ x, x = sampleWorked h i o s := ⟨_, rfl⟩
  rw [← hx] at kept ⊢
  have box : BoxKept s (presentOutputs h x) :=
    (heard.box.trans kept.box).trans (by constructor <;> simp [presentOutputs])
  have gantry : (presentOutputs h x).gantry = s.gantry := by
    rw [presentOutputs, onHead_gantry, kept.gantry, read.gantry]
  have other : (presentOutputs h x).head h.other = { s.head h.other with
      seq := (x.head h.other).seq, travel := (x.head h.other).travel, log := (x.head h.other).log } := by
    rw [presentOutputs, onHead_other, kept.other, read.other]
  have log : ((presentOutputs h x).head h).log = (x.head h).log := presentOutputs_log h x
  have track : ((presentOutputs h x).head h).track = (x.head h).track := presentOutputs_track h x
  have seq : ((presentOutputs h x).head h).seq = (x.head h).seq := presentOutputs_seq h x
  have stands : x.toolStation h = (readSample h i o s).toolStation h := by
    rw [State.toolStation, kept.gantry, kept.origin, State.toolStation]
  refine ⟨⟨gantry, box.settings, box.lines, box.tracker, box.pins, box.straps, box.pending⟩, box.port, by rw [other],
    by rw [other], by rw [other], by rw [other], by rw [other], by rw [other], by rw [other], ?_, ?_,
    fun tool ht => ?_, ?_, ?_, ?_, fun room c hc => ?_, fun c => ?_⟩
  · rw [presentOutputs_self, kept.profiles, read.profiles]
  · rw [presentOutputs_self, kept.drives, read.drives, readDrives]
  · rw [seq, kept.origin, read.seq, HeadUnit.originRead, ht]
  · rw [track, kept.station, read.self, presentOutputs_toolStation, stands]
  · rw [presentOutputs_self]
  · rw [log, kept.sensorFaults, heard.sensorFaults, fresh]
  · rw [fresh] at hc
    obtain ⟨kind, hf, r, mem, body⟩ := heard.recorded room c (List.mem_filter.mp hc).2
    refine ⟨kind, hf, r, by rw [log]; exact kept.records.subset mem, body.trans ?_⟩
    congr 1
    exact clampInt_readingOf hw c
  · obtain ⟨same, offset⟩ := kept.channel c
    have converted := heard.channels c
    rw [presentOutputs_front, kind]
    intro old new
    rw [converted] at same offset
    have hn : new = _ := same
    rw [hn]
    exact ⟨clampInt_readingOf hw c, convertedChannel_valid i (s.headState h) c old,
      convertedChannel_fault i (s.headState h) c old, rfl, rfl, rfl, rfl, offset,
      convertedChannel_effective i (s.headState h) c old, convertedChannel_grace i (s.headState h) c old,
      convertedChannel_lastValid i (s.headState h) c old⟩

end Sys2Proof.Machine

namespace Sys2Proof.Machine

/-! ## The lookahead queue over a command (R114, R116)

Only the arrival of a track report adds an entry to a head's lookahead queue, and only a head sample moves the tool
station that the unit has taken: over every other command each head's queue stays as it is, or is emptied. -/

/-- The tracking items of one head, with the queue and the tool station as they were, or the queue emptied. -/
def Tracking.Left (x y : Tracking) : Prop := y.queue = x.queue ∧ y.toolStation = x.toolStation ∨ y.queue = []

theorem Tracking.Left.of_eq {x y : Tracking} (e : y = x) : x.Left y := .inl (by rw [e]; exact ⟨rfl, rfl⟩)

theorem Tracking.Left.trans {x y z : Tracking} (a : x.Left y) (b : y.Left z) : x.Left z := by
  rcases b with ⟨queue, station⟩ | b
  · rcases a with ⟨queue', station'⟩ | a
    · exact .inl ⟨queue.trans queue', station.trans station'⟩
    · exact .inr (queue.trans a)
  · exact .inr b

theorem Tracking.Left.lawful {x y : Tracking} (a : x.Left y) (hx : x.Lawful) : y.Lawful := by
  rcases a with ⟨queue, station⟩ | e
  · rwa [Tracking.Lawful, queue, station]
  · simp [Tracking.Lawful, e]

/-- What leaves both heads' lookahead queues, or empties them. -/
structure TrackLeft (s t : State) : Prop where
  heads : ∀ k, (s.head k).track.Left (t.head k).track

theorem TrackLeft.refl (s : State) : TrackLeft s s := ⟨fun _ => .of_eq rfl⟩

theorem TrackLeft.trans {s t u : State} (a : TrackLeft s t) (b : TrackLeft t u) : TrackLeft s u :=
  ⟨fun k => (a.heads k).trans (b.heads k)⟩

/-- What leaves the tracking items; for the operations whose frame is known, the proof is by that frame. -/
theorem TrackLeft.of_same {s t : State} (e : ∀ k, (t.head k).track = (s.head k).track := by simp) : TrackLeft s t :=
  ⟨fun k => .of_eq (e k)⟩

theorem TrackLeft.of_units {s t : State} (ha : t.unitA = s.unitA) (hb : t.unitB = s.unitB) : TrackLeft s t :=
  .of_same fun k => by cases k <;> simp [State.head, ha, hb]

theorem TrackLeft.then_same {s t u : State} (a : TrackLeft s t)
    (e : ∀ k, (u.head k).track = (t.head k).track := by simp) : TrackLeft s u := a.trans (.of_same e)

theorem TrackLeft.after_same {s t u : State} (a : TrackLeft t u)
    (e : ∀ k, (t.head k).track = (s.head k).track := by simp) : TrackLeft s u := (TrackLeft.of_same e).trans a

theorem TrackLeft.of_ite {c : Prop} [Decidable c] {s a b : State} (ha : c → TrackLeft s a) (hb : ¬c → TrackLeft s b) :
    TrackLeft s (if c then a else b) := by
  split
  · next hc => exact ha hc
  · next hc => exact hb hc

theorem TrackLeft.foldl {α : Type} (f : State → α → State) (hf : ∀ s a, TrackLeft s (f s a)) (l : List α) (s : State) :
    TrackLeft s (l.foldl f s) := by
  induction l generalizing s with
  | nil => exact .refl s
  | cons a rest ih => exact (hf s a).trans (ih (f s a))

/-- A change of one head's tracking items that leaves its queue and tool station, or empties the queue. -/
theorem TrackLeft.of_self (h : Head) {s t : State} (hs : (s.head h).track.Left (t.head h).track)
    (ho : (t.head h.other).track = (s.head h.other).track) : TrackLeft s t where
  heads k := by
    rcases head_cases h k with rfl | rfl
    · exact hs
    · exact .of_eq ho

theorem emptyTrack_tracks (h : Head) (s : State) : TrackLeft s (emptyTrack h s) :=
  .of_self h (.inr (by simp [emptyTrack])) (by simp [emptyTrack])

/-- The work of a sample, the trim aside, leaves the queues or empties them. -/
theorem SampleStep.tracks {h : Head} {found : HeadState} {s t : State} (w : SampleStep h found s t) : TrackLeft s t := by
  cases w with
  | steers f hf => exact .of_self h (.inl (by simpa using hf _)) (by simp)
  | empties => exact emptyTrack_tracks h s
  | creates | counts | logs | ticks | plans | regulates | sequences | enters | offsets => exact .of_same

theorem SampleRun.tracks {h : Head} {found : HeadState} {s t : State} (w : SampleRun h found s t) : TrackLeft s t := by
  obtain ⟨w⟩ := w
  induction w with
  | refl => exact .refl s
  | tail _ x ih => exact ih.trans x.tracks

theorem interruptHead_tracks (h : Head) (c : Cause) (s : State) : TrackLeft s (interruptHead h c s) :=
  ((SampleRun.refl h .weld s).interrupts c).tracks

theorem endStart_tracks (h : Head) (s : State) : TrackLeft s (endStart h s) := (SampleRun.refl h .weld s).ends.tracks

theorem failStart_tracks (h : Head) (r : StartFailure) (s : State) : TrackLeft s (failStart h r s) :=
  ((SampleRun.refl h .weld s).fails r).tracks

/-! ### Requests -/

theorem TrackLeft.answers {s t : State} (r : TrackLeft s t) (kind : Byte) (st : Status) (d : List Byte) :
    TrackLeft s (answer kind st d t) := r.then_same

theorem answer_tracks (kind : Byte) (st : Status) (d : List Byte) (s : State) : TrackLeft s (answer kind st d s) :=
  .of_same

theorem forHead_tracks (kind : Byte) (code : Nat) (take : Head → State → State)
    (ht : ∀ h s, TrackLeft s (take h s)) (s : State) : TrackLeft s (forHead kind code take s) := by
  unfold forHead
  split
  · exact .of_ite (fun _ => ht _ s) fun _ => .of_same
  · exact .of_same

/-- A check that answers a refusal leaves the queues to what follows it. -/
theorem refuse_tracks {c : Prop} [Decidable c] {kind : Byte} {st : Status} {d : List Byte} {s t : State}
    (ht : TrackLeft s t) : TrackLeft s (if c then answer kind st d s else t) := .of_ite (fun _ => .of_same) fun _ => ht

theorem takeStartSeam_tracks (h : Head) (s : State) : TrackLeft s (takeStartSeam h s) := by
  unfold takeStartSeam
  refine refuse_tracks <| refuse_tracks <| refuse_tracks ?_
  split
  · exact answer_tracks ..
  · refine refuse_tracks <| refuse_tracks <| refuse_tracks <| refuse_tracks ?_
    exact TrackLeft.answers (.of_same (by simp [beginSeam])) ..

theorem stopHead_tracks (h : Head) (s : State) : TrackLeft s (stopHead h s) :=
  .of_ite (fun _ => failStart_tracks ..) fun _ => interruptHead_tracks ..

theorem broadcastStop_tracks (first : Head) (s : State) : TrackLeft s (broadcastStop first s) :=
  .foldl _ (fun s h => stopHead_tracks h s) _ s

theorem requestStopSeam_tracks (target : StopTarget) (s : State) : TrackLeft s (requestStopSeam target s) := by
  cases target with
  | head code =>
    exact forHead_tracks _ _ _ (fun h s => .of_ite (fun _ => (stopHead_tracks h s).answers ..) fun _ => answer_tracks ..) s
  | broadcast first => exact broadcastStop_tracks first s

theorem beginReentry_tracks (h : Head) (station : Int) (s : State) : TrackLeft s (beginReentry h station s) := by
  unfold beginReentry
  extract_lets q direction s1 s2 s3 s4
  have emptied : TrackLeft s s2 := (emptyTrack_tracks h _).after_same (by simp [s1])
  exact emptied.then_same (by simp [s4, s3])

theorem takeRestartSeam_tracks (overlap : Nat) (h : Head) (s : State) : TrackLeft s (takeRestartSeam overlap h s) :=
  refuse_tracks <| refuse_tracks <| refuse_tracks <| refuse_tracks <| refuse_tracks <|
    (beginReentry_tracks h _ s).answers ..

theorem takeClearPlan_tracks (h : Head) (s : State) : TrackLeft s (takeClearPlan h s) := by
  have cleared : TrackLeft s (s.onPlan h PlanStore.cleared) := .of_same
  unfold takeClearPlan
  dsimp only
  cases s.headState h
  case interrupted => exact TrackLeft.answers (.of_same (by simp [abandon])) ..
  case uncommissioned | commissioning | calDue | ready => exact cleared.answers ..
  all_goals exact answer_tracks ..

theorem takeAbandonSeam_tracks (h : Head) (s : State) : TrackLeft s (takeAbandonSeam h s) :=
  .of_ite (fun _ => TrackLeft.answers (.of_same (by simp [abandon])) ..) fun _ => answer_tracks ..

theorem takeResetHead_tracks (h : Head) (s : State) : TrackLeft s (takeResetHead h s) :=
  refuse_tracks (TrackLeft.answers (TrackLeft.then_same (t := s.onHead h HeadUnit.reset)
    (.of_self h (.inr (by simp [HeadUnit.reset, Tracking.reset])) (by simp))) ..)

theorem takeAppendSegment_tracks (r : SegmentRecord) (h : Head) (s : State) : TrackLeft s (takeAppendSegment r h s) := by
  have append (g : Segment) : TrackLeft s (appendToPlan h g s) := .of_ite (fun _ => .of_same) fun _ => .of_same
  unfold takeAppendSegment
  refine refuse_tracks ?_
  split
  · exact answer_tracks ..
  · exact refuse_tracks <| refuse_tracks <| refuse_tracks <| (append _).answers ..

theorem acceptProfile_tracks (h : Head) (load : ProfileLoad) (s : State) : TrackLeft s (acceptProfile h load s) := by
  unfold acceptProfile
  extract_lets st old new s1 s2 s3
  have planned : TrackLeft s s2 := .of_ite (fun _ => .of_same (by simp [s1])) fun _ => .of_same (by simp [s1])
  have budget : TrackLeft s s3 := .of_ite (fun _ => planned.then_same) fun _ => planned
  exact budget.then_same

theorem takeLoadProfile_tracks (load : ProfileLoad) (h : Head) (s : State) : TrackLeft s (takeLoadProfile load h s) :=
  refuse_tracks <| refuse_tracks <| refuse_tracks <| refuse_tracks <| (acceptProfile_tracks h load s).answers ..

theorem takeReadProfile_tracks (code : Nat) (h : Head) (s : State) : TrackLeft s (takeReadProfile code h s) := by
  unfold takeReadProfile
  dsimp only
  split <;> exact answer_tracks ..

theorem requestSetChannel_tracks (head channel setting enable : Nat) (value : Int) (s : State) :
    TrackLeft s (requestSetChannel head channel setting enable value s) := by
  refine forHead_tracks _ _ _ (fun h s => ?_) s
  unfold takeSetChannel
  split
  · split
    · exact answer_tracks ..
    · exact refuse_tracks (TrackLeft.answers (.of_ite (fun _ => .of_same) fun _ => .of_same) ..)
  · exact answer_tracks ..

theorem requestReadCounters_tracks (scope clear : Nat) (s : State) : TrackLeft s (requestReadCounters scope clear s) := by
  have head (h : Head) (c : Bool) : TrackLeft s (readHeadCounters h c s) :=
    .of_ite (fun _ => .of_same) fun _ => .of_same
  unfold requestReadCounters
  split
  · exact head ..
  · exact .of_ite (fun _ => head ..) fun _ => answer_tracks ..
  · exact .of_ite (fun _ => .of_same) fun _ => .of_same
  · exact answer_tracks ..

theorem takeReadStatus_tracks (h : Head) (s : State) : TrackLeft s (takeReadStatus h s) :=
  .of_ite (fun _ => .of_same) fun _ => .of_same

/-! ### Calibration, resets, the halt and the line -/

theorem takeCalibrate_tracks (h : Head) (s : State) : TrackLeft s (takeCalibrate h s) := by
  rw [takeCalibrate_eq]
  cases firstFailure (calibrateChecks h s) with
  | some st => exact answer_tracks ..
  | none => exact TrackLeft.answers (.of_same (by simp [beginCalibration])) ..

theorem abortCalibration_tracks (h : Head) (r : CalFailure) (s : State) : TrackLeft s (abortCalibration h r s) :=
  (((SampleRun.refl h .weld s).creates _ _).endsCalibration _).tracks

theorem deviceReset_tracks (s : State) : TrackLeft s (deviceReset s) := ⟨fun k => .inr (by cases k <;> rfl)⟩

theorem requestResetDevice_tracks (broadcast : Bool) (s : State) : TrackLeft s (requestResetDevice broadcast s) :=
  .of_ite (fun _ => .of_ite (fun _ => .refl s) fun _ => deviceReset_tracks s) fun _ => refuse_tracks .of_same

theorem resetTakesPlace_tracks (s : State) : TrackLeft s (resetTakesPlace s) :=
  .of_ite (fun _ => deviceReset_tracks s) fun _ => .refl s

theorem haltHead_tracks (h : Head) (src : HaltSource) (s : State) : TrackLeft s (haltHead h src s) := by
  unfold haltHead reportHalt
  dsimp only
  cases s.headState h
  case plunge | dwell | weld | pause => exact (interruptHead_tracks h .halt s).then_same
  case approach | spinup => exact (endStart_tracks h s).then_same
  case calibrating => exact (abortCalibration_tracks h .halt s).then_same
  all_goals exact .refl s

theorem haltEvent_tracks (src : HaltSource) (first : Head) (s : State) : TrackLeft s (haltEvent src first s) :=
  .foldl _ (fun s h => haltHead_tracks h src s) _ s

theorem assertHalt_tracks (first : Head) (s : State) : TrackLeft s (assertHalt first s) := by
  have driven : TrackLeft s { s with pins := { s.pins with halt := true } } := .of_units rfl rfl
  exact .of_ite (fun _ => driven) fun _ => driven.trans (haltEvent_tracks ..)

theorem takeRequest_tracks (i : Instr) (s : State) : TrackLeft s (takeRequest i s) := by
  cases i with
  | identify => exact answer_tracks ..
  | readStatus => exact forHead_tracks _ _ _ takeReadStatus_tracks s
  | startSeam => exact forHead_tracks _ _ _ takeStartSeam_tracks s
  | stopSeam => exact requestStopSeam_tracks ..
  | restartSeam => exact forHead_tracks _ _ _ (takeRestartSeam_tracks _) s
  | abandonSeam => exact forHead_tracks _ _ _ takeAbandonSeam_tracks s
  | resetHead => exact forHead_tracks _ _ _ takeResetHead_tracks s
  | appendSegment => exact forHead_tracks _ _ _ (takeAppendSegment_tracks _) s
  | clearPlan => exact forHead_tracks _ _ _ takeClearPlan_tracks s
  | readPlan => exact forHead_tracks _ _ _ (fun h s => answer_tracks ..) s
  | loadProfile => exact forHead_tracks _ _ _ (takeLoadProfile_tracks _) s
  | readProfile => exact forHead_tracks _ _ _ (takeReadProfile_tracks _) s
  | calibrate => exact forHead_tracks _ _ _ takeCalibrate_tracks s
  | setChannel => exact requestSetChannel_tracks ..
  | readChannels => exact forHead_tracks _ _ _ (fun h s => answer_tracks 0x0F .ok (s.channelBytes h) s) s
  | setLog => exact .of_ite (fun _ => .of_units rfl rfl) fun _ => answer_tracks ..
  | readRecords => exact forHead_tracks _ _ _ (fun h s => .of_same (by simp [takeReadRecords])) s
  | readCounters => exact requestReadCounters_tracks ..
  | resetDevice => exact requestResetDevice_tracks ..
  | _ => exact .refl s

theorem judgeFrame_tracks (f : FrameBuffer) (first : Head) (s : State) : TrackLeft s (judgeFrame f first s) := by
  have counted : TrackLeft s (countFrame s) := .of_same (by simp [countFrame])
  have broadcast : TrackLeft s (takeBroadcast f first (countFrame s)) := counted.trans <|
    .of_ite (fun _ => broadcastStop_tracks ..) fun _ => .of_ite (fun _ => requestResetDevice_tracks ..) fun _ => .refl _
  have addressed : TrackLeft s (takeAddressed f (countFrame s)) := by
    refine counted.trans (refuse_tracks (refuse_tracks ?_))
    split
    · exact takeRequest_tracks ..
    · exact answer_tracks ..
  exact .of_ite (fun _ => .of_ite (fun _ => .of_same) fun _ => .of_same) fun _ =>
    .of_ite (fun _ => broadcast) fun _ => addressed

theorem completeFrame_tracks (d : Byte) (first : Head) (s : State) : TrackLeft s (completeFrame d first s) :=
  (judgeFrame_tracks _ first _).after_same

theorem discardReply_tracks (s : State) : TrackLeft s (discardReply s).2 := by
  unfold discardReply
  split
  · exact deviceReset_tracks s
  · exact .of_same

theorem takeAddressCharacter_tracks (d : Byte) (s : State) : TrackLeft s (takeAddressCharacter d s) := by
  unfold takeAddressCharacter
  dsimp only
  split
  · exact .refl s
  split
  · exact discardReply_tracks s
  · have truncated : TrackLeft s
        (if s.port.rx = .receiving then countTruncated (discardReply s).2 else (discardReply s).2) :=
      (discardReply_tracks s).trans (.of_ite (fun _ => .of_same (by simp [countTruncated])) fun _ => .refl _)
    exact .of_ite (fun _ => truncated.then_same) fun _ => truncated.then_same

theorem takeDataCharacter_tracks (d : Byte) (first : Head) (s : State) : TrackLeft s (takeDataCharacter d first s) :=
  .of_ite (fun _ => .refl s) fun _ => .of_ite
    (fun _ => .of_ite (fun _ => completeFrame_tracks ..) fun _ => .of_same) fun _ => .of_same

theorem takeBreak_tracks (first : Head) (s : State) : TrackLeft s (takeBreak first s) := by
  unfold takeBreak
  dsimp only
  split
  · exact discardReply_tracks s
  · exact (discardReply_tracks s).trans (TrackLeft.after_same (haltEvent_tracks ..))

theorem lineHeldLow_tracks (first : Head) (s : State) : TrackLeft s (lineHeldLow first s) := by
  have held : TrackLeft s { s with pins := { s.pins with lineLow := true } } := .of_units rfl rfl
  exact .of_ite (fun _ => held) fun _ => .of_ite (fun _ => .refl s) fun _ =>
    .of_ite (fun _ => held.trans (takeBreak_tracks ..)) fun _ => held

theorem takeFramingError_tracks (s : State) : TrackLeft s (takeFramingError s) :=
  .of_ite (fun _ => .refl s) fun _ => .of_ite (fun _ => .of_units rfl rfl) fun _ => .of_units rfl rfl

theorem takeFrameSilence_tracks (s : State) : TrackLeft s (takeFrameSilence s) :=
  .of_ite (fun _ => .of_units rfl rfl) fun _ => .refl s

theorem startReply_tracks (s : State) : TrackLeft s (startReply s) :=
  .of_ite (fun _ => .of_units rfl rfl) fun _ => .refl s

theorem endReply_tracks (s : State) : TrackLeft s (endReply s) :=
  .of_ite (fun _ => TrackLeft.after_same (resetTakesPlace_tracks _)) fun _ => .refl s

/-! ### What a sample finds and leaves to a row of its own, and the update of the governor -/

theorem findExcursion_tracks (h : Head) (s : State) : TrackLeft s (findExcursion h s) := by
  unfold findExcursion
  split
  · exact .of_ite (fun _ => .of_same (by simp [recordExcursion])) fun _ => .refl s
  · exact .refl s

theorem findCalibrationJudged_tracks (h : Head) (s : State) : TrackLeft s (findCalibrationJudged h s) :=
  .of_ite (fun _ => ((SampleRun.refl h .calibrating s).judges rfl).tracks) fun _ => .refl s

theorem enterSpinup_tracks (h : Head) (s : State) : TrackLeft s (enterSpinup h s) := .of_same (by simp [enterSpinup])

theorem pauseWork_tracks (h : Head) (found : HeadState) (hold split : Bool) (s : State) :
    TrackLeft s (pauseWork h found hold split s) := by
  have ran : TrackLeft s (runPause h s) := .of_same (by simp [runPause])
  exact .of_ite (fun _ => .of_ite (fun _ => .of_ite (fun _ => ran) fun _ => ran.trans (interruptHead_tracks ..))
    fun _ => .of_same (by simp [endPause])) fun _ => .of_ite (fun _ => .of_same) fun _ => .refl s

theorem updateAct_tracks (u : State) (stops : Bool) (o : UpdateOrder) (s : State) (a : UpdateAct) :
    TrackLeft s (updateAct u stops o s a) := by
  cases a with
  | pause h => exact pauseWork_tracks ..
  | bedEnd h => exact .of_ite (fun _ => interruptHead_tracks ..) fun _ => .refl s
  | arrival h => exact .of_ite (fun _ => enterSpinup_tracks h s) fun _ => .refl s

theorem updateGovernor_tracks (i : UpdateInput) (o : UpdateOrder) (s : State) : TrackLeft s (updateGovernor i o s) := by
  have read : TrackLeft s (readUpdate i o s) := .of_same fun k => by rw [((readUpdate_read i o s).heads k).self]
  have moved : TrackLeft s { readUpdate i o s with gov := (readUpdate i o s).moveGovernor } :=
    read.trans (.of_units rfl rfl)
  exact .of_ite (fun _ => moved.trans (.foldl _ (updateAct_tracks _ _ o) _ _)) fun _ => read

/-! ### Every command but the head sample and the arrival of a track report -/

theorem running_tracks {f : State → State} (hf : ∀ s, TrackLeft s (f s)) {s t : State} (e : running f s = .next t) :
    TrackLeft s t := by
  unfold running at e
  split at e
  · cases e; exact .refl s
  · cases e; exact hf s

theorem abandonReport_tracks (s : State) : TrackLeft s (abandonReport s) := by
  unfold abandonReport
  split
  · exact .refl s
  · exact .of_units rfl rfl

theorem assertReset_tracks (s : State) : TrackLeft s (assertReset s) :=
  .of_same fun k => by cases k <;> rfl

/-- The commands that add no entry and move no tool station. -/
theorem exec_tracks (c : Instr) (hs : ∀ h i o, c ≠ .headSample h i o) (hr : ∀ l, c ≠ .trackReportArrival l)
    (hc : ∀ d, c ≠ .trackerCharacter d) {s t : State} (e : exec c s = .next t) : TrackLeft s t := by
  have found (h : Head) (x : State) := SampleRun.refl h .weld x
  cases c with
  | identify => exact running_tracks (takeRequest_tracks .identify) e
  | readStatus head => exact running_tracks (takeRequest_tracks (.readStatus head)) e
  | startSeam head => exact running_tracks (takeRequest_tracks (.startSeam head)) e
  | stopSeam target => exact running_tracks (takeRequest_tracks (.stopSeam target)) e
  | restartSeam head overlap => exact running_tracks (takeRequest_tracks (.restartSeam head overlap)) e
  | abandonSeam head => exact running_tracks (takeRequest_tracks (.abandonSeam head)) e
  | resetHead head => exact running_tracks (takeRequest_tracks (.resetHead head)) e
  | appendSegment head g => exact running_tracks (takeRequest_tracks (.appendSegment head g)) e
  | clearPlan head => exact running_tracks (takeRequest_tracks (.clearPlan head)) e
  | readPlan head => exact running_tracks (takeRequest_tracks (.readPlan head)) e
  | loadProfile head load => exact running_tracks (takeRequest_tracks (.loadProfile head load)) e
  | readProfile head code => exact running_tracks (takeRequest_tracks (.readProfile head code)) e
  | calibrate head => exact running_tracks (takeRequest_tracks (.calibrate head)) e
  | setChannel head c t on v => exact running_tracks (takeRequest_tracks (.setChannel head c t on v)) e
  | readChannels head => exact running_tracks (takeRequest_tracks (.readChannels head)) e
  | setLog pitch ta tb => exact running_tracks (takeRequest_tracks (.setLog pitch ta tb)) e
  | readRecords head n => exact running_tracks (takeRequest_tracks (.readRecords head n)) e
  | readCounters scope clear => exact running_tracks (takeRequest_tracks (.readCounters scope clear)) e
  | resetDevice broadcast => exact running_tracks (takeRequest_tracks (.resetDevice broadcast)) e
  | resetTakesPlace => exact running_tracks resetTakesPlace_tracks e
  | resetInputAsserted => cases e; exact assertReset_tracks s
  | resetInputNegated straps => cases e; exact ⟨fun k => .inr (by cases k <;> rfl)⟩
  | haltInputAsserted first => cases e; exact assertHalt_tracks first s
  | haltInputNegated => cases e; exact .of_units rfl rfl
  | lineBreak first => cases e; exact lineHeldLow_tracks first s
  | breakDetectorRearm =>
    cases e; exact .of_ite (fun _ => .of_units rfl rfl) fun _ => .of_units rfl rfl
  | addressCharacter d => exact running_tracks (takeAddressCharacter_tracks d) e
  | dataCharacter d first => exact running_tracks (takeDataCharacter_tracks d first) e
  | controlFramingError =>
    exact running_tracks takeFramingError_tracks e
  | frameSilenceTimeout => exact running_tracks takeFrameSilence_tracks e
  | frameComplete d first =>
    exact running_tracks (fun s => .of_ite (fun _ => completeFrame_tracks d first s) fun _ => .refl s) e
  | replyStart => exact running_tracks startReply_tracks e
  | replyEnd => exact running_tracks endReply_tracks e
  | trackReportArrival rest => exact absurd rfl (hr rest)
  | trackFramingError => exact running_tracks abandonReport_tracks e
  | trackSilenceTimeout => exact running_tracks abandonReport_tracks e
  | headSample h i o => exact absurd rfl (hs h i o)
  | atSpeed h => exact running_tracks (fun s => (found h s).findsAtSpeed.tracks) e
  | spinupTimeout h => exact running_tracks (fun s => (found h s).findsSpinupTimeout.tracks) e
  | plungeDone h => exact running_tracks (fun s => (found h s).findsPlungeDone.tracks) e
  | plungeTimeout h => exact running_tracks (fun s => (found h s).findsPlungeTimeout.tracks) e
  | dwellElapsed h => exact running_tracks (fun s => (found h s).findsDwellElapsed.tracks) e
  | exitRetractComplete h => exact running_tracks (fun s => (found h s).findsExitRetract.tracks) e
  | interruptingRetractComplete h => exact running_tracks (fun s => (found h s).findsInterruptingRetract.tracks) e
  | forceLimit h => exact running_tracks (fun s => .of_ite (fun _ => interruptHead_tracks ..) fun _ => .refl s) e
  | excursion h => exact running_tracks (findExcursion_tracks h) e
  | graceExhausted h => exact running_tracks (fun s => .of_ite (fun _ => interruptHead_tracks ..) fun _ => .refl s) e
  | calibrationJudged h => exact running_tracks (findCalibrationJudged_tracks h) e
  | governorUpdate i o => exact running_tracks (updateGovernor_tracks i o) e
  | arrival h => exact running_tracks (fun s => .of_ite (fun _ => enterSpinup_tracks h s) fun _ => .refl s) e
  | pauseLimit h => exact running_tracks (fun s => .of_ite (fun _ => interruptHead_tracks ..) fun _ => .refl s) e
  | trackerCharacter d => exact absurd rfl (hc d)

end Sys2Proof.Machine

namespace Sys2Proof.Machine

/-! ## The trim of the lookahead queue at a head sample (R115) -/

/-- A lookahead queue in strict order, whatever lies behind the tool (R114). -/
def Tracking.Ordered (x : Tracking) : Prop :=
  x.queue.length ≤ Config.lookaheadCapacity ∧ x.queue.Pairwise (fun a b => a.station < b.station)

theorem Tracking.Left.ordered {x y : Tracking} (a : x.Left y) (hx : x.Ordered) : y.Ordered := by
  rcases a with ⟨queue, -⟩ | e
  · rwa [Tracking.Ordered, queue]
  · simp [Tracking.Ordered, e]

theorem trimQueue_suffix (t : Int) (l : List TrackEntry) : trimQueue t l <:+ l := by
  induction l with
  | nil => exact List.suffix_rfl
  | cons e rest ih =>
    rw [trimQueue]
    split
    · exact ih.trans (List.suffix_cons e rest)
    · exact List.suffix_rfl

/-- Behind the first entry of a trimmed queue everything is ahead of the tool. -/
theorem trimQueue_tail (t : Int) (l : List TrackEntry) : ∀ e ∈ (trimQueue t l).tail, t < e.station := by
  induction l with
  | nil => simp [trimQueue]
  | cons e rest ih =>
    rw [trimQueue]
    split
    · exact ih
    · next ahead => simpa using ahead

theorem Tracking.trim_lawful {x : Tracking} (hx : x.Ordered) : x.trim.Lawful := by
  obtain ⟨short, ascends⟩ := hx
  have suffix := trimQueue_suffix x.toolStation x.queue
  exact ⟨suffix.length_le.trans short, ascends.sublist suffix.sublist, trimQueue_tail x.toolStation x.queue⟩

/-- Both heads' lookahead queues are lawful (R114). -/
def TrackLawful (s : State) : Prop := ∀ k, (s.head k).track.Lawful

theorem TrackLeft.lawful {s t : State} (w : TrackLeft s t) (hs : TrackLawful s) : TrackLawful t :=
  fun k => (w.heads k).lawful (hs k)

/-- The work of a sample finds a queue in order and leaves it lawful: the tracking unit trims it once (R115, log 1). -/
theorem sampleActs_lawful (h : Head) (o : SampleOrder) {r : State} (own : (r.head h).track.Ordered)
    (other : (r.head h.other).track.Lawful) : TrackLawful (sampleActs h (r.head h) o (actOrder o) r) := by
  have works (a : SampleAct) (ha : a ≠ .track) (later : List SampleAct) (x : State) :
      TrackLeft x (placedAct h (r.head h) o a later x) := (placedAct_steps (r.head h) o later x ha).tracks
  obtain ⟨front, rest, order, before, behind, -⟩ := actOrder_at o (a := .track) (by decide)
  obtain ⟨m, left, onward, -⟩ := sampleActs_through (R := TrackLeft) h (r.head h) o front (.track :: rest) (.refl r)
    fun a ha later x w => w.trans (works a (fun e => before (e ▸ ha)) later x)
  obtain ⟨f, hf, run⟩ := trackWork_steps h (r.head h).seq.state (r.head h) o.gapFirst m
  have trimmed : TrackLawful (m.onTrack h f) := by
    intro k
    rcases head_cases h k with rfl | rfl
    · rw [onTrack_self]
      rcases hf with rfl | rfl
      · exact Tracking.trim_lawful ((left.heads k).ordered own)
      · exact Tracking.trim_lawful own
    · rw [onTrack_other]
      exact (left.heads h.other).lawful other
  have tracked : TrackLawful (trackWork h (r.head h) o.gapFirst m) := run.tracks.lawful trimmed
  have worked := sampleActs_all (R := TrackLeft) h (r.head h) o rest (.refl (trackWork h (r.head h) o.gapFirst m))
    fun a ha later x w => w.trans (works a (fun e => behind (e ▸ ha)) later x)
  rw [order, onward]
  exact worked.lawful tracked

theorem sampleHead_lawful (h : Head) (i : SampleInput) (o : SampleOrder) {s : State} (hs : TrackLawful s) :
    TrackLawful (sampleHead h i o s) := by
  have read := readSample_read h i o s
  have own : ((readSample h i o s).head h).track.Ordered := by
    rw [read.self]
    exact ⟨(hs h).1, (hs h).2.1⟩
  have worked := sampleActs_lawful h o own (read.other ▸ hs h.other)
  unfold sampleHead
  split
  · exact TrackLeft.lawful (.of_same fun k => by
      rcases head_cases h k with rfl | rfl
      · exact presentOutputs_track ..
      · rw [presentOutputs, onHead_other]) worked
  · exact hs

/-! ## The entry of a track report joins the tail (R111, R114) -/

/-- A head takes reports only with its TOOL set loaded (R111, R142). -/
theorem tool_of_takesReports {s : State} (hc : CommissioningLaw s) {h : Head} (ht : takesReports (s.head h).seq = true) :
    ∃ t, (s.head h).profiles.tool = some t := by
  obtain ⟨⟨-, -, tool, -, -⟩, ⟨uncommissioned, commissioning⟩, -⟩ := hc h
  refine Option.isSome_iff_exists.mp (tool.mpr ?_)
  rw [State.headState] at uncommissioned commissioning
  rw [takesReports] at ht
  cases hs : (s.head h).seq.state <;> simp_all <;> omega

/-- An entry at least the track pitch ahead of the last one and ahead of the tool keeps the queue lawful. -/
theorem Tracking.Lawful.append {x : Tracking} {e : TrackEntry} {pitch : Nat} (hx : x.Lawful) (hp : 1 ≤ pitch)
    (room : x.queue.length < Config.lookaheadCapacity) (ahead : x.toolStation < e.station)
    (next : ∀ l, x.queue.getLast? = some l → l.station + (pitch : Int) ≤ e.station) :
    ({ x with queue := x.queue ++ [e] } : Tracking).Lawful := by
  obtain ⟨-, ascends, tail⟩ := hx
  refine ⟨by simpa using room, List.pairwise_append.mpr ⟨ascends, List.pairwise_singleton .., fun a ha b hb => ?_⟩,
    fun b hb => ?_⟩
  · obtain rfl := List.mem_singleton.mp hb
    obtain ⟨front, last, split⟩ := List.eq_nil_or_concat' x.queue |>.resolve_left (List.ne_nil_of_mem ha)
    have beyond := next last (by simp [split])
    rw [split] at ha ascends
    rcases List.mem_append.mp ha with hf | hl
    · have := (List.pairwise_append.mp ascends).2.2 a hf last (List.mem_singleton.mpr rfl)
      omega
    · obtain rfl := List.mem_singleton.mp hl
      omega
  · cases hq : x.queue with
    | nil => simp [hq] at hb
    | cons first rest =>
      rw [hq] at hb tail
      rcases List.mem_append.mp (show b ∈ rest ++ [e] from hb) with hr | he
      · exact tail b hr
      · obtain rfl := List.mem_singleton.mp he
        exact ahead

theorem acceptEntry_lawful (h : Head) (e : TrackEntry) {s : State} (hc : CommissioningLaw s) (hs : LookaheadLaw s) :
    TrackLawful (acceptEntry h e s) := by
  have lawful : TrackLawful s := fun k => (hs k).1
  have counted (f : HeadCounters → HeadCounters) (x : State) (hx : TrackLawful x) : TrackLawful (countHead h f x) :=
    TrackLeft.lawful .of_same hx
  unfold acceptEntry
  dsimp only
  split
  · exact lawful
  next takes =>
  split
  · exact counted _ s lawful
  split
  · exact counted _ s lawful
  next ahead =>
  split
  · exact counted _ s lawful
  split
  · exact lawful
  next apart =>
  split
  · exact counted _ s lawful
  next room =>
  refine counted _ _ fun k => ?_
  rcases head_cases h k with rfl | rfl
  · obtain ⟨tool, ht⟩ := tool_of_takesReports hc (h := k) (by simpa using takes)
    rw [onTrack_self]
    refine (hs k).1.append ((hs k).2 tool ht) (by omega) (by omega) fun l hl => ?_
    simp only [hl, Option.any_some, HeadUnit.tool, ht, Option.getD_some, decide_eq_true_eq, Int.not_lt] at apart
    exact apart
  · rw [onTrack_other]
    exact lawful h.other

theorem acceptReport_lawful (l : List Byte) {s : State} (hc : CommissioningLaw s) (hs : LookaheadLaw s) :
    TrackLawful (acceptReport l s) := by
  have bad : TrackLawful (countBadReport s) :=
    TrackLeft.lawful (.of_same (by simp [countBadReport])) fun k => (hs k).1
  unfold acceptReport
  split
  · split
    · exact acceptEntry_lawful _ _ hc hs
    · exact bad
  · exact bad

section
variable {s t : State}

theorem CommissioningLaw.of_units (hc : CommissioningLaw s) (ha : t.unitA = s.unitA) (hb : t.unitB = s.unitB) :
    CommissioningLaw t := by
  intro h
  have same : t.head h = s.head h := by cases h <;> assumption
  simpa [State.headState, same] using hc h

theorem LookaheadLaw.of_units (hs : LookaheadLaw s) (ha : t.unitA = s.unitA) (hb : t.unitB = s.unitB) :
    LookaheadLaw t := by
  intro h
  have same : t.head h = s.head h := by cases h <;> assumption
  simpa [same] using hs h

theorem takeTrackerCharacter_lawful (d : Byte) (hc : CommissioningLaw s) (hs : LookaheadLaw s) :
    TrackLawful (takeTrackerCharacter d s) := by
  have received (r : TrackReceiver) : LookaheadLaw { s with tracker := r } := hs.of_units rfl rfl
  unfold takeTrackerCharacter
  split
  · split
    · exact fun k => (received _ k).1
    · exact fun k => (hs k).1
  · split
    · exact fun k => (received _ k).1
    · exact acceptReport_lawful _ (hc.of_units rfl rfl) (received _)

theorem takeReportArrival_lawful (rest : List Byte) (hc : CommissioningLaw s) (hs : LookaheadLaw s) :
    TrackLawful (takeReportArrival rest s) := by
  unfold takeReportArrival
  dsimp only
  split
  · exact acceptReport_lawful _ (hc.of_units rfl rfl) (hs.of_units rfl rfl)
  · exact fun k => (hs k).1

theorem running_lawful {f : State → State} (hs : TrackLawful s) (hf : TrackLawful (f s)) (e : running f s = .next t) :
    TrackLawful t := by
  unfold running at e
  split at e
  · cases e; exact hs
  · cases e; exact hf

/-- Every command leaves both queues lawful. -/
theorem exec_lawful (c : Instr) (hc : CommissioningLaw s) (hs : LookaheadLaw s) (e : exec c s = .next t) :
    TrackLawful t := by
  have lawful : TrackLawful s := fun k => (hs k).1
  by_cases sample : ∃ h i o, c = .headSample h i o
  · obtain ⟨h, i, o, rfl⟩ := sample
    exact running_lawful lawful (sampleHead_lawful h i o lawful) e
  by_cases report : ∃ l, c = .trackReportArrival l
  · obtain ⟨l, rfl⟩ := report
    exact running_lawful lawful (takeReportArrival_lawful l hc hs) e
  by_cases character : ∃ d, c = .trackerCharacter d
  · obtain ⟨d, rfl⟩ := character
    exact running_lawful lawful (takeTrackerCharacter_lawful d hc hs) e
  push Not at sample report character
  exact (exec_tracks c sample report character e).lawful lawful

end

/-! ## The TOOL track pitch (R144) -/

/-- LOAD PROFILE settles a TOOL set's depths alone. -/
theorem storeProfile_pitch {p : ProfileStore} {load : ProfileLoad} (hp : PitchPositive p) (hi : loadInRange load = true) :
    PitchPositive (storeProfile p load) := by
  intro t ht
  cases load with
  | limits l =>
    obtain ⟨old, ho, rfl⟩ := Option.map_eq_some_iff.mp (show p.tool.map (dependentTool (settleLimits l)) = some t from ht)
    exact hp old ho
  | tool x =>
    obtain rfl : settleTool p.limits x = t := Option.some.inj ht
    simp only [loadInRange, toolInRange, Bool.and_eq_true, decide_eq_true_eq] at hi
    show 1 ≤ x.trackPitch
    omega
  | regulator | travel | unknown => exact hp t ht

theorem HeadMove.keeps_pitch {v w : HeadView} (m : HeadMove v w) (hv : PitchPositive v.profiles) :
    PitchPositive w.profiles := by
  cases m with
  | loads load _ _ hi => exact storeProfile_pitch hv hi
  | powersOn => exact nofun
  | _ => exact hv

/-! ## The settlement -/

/-- Settles O11: entries come by reports alone, each ahead of the tool and of the last entry by the track pitch; the tool
station moves at a head sample alone, which trims the queue behind it. -/
theorem lookaheadOrderKept : Obligations.LookaheadOrderKept := by
  intro s t hc hs e h
  refine ⟨?_, (step_moves e).keeps (P := fun v => PitchPositive v.profiles) (fun _ _ m hv => m.keeps_pitch hv) h (hs h).2⟩
  unfold step at e
  split at e
  · cases e
    exact (hs h).1
  · next c rest _ =>
    exact exec_lawful (s := { s with pending := rest }) c (hc.of_units rfl rfl) (hs.of_units rfl rfl) e h

end Sys2Proof.Machine
